-- ==== Sys2Proof/Word.lean ====
section
/-! DEFINITION. The words of the part: bytes, sequence numbers, timebase readings, addresses. -/

namespace Sys2Proof

/-- One byte on a port or on the control link. -/
abbrev Byte := BitVec 8

/-- A sequence number or an acknowledgement number: 16 bits, modulo 65536 (section 1.4). -/
abbrev Seq := BitVec 16

/-- A reading of one of the two timebase counts: 32 bits, wrapping (R183). -/
abbrev Stamp := BitVec 32

/-- An Ethernet address, its first byte the most significant (R21). -/
abbrev Address := BitVec 48

/-- A timer of the part: stopped, or running until the moment given in µs of `State.clock`. -/
abbrev Timer := Option Nat

end Sys2Proof
end

