-- ==== Sys2Proof/Syntax.lean ====
section
/-! DEFINITION. The commands: one constructor for each row of spec/opcode_table.json. A taken request has no operand of its
own: its kind, tag and body stand at the head of the inbound queue (R173). -/

namespace Sys2Proof

/-- The two paths to the concentrator (section 0.5). -/
inductive Bearer where
  | fibre
  | radio
  deriving DecidableEq, Repr

/-- The bearer that is not this one. -/
def Bearer.other : Bearer → Bearer
  | .fibre => .radio
  | .radio => .fibre

/-- The steps of the part, one for each row of the table. -/
inductive Instr where
  /-- POWER_ON (R184). Release of RESET_N puts every block in its power-on state; the event unit then clears flags, mask, queues and counts and sets STARTED. -/
  | powerOn
  /-- CONTROL_MESSAGE_RECEIVED (R172). The envelope parser completes a message from the host, drops it as LINK bad or offers it to the inbound queue. The bytes that came from the host, in order. -/
  | controlMessageReceived (bytes : List Byte)
  /-- INTER_BYTE_TIMEOUT (R172). More than 20 ms passes between two bytes of one message; the message is abandoned, counted LINK bad, and hunting resumes. -/
  | interByteTimeout
  /-- UNKNOWN_REQUEST (R174). A request of an undefined kind is taken from the inbound queue and refused with UNKNOWN. -/
  | unknownRequest
  /-- IDENTIFY (R175). Taken request returning the vendor code, part code, revision and carry protocol version. -/
  | identify
  /-- GET_STATUS (R175). Taken request returning the selector, session, receiver, store, module, judge, damping and handover record state. -/
  | getStatus
  /-- SET_LANE (R28). Taken request that checks and replaces one lane's profile, trimming the lane if its new limit is below its occupancy. -/
  | setLane
  /-- GET_LANE (R28). Taken request returning one lane's profile and occupancy. -/
  | getLane
  /-- SET_CLASS (R26). Taken request that writes one whole class map entry. -/
  | setClass
  /-- GET_CLASS (R26). Taken request returning the fields of one class map entry. -/
  | getClass
  /-- SET_JUDGE (R122). Taken request that writes one bearer's judge settings, restarting window counting when W changes. -/
  | setJudge
  /-- GET_JUDGE (R122). Taken request returning one bearer's judge settings. -/
  | getJudge
  /-- SET_DAMPING (R130). Taken request that replaces one bearer's damping parameters, clamps P, re-tests suppression and may restart the decay clock. -/
  | setDamping
  /-- SET_CARRY (R51). Taken request, accepted only in STOPPED, that writes the carry settings and clears all mark counters. -/
  | setCarry
  /-- SET_MODULE (R171). Taken request, accepted only in STOPPED, that writes all module settings. -/
  | setModule
  /-- SET_SUPPLY (R35). Taken request that sets the supply state, changing battery bars and the effective standby level. -/
  | setSupply
  /-- START (R138). Taken request that moves the selector from STOPPED to OUTAGE, begins judging and starts the decay clocks. -/
  | start
  /-- HALT_IMMEDIATE (R139). Taken HALT in IMMEDIATE mode: the selector enters STOPPED and the frames and mark streams leaving the ports are cut off. -/
  | haltImmediate
  /-- HALT_AT_BOUNDARY (R139). Taken HALT in AT_BOUNDARY mode: the selector enters STOPPED while the frames and mark streams leaving the ports complete. -/
  | haltAtBoundary
  /-- PIN (R146). Taken request that sets the pin, re-works the fibre's eligibility and acts on the selector state. -/
  | pin
  /-- HANDOVER_NOW (R147). Taken request that starts a planned handover to the bearer that is not active. -/
  | handoverNow
  /-- READ_EVENTS (R180). Taken request returning the flags, conditions, mask and attention mode. -/
  | readEvents
  /-- CLEAR_EVENTS (R180). Taken request that clears the named event flags and re-works ATTN. -/
  | clearEvents
  /-- SET_ALERT (R180). Taken request that replaces the mask and attention mode and re-works ATTN. -/
  | setAlert
  /-- READ_COUNTS (R182). Taken request returning one count group, clearing it when asked. -/
  | readCounts
  /-- RESET (R185). Taken request whose OK reply is queued, after which no further request is taken until the soft reset. -/
  | reset
  /-- MESSAGE_SENT (R176). The last byte of the head outbound message leaves the UART; the message leaves the queue, the next starts, and a waiting request may be taken. -/
  | messageSent
  /-- HOME_FRAME_ARRIVAL (R23). A frame's last byte arrives at the home port; it is screened, stamped, tagged and handed to the classifier. The Ethernet frame, its frame check included. -/
  | homeFrameArrival (bytes : List Byte)
  /-- HOME_LINK_CHANGE (R37). The home port's Ethernet link goes up or down, stopping or resuming reception and delivery. Whether the link is up now. -/
  | homeLinkChange (up : Bool)
  /-- DELIVERY_COMPLETE (R37). The last byte of the delivery queue's head leaves the home port; the frame leaves the queue and the next head starts. -/
  | deliveryComplete
  /-- FRAME_DEPARTURE_COMPLETE (R61). A carry frame's last byte leaves a data port; it is counted, and the port is freed for the next frame by the order of R55. The data port, by its bearer. -/
  | frameDepartureComplete (bearer : Bearer)
  /-- TALLY_TIMER_EXPIRY (R60). The tally timer expires with the tally owed and a TALLY is placed among the active bearer's waiting frames. -/
  | tallyTimerExpiry
  /-- FIBRE_FRAME_ARRIVAL (R21). An Ethernet frame arrives at the fibre port and is discarded, counted stale-epoch, or handed to the receiver as a carry frame or check failure. The Ethernet frame, its frame check included. -/
  | fibreFrameArrival (bytes : List Byte)
  /-- MODULE_UNIT_ARRIVAL (R170). A module data unit arrives from a READY module and is handed to the receiver as a radio carry frame or check failure. The unit's bytes. -/
  | moduleUnitArrival (bytes : List Byte)
  /-- OPEN_RETRY_TIMER_EXPIRY (R15). The open retry timer expires in OPENING; OPEN is sent again and the timer restarts. -/
  | openRetryTimerExpiry
  /-- REWIND_TIMER_EXPIRY (R92). The rewind timer expires; below the limit a REWIND stream is requested and the timer restarts, at the limit carry failure follows. -/
  | rewindTimerExpiry
  /-- INTERVAL_END (R107). A judged bearer's interval ends and the next begins: the interval is marked and counted, the verdict tested, a PROBE made due and, for the radio, a SIGNAL asked. The judge, by its bearer. -/
  | intervalEnd (bearer : Bearer)
  /-- PROBE_ENTRY_EXPIRY (R111). The timebase reaches a probe table entry's expiry; the entry is removed and counted PROBE lost. The table, by its bearer, and the tag of the entry. -/
  | probeEntryExpiry (bearer : Bearer) (tag : Byte)
  /-- FIBRE_LINK_DOWN (R119). The fibre port's Ethernet link goes down, closing the port and delivering hard-fail evidence to the fibre judge. -/
  | fibreLinkDown
  /-- FIBRE_LINK_UP (R113). The fibre port's Ethernet link comes up, opening the port; the fibre rises only through counting. -/
  | fibreLinkUp
  /-- DECAY_TICK (R127). A bearer's decay clock ticks; P decays and suppression is tested for release. The clock, by its bearer. -/
  | decayTick (bearer : Bearer)
  /-- RETURN_HOLD_EXPIRY (R145). The return hold timer expires in ON_RADIO and a planned handover to the fibre starts. -/
  | returnHoldExpiry
  /-- DRAIN_TIMER_EXPIRY (R149). The drain timer expires and the selector switches to the target with outcome EXPIRED. -/
  | drainTimerExpiry
  /-- POWERED (R160). The module answers POWER_UP in WAKING; the module enters SEARCHING and ATTACH is sent. -/
  | powered
  /-- ATTACHED (R162). The module answers ATTACH with ATTACHED; the module enters READY, opens the port and radio judging begins. -/
  | attached
  /-- ATTACH_FAILED (R160). The module answers ATTACH with ATTACH_FAILED; another round starts or the search fails into RELEASING. -/
  | attachFailed
  /-- SEARCH_ROUND_END (R160). A search round passes with its ATTACH unanswered, handled as a round failure. -/
  | searchRoundEnd
  /-- SIGNAL_ANSWER (R167). The module answers SIGNAL with a level or none; the reading goes to the radio judge and deferred level changes are acted on. The level answered in dBm, or none. -/
  | signalAnswer (level : Option Int)
  /-- DETACHED (R166). DETACHED from the module: in READY it is hard-fail evidence and the module searches again or releases; in RELEASING POWER_OFF is sent. -/
  | detached
  /-- OFF_ANSWER (R161). The module answers POWER_OFF in RELEASING; MOD_PWR goes low and the module enters OFF or RESTING by release cause. -/
  | offAnswer
  /-- RESPONSE_TIMEOUT (R159). The response limit of POWER_UP, SIGNAL, DETACH or POWER_OFF passes; a fault is counted, hard-fail evidence given and the module released or rested. -/
  | responseTimeout
  /-- LINGER_EXPIRY (R164). The linger timer expires; the module enters RELEASING, or release is held due behind an outstanding SIGNAL. -/
  | lingerExpiry
  /-- REST_TIMER_EXPIRY (R163). The rest timer expires; the module enters OFF and wakes again if wanted. -/
  | restTimerExpiry
  /-- POLL_START_PASSES (R168). The poll start after a completed hand-over passes and the handshake enters WATCHING. -/
  | pollStartPasses
  /-- MOD_READY_SEEN (R168). MOD_READY is seen high in WATCHING, freeing the handshake, or in STALLED, offering the unit again. -/
  | modReadySeen
  /-- READY_LIMIT_PASSES (R169). The ready limit passes without MOD_READY; in WATCHING the unit stalls, in STALLED it is offered again. -/
  | readyLimitPasses
  /-- PACING_GAP_END (R170). In PACED mode the pacing gap after a hand-over passes and the handshake becomes FREE. -/
  | pacingGapEnd
  /-- RESET_N_ASSERTED (R181). RESET_N is driven active; while it is held, ATTN is driven high, and a frame arriving at or leaving any port is abandoned. -/
  | resetNAsserted
  deriving DecidableEq, Repr

end Sys2Proof
end

