-- ==== Sys2Proof/Decode.lean ====
section
/-! DEFINITION. The commands that words spell. spec/opcode_table.json gives bits to none of its 58 rows, so no word spells a
command. The byte layouts that the spec does give (carry frames, Ethernet encapsulation, the control envelope) are read and
written in Sys2Proof/Machine/Formats.lean. -/

namespace Sys2Proof

/-- The command that a word of the table spells: none, since the table gives no row any bits. -/
def decodeTableWord (_nbits _w : Nat) : Option Instr := none

end Sys2Proof
end

