-- ==== Sys2Proof/Config.lean ====
section
/-! DEFINITION. What one part fixes, and the free values: the constants of the spec's rules, the fibre address fixed at
manufacture, and the free choice between two frames due together. -/

namespace Sys2Proof.Config

/-- The 48 bits fixed at manufacture for the fibre address (R21); the spec gives no value. -/
opaque fibreAddressBits : Address

/-- The part's fibre address: an individual address, so bit 0 of its first byte is 0 (R21). -/
def fibreAddress : Address := fibreAddressBits &&& 0xFEFFFFFFFFFF#48

/-- Of a PROBE and an OPEN that fall due in one event on one bearer, whether the PROBE leaves first: "either order" (R55),
so a free choice, made anew for each number. -/
opaque probeLeavesFirst : Nat → Bool

/-- The upper bound of every count (R182). -/
def countMax : Nat := 4294967295

/-- The replay store's records (R44). -/
def maxRecords : Nat := 1024
/-- The replay store's cells (R44). -/
def maxCells : Nat := 2048
/-- The bytes of one cell (R44). -/
def cellBytes : Nat := 128
/-- The delivery queue's places (R36). -/
def deliveryPlaces : Nat := 64
/-- The inbound queue's places (R173). -/
def inboundPlaces : Nat := 4
/-- The outbound queue's places (R176). -/
def outboundPlaces : Nat := 8
/-- The probe table's entries (section 6.2). -/
def probeEntries : Nat := 4
/-- The frame slots that the four lane limits share (R27). -/
def laneSlots : Nat := 512
/-- The open retry period in µs (section 1.6: 1,000 ms). -/
def retryMicros : Nat := 1000000
/-- The response limit of SIGNAL, DETACH and POWER_OFF in µs (R158: 2,000 ms). -/
def responseMicros : Nat := 2000000
/-- The gap between two bytes of one message after which it is abandoned, in µs (R172: 20 ms). -/
def byteGapMicros : Nat := 20000
/-- One unit of the timebase in µs (R183: 0.1 ms). -/
def unitMicros : Nat := 100

end Sys2Proof.Config
end

