-- ==== Sys2Proof/Machine/State.lean ====
section
/-! DEFINITION. The state of the part, block by block, as plain data, and the state right after power-on. -/

namespace Sys2Proof.Machine

/-! ## Lanes and the home port (Chapter 2) -/

/-- The four upstream queues (section 0.5). -/
inductive Lane where
  | voice
  | signal
  | priority
  | bulk
  deriving DecidableEq, Repr

/-- What a full lane gives up (R30). -/
inductive OverflowPolicy where
  | dropNew
  | dropOld
  deriving DecidableEq, Repr

/-- A lane's profile (R27). -/
structure LaneProfile where
  /-- YES: the lane is replay-class (R8). -/
  replay : Bool
  /-- In frames. -/
  limit : Nat
  policy : OverflowPolicy
  /-- In ms; 0 is none. -/
  maxAge : Nat
  radioBar : Bool
  batteryBar : Bool
  deriving DecidableEq, Repr

/-- An entry of a lane queue: a home frame with its arrival time in ms (R23, section 2.3). -/
structure QueuedFrame where
  bytes : List Byte
  arrival : Stamp
  deriving DecidableEq, Repr

/-- One lane: its profile and its queue, the head first. -/
structure LaneState where
  profile : LaneProfile
  queue : List QueuedFrame
  deriving DecidableEq, Repr

/-- The supply state (R35). -/
inductive Supply where
  | mains
  | battery
  deriving DecidableEq, Repr

/-- The lane unit (section 2.3, R35). -/
structure Lanes where
  voice : LaneState
  signal : LaneState
  priority : LaneState
  bulk : LaneState
  supply : Supply
  deriving DecidableEq, Repr

/-- The tag key of a class map entry (section 2.2). -/
inductive TagKey where
  | any
  | untagged
  | tag (number : BitVec 12)
  deriving DecidableEq, Repr

/-- The priority key of a class map entry (section 2.2). -/
inductive PriorityKey where
  | any
  | level (number : BitVec 3)
  deriving DecidableEq, Repr

/-- An entry of the class map (section 2.2). -/
structure ClassEntry where
  used : Bool
  tagKey : TagKey
  priorityKey : PriorityKey
  lane : Lane
  deriving DecidableEq, Repr

/-- An entry of the delivery queue (R36). -/
structure Delivery where
  payload : List Byte
  lane : Lane
  deriving DecidableEq, Repr

/-- The home port (R23, R36, R37). -/
structure Home where
  linkUp : Bool
  delivery : List Delivery
  /-- The bytes of the Ethernet frame that left the home port last, its frame check included; none before the first (the model's
  own record of what R37 sends; log entry 40). -/
  sent : List Byte
  deriving DecidableEq, Repr

/-- The dispatcher's set of pause reasons, each present or absent (R31). -/
structure Pause where
  /-- "session not OPEN". -/
  session : Bool
  /-- "selector not ON_FIBRE or ON_RADIO". -/
  selector : Bool
  /-- "replay pass in progress". -/
  pass : Bool
  /-- "mark stream in progress". -/
  stream : Bool
  deriving DecidableEq, Repr

/-! ## Carry frames and the session (Chapter 1) -/

/-- The eight kinds of carry frame (section 1.1). -/
inductive FrameKind where
  | opening
  | opened
  | data
  | tally
  | rewind
  | replay
  | probe
  | echo
  deriving DecidableEq, Repr

/-- A carry frame by its header fields and its payload, in the widths of R20. The check is not a field: it is computed over
the bytes (R6). -/
structure CarryFrame where
  version : Byte
  kind : Byte
  lane : BitVec 2
  seqFlag : Bool
  resent : Bool
  void : Bool
  bearer : BitVec 2
  tag : Byte
  epoch : BitVec 16
  seq : Seq
  ackno : Seq
  length : BitVec 16
  payload : List Byte
  deriving DecidableEq, Repr

/-- The session state (section 1.6). -/
inductive SessionStatus where
  | closed
  | opening
  | opened
  deriving DecidableEq, Repr

/-- The session control (section 1.6). -/
structure Session where
  status : SessionStatus
  /-- The epoch counter (R12). -/
  epoch : BitVec 16
  /-- The open retry timer (R15). -/
  retry : Timer
  deriving DecidableEq, Repr

/-! ## The replay store and the sender (Chapters 3 and 5) -/

/-- A record of the replay store (R43). `payload` is absent once the record is voided: the void marker and the length are
views of it. -/
structure StoreRecord where
  seq : Seq
  lane : Lane
  arrival : Stamp
  /-- Saturates at 255 (R50). -/
  resends : Nat
  payload : Option (List Byte)
  deriving DecidableEq, Repr

/-- A frame waiting to leave, with the content fixed when it fell due (R56). -/
inductive WaitingFrame where
  | opening (epoch : BitVec 16)
  | echo (tag : Byte) (bearer : BitVec 2) (epoch : BitVec 16)
  /-- `interval` is the number of the interval in which the PROBE fell due (R110). -/
  | probe (tag : Byte) (epoch : BitVec 16) (interval : Nat)
  | tally (epoch : BitVec 16)
  deriving DecidableEq, Repr

/-- The two kinds of mark (section 5.1). -/
inductive MarkKind where
  | rewind
  | replay
  deriving DecidableEq, Repr

/-- A mark stream in progress (R82). `left` counts the marks that have not left yet, the one leaving included; `stopping` says
that a session restart has interrupted the stream and its last frame is still leaving (R19). -/
structure MarkStream where
  kind : MarkKind
  bearer : Bearer
  left : Nat
  stopping : Bool
  deriving DecidableEq, Repr

/-- The phase of the replay pass (R95). -/
inductive PassPhase where
  | none
  | waiting
  | announcing
  | resending
  deriving DecidableEq, Repr

/-- The carry sender and the replay store. -/
structure Sender where
  /-- N, the next sequence number (R9). -/
  n : Seq
  /-- The replay store, oldest record first (R45). -/
  store : List StoreRecord
  tallyOwed : Bool
  tallyTimer : Timer
  /-- The waiting frames of the fibre, the one that fell due first at the head (R56). -/
  waitingFibre : List WaitingFrame
  /-- The waiting frames of the radio. -/
  waitingRadio : List WaitingFrame
  stream : Option MarkStream
  rewindPending : Bool
  announcePending : Bool
  pass : PassPhase
  /-- In RESENDING the seq of the record the next copy is built from; none is past the end (R95). -/
  cursor : Option Seq
  /-- A session restart has interrupted the pass and a frame is still leaving (R19). -/
  passStopping : Bool
  passOwed : Bool
  deriving DecidableEq, Repr

/-! ## The receiver (Chapters 4 and 5) -/

/-- The mark counters of one bearer (section 5.2). -/
structure MarkCounters where
  rewind : Nat
  replay : Nat
  deriving DecidableEq, Repr

/-- The carry receiver (section 4.1). -/
structure Receiver where
  /-- E, the next sequence number expected (R9). -/
  e : Seq
  /-- The discard state: true is SET. -/
  discard : Bool
  attempts : Nat
  rewindTimer : Timer
  marksFibre : MarkCounters
  marksRadio : MarkCounters
  deriving DecidableEq, Repr

/-- The settings that SET_CARRY writes (R21, R51, R104, R133, R134, R156). -/
structure CarrySettings where
  address : Address
  frameType : BitVec 16
  nTx : Nat
  mRx : Nat
  rewindLimit : Nat
  resendLimit : Nat
  /-- In ms. -/
  tallyDelay : Nat
  /-- In ms. -/
  rewindMargin : Nat
  /-- In ms. -/
  drainMargin : Nat
  /-- In s. -/
  returnHold : Nat
  deriving DecidableEq, Repr

/-! ## The data ports -/

/-- A frame that is leaving a data port: its fields, the bytes that pass the port (the Ethernet frame on the fibre port, the
data unit on the module port), and whether it is a unit offered again (R169). -/
structure Leaving where
  frame : CarryFrame
  wire : List Byte
  reoffer : Bool
  deriving DecidableEq, Repr

/-- The fibre port (R54). -/
structure FibrePort where
  linkUp : Bool
  leaving : Option Leaving
  deriving DecidableEq, Repr

/-! ## Judges and damping (Chapters 6 and 7) -/

/-- A verdict (section 0.5). -/
inductive Verdict where
  | down
  | up
  deriving DecidableEq, Repr

/-- A judge's settings (R107, R115, R116). -/
structure JudgeSettings where
  /-- In ms. -/
  interval : Nat
  /-- W. -/
  window : Nat
  /-- T. -/
  tolerance : Nat
  /-- U. -/
  riseWindows : Nat
  /-- G. -/
  riseRun : Nat
  /-- B. -/
  fallRun : Nat
  /-- The signal floor in dBm, read by the radio judge alone. -/
  floor : Int
  deriving DecidableEq, Repr

/-- The parameters of a flap penalty (section 7.1). -/
structure Damping where
  step : Nat
  ceiling : Nat
  suppress : Nat
  reuse : Nat
  /-- D. -/
  factor : Nat
  /-- The decay period in s. -/
  period : Nat
  deriving DecidableEq, Repr

/-- An entry of a probe table (section 6.2). `expiry` is the count of 0.1 ms units since the reset, not wrapped. -/
structure ProbeEntry where
  tag : Byte
  sent : Stamp
  interval : Nat
  expiry : Nat
  deriving DecidableEq, Repr

/-- The signal reading a radio judge holds: the level and the number of the interval it arrived in (R114). -/
structure HeldReading where
  level : Int
  interval : Nat
  deriving DecidableEq, Repr

/-- One bearer's judge, with its part of the probe unit and its damping. -/
structure Judge where
  settings : JudgeSettings
  /-- The interval clock: running exactly while the bearer is judged (R106, R107). -/
  timer : Timer
  /-- The interval count; while an interval runs, its number. -/
  count : Nat
  goodRun : Nat
  badRun : Nat
  /-- The window tally. -/
  tally : Nat
  /-- The window position: intervals counted since the latest event of R116. -/
  position : Nat
  /-- The interval now running belongs to no window (R122). -/
  noWindow : Bool
  cleanRun : Nat
  verdict : Verdict
  /-- The running interval's probe was answered (R112). -/
  answered : Bool
  /-- The link was up at the running interval's start and has not gone down in it (R113). -/
  linkHeld : Bool
  reading : Option HeldReading
  /-- S, in 0.1 ms units (R131). -/
  srtt : Option Nat
  /-- The probe tag counter (R109). -/
  tag : Byte
  /-- The probe table, oldest entry first. -/
  table : List ProbeEntry
  /-- The eligibility last handed to the selector (R121). -/
  handed : Bool
  /-- P (R124). -/
  penalty : Nat
  suppressed : Bool
  /-- The decay clock (R126). -/
  decay : Timer
  damping : Damping
  deriving DecidableEq, Repr

/-! ## The path selector (Chapter 8) -/

/-- The selector state; `draining` names the drain source, and the drain target is the other bearer (section 8.1). -/
inductive SelectorStatus where
  | stopped
  | outage
  | on (bearer : Bearer)
  | draining (source : Bearer)
  deriving DecidableEq, Repr

/-- The pin (section 8.1): `only b` names one bearer. -/
inductive PinValue where
  | auto
  | only (bearer : Bearer)
  deriving DecidableEq, Repr

/-- The kind of a handover (R153). -/
inductive HandoverKind where
  | forced
  | planned
  deriving DecidableEq, Repr

/-- The outcome of a handover (R153). -/
inductive HandoverOutcome where
  | done
  | emptied
  | expired
  | sourceLost
  | targetLost
  | pinBack
  | halted
  deriving DecidableEq, Repr

/-- The handover record (R153). -/
structure HandoverRecord where
  source : Option Bearer
  target : Bearer
  kind : HandoverKind
  start : Stamp
  outcome : Option HandoverOutcome
  deriving DecidableEq, Repr

/-- The wanted level (R155). -/
inductive WantedLevel where
  | none
  | active
  deriving DecidableEq, Repr

/-- The path selector. The active bearer is a view of `status` (R136). -/
structure Selector where
  status : SelectorStatus
  pin : PinValue
  drainTimer : Timer
  holdTimer : Timer
  record : Option HandoverRecord
  /-- The wanted level last handed over. -/
  wanted : WantedLevel
  deriving DecidableEq, Repr

/-! ## The module controller (Chapter 9) -/

/-- The module state (R157). -/
inductive ModuleStatus where
  | off
  | waking
  | searching
  | ready
  | releasing
  | resting
  deriving DecidableEq, Repr

/-- The commands of the command channel (R158). -/
inductive ModuleCommand where
  | powerUp
  | attach
  | signal
  | detach
  | powerOff
  deriving DecidableEq, Repr

/-- The outstanding command with the moment its response limit passes (R158). -/
structure Outstanding where
  command : ModuleCommand
  limit : Nat
  deriving DecidableEq, Repr

/-- The release cause (R161). -/
inductive ReleaseCause where
  | linger
  | unwanted
  | fault
  | searchFailed
  deriving DecidableEq, Repr

/-- The standby level (R165). -/
inductive Standby where
  | hot
  | cold
  deriving DecidableEq, Repr

/-- The handshake mode setting (section 9.8). -/
inductive HandshakeMode where
  | readyWait
  | paced
  deriving DecidableEq, Repr

/-- What a hand-over in progress will be followed by: the poll start of READY_WAIT, or a pacing gap in µs (R135, R168, R170). -/
inductive HandOver where
  | readyWait
  | paced (gap : Nat)
  deriving DecidableEq, Repr

/-- The data handshake (R168), with the moment at which the state that waits for one ends. `pacing` is PACED's gap (R170). -/
inductive Handshake where
  | free
  | handing (mode : HandOver)
  | settling (until_ : Nat)
  | watching (until_ : Nat)
  | stalled (until_ : Nat)
  | pacing (until_ : Nat)
  deriving DecidableEq, Repr

/-- The module settings (R171). -/
structure ModuleSettings where
  standby : Standby
  /-- In s. -/
  wakeLimit : Nat
  /-- In s. -/
  searchRound : Nat
  searchRounds : Nat
  /-- In s. -/
  rest : Nat
  /-- In s. -/
  linger : Nat
  mode : HandshakeMode
  /-- In µs. -/
  pollStart : Nat
  /-- In ms. -/
  readyLimit : Nat
  stallLimit : Nat
  /-- In kbit/s. -/
  paceRate : Nat
  deriving DecidableEq, Repr

/-- The module controller and the module port. -/
structure Radio where
  status : ModuleStatus
  /-- MOD_PWR: true is high. -/
  modPwr : Bool
  outstanding : Option Outstanding
  rounds : Nat
  linger : Timer
  rest : Timer
  cause : Option ReleaseCause
  releaseDue : Bool
  wantedHeld : WantedLevel
  /-- In dBm. -/
  lastReading : Option Int
  /-- The unit whose bytes are passing to the module. -/
  leaving : Option Leaving
  /-- The unit handed over and not yet known to have got through (R169). -/
  held : Option Leaving
  handshake : Handshake
  stallCount : Nat
  settings : ModuleSettings
  deriving DecidableEq, Repr

/-! ## Control link and event unit (Chapter 10) -/

/-- A request (R172). -/
structure Request where
  kind : Byte
  tag : Byte
  body : List Byte
  deriving DecidableEq, Repr

/-- The event flags (R177). -/
inductive EventFlag where
  | started
  | fibreUp
  | fibreDown
  | radioUp
  | radioDown
  | fibreSuppressed
  | fibreReleased
  | handover
  | outageBegin
  | outageEnd
  | sessionOpen
  | peerRestart
  | receiveError
  | rewindFailed
  | staleVoided
  | laneDrop
  | moduleFault
  | searchFailed
  | requestLost
  deriving DecidableEq, Repr

/-- A message of the outbound queue. A reply holds its own kind, its request's tag and its body; a notice holds its number,
its flag, its timestamp and the conditions, which are read after the event and so are absent while the event runs (R178). -/
inductive OutMessage where
  | reply (kind tag : Byte) (body : List Byte)
  | notice (number : Byte) (flag : EventFlag) (ms : Stamp) (conditions : Option (BitVec 6))
  deriving DecidableEq, Repr

/-- The control link (R172, R173, R176, R185). -/
structure ControlLink where
  /-- The bytes of the message in progress, its SYNC first; none while hunting. -/
  rx : List Byte
  rxTimer : Timer
  inbound : List Request
  outbound : List OutMessage
  resetTaken : Bool
  /-- The bytes of the message that left the UART last, in its envelope; none before the first (the model's own record of what
  R22 sends; log entry 40). -/
  sent : List Byte
  deriving DecidableEq, Repr

/-- The attention mode (R180). -/
inductive AttentionMode where
  | latch
  | follow
  deriving DecidableEq, Repr

/-- The event unit (section 10.4, section 10.5). -/
structure EventUnit where
  /-- Bit k is flag k. -/
  flags : BitVec 19
  /-- Bit k is 1 when flag k is masked. -/
  mask : BitVec 19
  mode : AttentionMode
  noticeNumber : Byte
  /-- ATTN is asserted, that is driven low (R181). -/
  attn : Bool
  deriving DecidableEq, Repr

/-! ## Counts (R182) -/

/-- The LANE counts of one lane. -/
structure LaneCounts where
  accepted : Nat
  sent : Nat
  barred : Nat
  overflow : Nat
  aged : Nat
  delivered : Nat
  deriving DecidableEq, Repr

/-- The LANE group. -/
structure LaneGroup where
  voice : LaneCounts
  signal : LaneCounts
  priority : LaneCounts
  bulk : LaneCounts
  deriving DecidableEq, Repr

/-- The CARRY group. -/
structure CarryCounts where
  sent : Nat
  resent : Nat
  voided : Nat
  tally : Nat
  received : Nat
  checkFailActive : Nat
  checkFailOther : Nat
  duplicate : Nat
  gap : Nat
  discarded : Nat
  staleEpoch : Nat
  ackInvalid : Nat
  rewindStreams : Nat
  replayPasses : Nat
  rewindFailures : Nat
  lostOnRestart : Nat
  homeOverflow : Nat
  stoppedDrop : Nat
  deriving DecidableEq, Repr

/-- The PROBE counts of one bearer. -/
structure ProbeCounts where
  sent : Nat
  answered : Nat
  late : Nat
  stray : Nat
  lost : Nat
  deriving DecidableEq, Repr

/-- The MODULE group. -/
structure ModuleCounts where
  stalls : Nat
  timeouts : Nat
  searchRounds : Nat
  faults : Nat
  deriving DecidableEq, Repr

/-- The LINK group. -/
structure LinkCounts where
  bad : Nat
  requestLost : Nat
  noticeLost : Nat
  deriving DecidableEq, Repr

/-- The five groups. -/
structure Counts where
  lane : LaneGroup
  carry : CarryCounts
  probeFibre : ProbeCounts
  probeRadio : ProbeCounts
  module : ModuleCounts
  link : LinkCounts
  deriving DecidableEq, Repr

/-! ## The whole part -/

/-- The state of the part. `pending`, `clock`, `ties`, `home.sent` and `link.sent` are the model's own fields. -/
structure State where
  /-- The commands that wait, first in, first out. -/
  pending : List Instr
  /-- The time since power-on or soft reset in µs; the two timebase counts are views of it (R183). -/
  clock : Nat
  /-- The number of the next free choice. -/
  ties : Nat
  /-- RESET_N is held active (R181). -/
  resetHeld : Bool
  home : Home
  classMap : Vector ClassEntry 16
  lanes : Lanes
  pause : Pause
  session : Session
  sender : Sender
  receiver : Receiver
  carry : CarrySettings
  fibre : FibrePort
  fibreJudge : Judge
  radioJudge : Judge
  selector : Selector
  radio : Radio
  link : ControlLink
  events : EventUnit
  counts : Counts
  deriving DecidableEq, Repr

/-- Why a step could end in a fault. -/
inductive Fault where
  /-- Raised by no command: the spec stops the part nowhere. Safe. -/
  | neverRaised
  deriving DecidableEq, Repr

/-- Why a command could be refused. -/
inductive Refusal where
  /-- Raised by an arm of `exec` whose command has no meaning yet; every command has one. Safe. -/
  | notModelled (mnemonic : String)
  deriving DecidableEq, Repr

/-! ## Reset values -/

/-- The reset profile of each lane (R27). -/
def LaneProfile.atReset : Lane → LaneProfile
  | .voice => ⟨true, 24, .dropOld, 80, false, false⟩
  | .signal => ⟨true, 64, .dropNew, 0, false, false⟩
  | .priority => ⟨true, 128, .dropNew, 2000, false, false⟩
  | .bulk => ⟨false, 296, .dropNew, 3000, false, true⟩

/-- The lane unit after power-on and soft reset (R35, R38). -/
def Lanes.atReset : Lanes where
  voice := ⟨LaneProfile.atReset .voice, []⟩
  signal := ⟨LaneProfile.atReset .signal, []⟩
  priority := ⟨LaneProfile.atReset .priority, []⟩
  bulk := ⟨LaneProfile.atReset .bulk, []⟩
  supply := .mains

/-- Entries 4 to 15 of the default class map (R26). -/
def ClassEntry.unused : ClassEntry := ⟨false, .any, .any, .bulk⟩

/-- The default class map (R26). -/
def ClassEntry.defaultMap : Vector ClassEntry 16 :=
  #v[⟨true, .any, .level 5, .voice⟩, ⟨true, .any, .level 6, .signal⟩, ⟨true, .any, .level 7, .signal⟩,
    ⟨true, .any, .level 4, .priority⟩, .unused, .unused, .unused, .unused, .unused, .unused, .unused, .unused, .unused,
    .unused, .unused, .unused]

/-- The pause reasons after power-on and soft reset (R38). -/
def Pause.atReset : Pause := ⟨true, true, false, false⟩

/-- The session control after power-on; the counter is 0 (R12, R14). -/
def Session.atReset : Session := ⟨.closed, 0, none⟩

/-- The carry sender and the store after power-on and soft reset (R62, R105). -/
def Sender.atReset : Sender where
  n := 1
  store := []
  tallyOwed := false
  tallyTimer := none
  waitingFibre := []
  waitingRadio := []
  stream := none
  rewindPending := false
  announcePending := false
  pass := .none
  cursor := none
  passStopping := false
  passOwed := false

/-- The receiver after power-on and soft reset (R81). -/
def Receiver.atReset : Receiver := ⟨1, false, 0, none, ⟨0, 0⟩, ⟨0, 0⟩⟩

/-- The carry settings' reset values (R21, R51, R104, R133, R134, R156). -/
def CarrySettings.atReset : CarrySettings where
  address := 0xFFFFFFFFFFFF
  frameType := 0x88B5
  nTx := 16
  mRx := 6
  rewindLimit := 4
  resendLimit := 8
  tallyDelay := 5
  rewindMargin := 20
  drainMargin := 100
  returnHold := 60

/-- A judge's settings at reset (R107, R115, R116). -/
def JudgeSettings.atReset : Bearer → JudgeSettings
  | .fibre => ⟨100, 10, 0, 30, 10, 3, -113⟩
  | .radio => ⟨1000, 5, 1, 1, 10, 3, -113⟩

/-- A bearer's damping parameters at reset (section 7.1). -/
def Damping.atReset : Bearer → Damping
  | .fibre => ⟨1000, 12000, 3000, 1500, 32, 10⟩
  | .radio => ⟨0, 12000, 3000, 1500, 32, 10⟩

/-- A judge after power-on and soft reset (R108, R123, R124). -/
def Judge.atReset (b : Bearer) : Judge where
  settings := JudgeSettings.atReset b
  timer := none
  count := 0
  goodRun := 0
  badRun := 0
  tally := 0
  position := 0
  noWindow := false
  cleanRun := 0
  verdict := .down
  answered := false
  linkHeld := false
  reading := none
  srtt := none
  tag := 0
  table := []
  handed := false
  penalty := 0
  suppressed := false
  decay := none
  damping := Damping.atReset b

/-- The selector after power-on and soft reset (R136). -/
def Selector.atReset : Selector := ⟨.stopped, .auto, none, none, none, .none⟩

/-- The module settings' reset values (R171). -/
def ModuleSettings.atReset : ModuleSettings where
  standby := .cold
  wakeLimit := 20
  searchRound := 30
  searchRounds := 4
  rest := 120
  linger := 300
  mode := .readyWait
  pollStart := 50
  readyLimit := 20
  stallLimit := 3
  paceRate := 8000

/-- The module controller after power-on and soft reset (R157, R171). -/
def Radio.atReset : Radio where
  status := .off
  modPwr := false
  outstanding := none
  rounds := 0
  linger := none
  rest := none
  cause := none
  releaseDue := false
  wantedHeld := .none
  lastReading := none
  leaving := none
  held := none
  handshake := .free
  stallCount := 0
  settings := ModuleSettings.atReset

/-- The control link after power-on and soft reset: the STARTED notice, number 0, timestamp 0, with FIBRE_IS_DOWN and
RADIO_IS_DOWN, is its one message (R184, R185). -/
def ControlLink.atReset : ControlLink := ⟨[], none, [], [.notice 0 .started 0 (some 0b000011)], false, []⟩

/-- The event unit after power-on and soft reset: STARTED is set, notice 0 has been offered, ATTN is asserted under LATCH
(R184, R185). -/
def EventUnit.atReset : EventUnit := ⟨1, 0, .latch, 1, true⟩

/-- The six LANE counts at 0. -/
def LaneCounts.zero : LaneCounts := ⟨0, 0, 0, 0, 0, 0⟩
/-- The LANE group at 0. -/
def LaneGroup.zero : LaneGroup := ⟨.zero, .zero, .zero, .zero⟩
/-- The CARRY group at 0. -/
def CarryCounts.zero : CarryCounts := ⟨0, 0, 0, 0, 0, 0, 0, 0, 0, 0, 0, 0, 0, 0, 0, 0, 0, 0⟩
/-- One bearer's PROBE counts at 0. -/
def ProbeCounts.zero : ProbeCounts := ⟨0, 0, 0, 0, 0⟩
/-- The MODULE group at 0. -/
def ModuleCounts.zero : ModuleCounts := ⟨0, 0, 0, 0⟩
/-- The LINK group at 0. -/
def LinkCounts.zero : LinkCounts := ⟨0, 0, 0⟩
/-- Every count at 0 (R182). -/
def Counts.zero : Counts := ⟨.zero, .zero, .zero, .zero, .zero, .zero⟩

/-- The part right after power-on, R184's actions done, with both Ethernet links down (DESIGN CHOICE, log entry 6; unsafe) and
the free choices numbered from 0 (DESIGN CHOICE, log entry 23; safe). -/
def State.reset : State where
  pending := []
  clock := 0
  ties := 0
  resetHeld := false
  home := ⟨false, [], []⟩
  classMap := ClassEntry.defaultMap
  lanes := Lanes.atReset
  pause := Pause.atReset
  session := Session.atReset
  sender := Sender.atReset
  receiver := Receiver.atReset
  carry := CarrySettings.atReset
  fibre := ⟨false, none⟩
  fibreJudge := Judge.atReset .fibre
  radioJudge := Judge.atReset .radio
  selector := Selector.atReset
  radio := Radio.atReset
  link := ControlLink.atReset
  events := EventUnit.atReset
  counts := Counts.zero

end Sys2Proof.Machine
end

