-- ==== Sys2Proof/Machine/Formats.lean ====
section
/-! DEFINITION. The byte layouts of section 1.8: the check, the carry frame, its Ethernet encapsulation, and the control
message envelope; written and read. -/

namespace Sys2Proof.Machine

/-! ## Numbers in bytes -/

/-- A 16-bit number, most significant byte first. -/
def bytesOf16 (w : BitVec 16) : List Byte := [w.extractLsb' 8 8, w.extractLsb' 0 8]

/-- A 24-bit number, most significant byte first. -/
def bytesOf24 (w : BitVec 24) : List Byte := [w.extractLsb' 16 8, w.extractLsb' 8 8, w.extractLsb' 0 8]

/-- A 32-bit number, most significant byte first. -/
def bytesOf32 (w : BitVec 32) : List Byte :=
  [w.extractLsb' 24 8, w.extractLsb' 16 8, w.extractLsb' 8 8, w.extractLsb' 0 8]

/-- A 32-bit number, least significant byte first: the order of a check (R6). -/
def bytesOfCheck (w : BitVec 32) : List Byte :=
  [w.extractLsb' 0 8, w.extractLsb' 8 8, w.extractLsb' 16 8, w.extractLsb' 24 8]

/-- An address, in the order its bytes stand in an Ethernet frame (R21). -/
def bytesOfAddress (a : Address) : List Byte :=
  [a.extractLsb' 40 8, a.extractLsb' 32 8, a.extractLsb' 24 8, a.extractLsb' 16 8, a.extractLsb' 8 8, a.extractLsb' 0 8]

/-- The byte at a place of a list; 0 past its end. -/
def byteAt (bs : List Byte) (i : Nat) : Byte := bs.getD i 0

/-- The 16-bit number whose most significant byte is at a place. -/
def word16At (bs : List Byte) (i : Nat) : BitVec 16 := byteAt bs i ++ byteAt bs (i + 1)

/-- The 24-bit number whose most significant byte is at a place. -/
def word24At (bs : List Byte) (i : Nat) : BitVec 24 := byteAt bs i ++ byteAt bs (i + 1) ++ byteAt bs (i + 2)

/-- The 32-bit number whose most significant byte is at a place. -/
def word32At (bs : List Byte) (i : Nat) : BitVec 32 :=
  byteAt bs i ++ byteAt bs (i + 1) ++ byteAt bs (i + 2) ++ byteAt bs (i + 3)

/-- The check whose least significant byte is at a place (R6). -/
def checkAt (bs : List Byte) (i : Nat) : BitVec 32 :=
  byteAt bs (i + 3) ++ byteAt bs (i + 2) ++ byteAt bs (i + 1) ++ byteAt bs i

/-- The address whose first byte is at a place (R21). -/
def addressAt (bs : List Byte) (i : Nat) : Address :=
  byteAt bs i ++ byteAt bs (i + 1) ++ byteAt bs (i + 2) ++ byteAt bs (i + 3) ++ byteAt bs (i + 4) ++ byteAt bs (i + 5)

/-! ## The check (R6) -/

/-- The generator polynomial of the check (R6). -/
def checkPolynomial : BitVec 32 := 0x04C11DB7

/-- One bit of the check's register. Each byte is taken least significant bit first, so the register is kept bit-reversed and
shifts right, and the polynomial is reversed with it. -/
def checkBit (r : BitVec 32) : BitVec 32 :=
  if r.getLsbD 0 then (r >>> 1) ^^^ 0xEDB88320#32 else r >>> 1

/-- One byte of the check's register. -/
def checkByte (r : BitVec 32) (b : Byte) : BitVec 32 :=
  checkBit (checkBit (checkBit (checkBit (checkBit (checkBit (checkBit (checkBit (r ^^^ b.setWidth 32))))))))

/-- The check over some bytes: the register starts at all ones and is complemented at the end (R6). -/
def checkOf (bs : List Byte) : BitVec 32 := ~~~(bs.foldl checkByte 0xFFFFFFFF#32)

/-! ## The CRC-16 of the control envelope (R22) -/

/-- One bit of the CRC-16's register, most significant bit first (R22). -/
def crc16Bit (r : BitVec 16) : BitVec 16 :=
  if r.getLsbD 15 then (r <<< 1) ^^^ 0x1021#16 else r <<< 1

/-- One byte of the CRC-16's register. -/
def crc16Byte (r : BitVec 16) (b : Byte) : BitVec 16 :=
  crc16Bit (crc16Bit (crc16Bit (crc16Bit (crc16Bit (crc16Bit (crc16Bit (crc16Bit (r ^^^ (b ++ 0#8)))))))))

/-- The CRC-16 over some bytes: the register starts at 0xFFFF and the result is not complemented (R22). -/
def crc16Of (bs : List Byte) : BitVec 16 := bs.foldl crc16Byte 0xFFFF#16

/-! ## Codes of the carry frame (R20) -/

/-- The code of a kind (R20). -/
def FrameKind.code : FrameKind → Byte
  | .opening => 1
  | .opened => 2
  | .data => 3
  | .tally => 4
  | .rewind => 5
  | .replay => 6
  | .probe => 7
  | .echo => 8

/-- The kind of a code, none for a code that is none of the eight (R2, R20). -/
def kindOfCode (c : Byte) : Option FrameKind :=
  if c = 1 then some .opening
  else if c = 2 then some .opened
  else if c = 3 then some .data
  else if c = 4 then some .tally
  else if c = 5 then some .rewind
  else if c = 6 then some .replay
  else if c = 7 then some .probe
  else if c = 8 then some .echo
  else none

/-- The code of a lane in byte 2 of a frame (R20). -/
def Lane.frameCode : Lane → BitVec 2
  | .voice => 0
  | .signal => 1
  | .priority => 2
  | .bulk => 3

/-- The lane of a frame's lane field (R20). -/
def laneOfFrameCode (c : BitVec 2) : Lane :=
  if c = 0 then .voice else if c = 1 then .signal else if c = 2 then .priority else .bulk

/-- The code of a bearer in byte 2 of a frame (R20). -/
def bearerFrameCode : Bearer → BitVec 2
  | .fibre => 1
  | .radio => 2

/-- The kind of mark frame a stream is made of (section 5.1). -/
def MarkKind.frameKind : MarkKind → FrameKind
  | .rewind => .rewind
  | .replay => .replay

/-! ## The carry frame (R20) -/

/-- Byte 2 of the header: lane, SEQ, RESENT, VOID, the zero bit sent as 0, and the bearer (R20). -/
def CarryFrame.flagByte (f : CarryFrame) : Byte :=
  f.lane ++ BitVec.ofBool f.seqFlag ++ BitVec.ofBool f.resent ++ BitVec.ofBool f.void ++ 0#1 ++ f.bearer

/-- The 12-byte header (R20). -/
def CarryFrame.header (f : CarryFrame) : List Byte :=
  [f.version, f.kind, f.flagByte, f.tag] ++ bytesOf16 f.epoch ++ bytesOf16 f.seq ++ bytesOf16 f.ackno ++ bytesOf16 f.length

/-- The bytes of a carry frame: header, payload, check (R20). -/
def encodeCarry (f : CarryFrame) : List Byte :=
  f.header ++ f.payload ++ bytesOfCheck (checkOf (f.header ++ f.payload))

/-- A carry frame read from the bytes of a port, or none for a check failure (R6, R7). On the module port the size must be
exactly 16 bytes plus the length field (`exact`); on the fibre port what follows the check is padding. -/
def readCarry (exact : Bool) (bs : List Byte) : Option CarryFrame :=
  let len := (word16At bs 10).toNat
  if bs.length < 16 || decide (1522 < len) || decide (bs.length < 16 + len) || (exact && decide (bs.length ≠ 16 + len)) then none
  else if checkOf (bs.take (12 + len)) = checkAt bs (12 + len) then
    let flags := byteAt bs 2
    some {
      version := byteAt bs 0
      kind := byteAt bs 1
      lane := flags.extractLsb' 6 2
      seqFlag := flags.getLsbD 5
      resent := flags.getLsbD 4
      void := flags.getLsbD 3
      bearer := flags.extractLsb' 0 2
      tag := byteAt bs 3
      epoch := word16At bs 4
      seq := word16At bs 6
      ackno := word16At bs 8
      length := word16At bs 10
      payload := (bs.drop 12).take len }
  else none

/-! ## Ethernet (R21, R23) -/

/-- Zero bytes up to 46 (R21). -/
def padTo46 (bs : List Byte) : List Byte := bs ++ List.replicate (46 - bs.length) 0

/-- An Ethernet frame with a newly generated frame check, sent least significant byte first directly after its last payload byte,
on the fibre port and on the home port alike (R21, R37). -/
def withFrameCheck (frame : List Byte) : List Byte := frame ++ bytesOfCheck (checkOf frame)

/-- The Ethernet frame that carries a payload on the fibre port, its frame check included (R21). -/
def ethernetOf (destination source : Address) (frameType : BitVec 16) (payload : List Byte) : List Byte :=
  withFrameCheck (bytesOfAddress destination ++ bytesOfAddress source ++ bytesOf16 frameType ++ padTo46 payload)

/-- What an Ethernet frame holds before its frame check, or none when the frame check fails (R6, R21, R23). -/
def ethernetBody (bs : List Byte) : Option (List Byte) :=
  if bs.length < 4 then none
  else if checkOf (bs.take (bs.length - 4)) = checkAt bs (bs.length - 4) then some (bs.take (bs.length - 4))
  else none

/-- The tag and the priority of a home frame (R24): the tag is none for an untagged frame, whose priority is 0. -/
def tagAndPriority (frame : List Byte) : Option (BitVec 12) × BitVec 3 :=
  if word16At frame 12 = 0x8100#16 then
    (some ((word16At frame 14).extractLsb' 0 12), (word16At frame 14).extractLsb' 13 3)
  else (none, 0)

/-! ## The control envelope (R22, R172) -/

/-- The bytes of a message (R22). -/
def envelopeOf (kind tag : Byte) (body : List Byte) : List Byte :=
  let inner := bytesOf16 (BitVec.ofNat 16 body.length) ++ [kind, tag] ++ body
  [0xA5#8] ++ inner ++ bytesOf16 (crc16Of inner)

/-- What the parser finds at a SYNC: more bytes are needed, the message is bad, or a request with the bytes after it (R172). -/
inductive ParseResult where
  | partial_
  | bad
  | request (r : Request) (rest : List Byte)
  deriving DecidableEq, Repr

/-- The message that starts at a SYNC, `bs` being the bytes after the SYNC (R172). -/
def parseMessage (bs : List Byte) : ParseResult :=
  let len := (word16At bs 0).toNat
  if bs.length < 2 then .partial_
  else if 512 < len then .bad
  else if bs.length < len + 6 then .partial_
  else if crc16Of (bs.take (len + 4)) = word16At bs (len + 4) && decide ((byteAt bs 2).toNat < 0x80) then
    .request ⟨byteAt bs 2, byteAt bs 3, (bs.drop 4).take len⟩ (bs.drop (len + 6))
  else .bad

/-- What the parser makes of some bytes, from hunting: for each dropped message a none, for each request that request, in
order, and the bytes of the message in progress. A dropped message sends the hunt back to the byte after its SYNC (R172).
`fuel` bounds the bytes passed over and the messages dropped; the number of bytes is enough. -/
def huntMessages : Nat → List Byte → List (Option Request) × List Byte
  | 0, bs => ([], bs)
  | _ + 1, [] => ([], [])
  | fuel + 1, b :: bs =>
    if b = 0xA5#8 then
      match parseMessage bs with
      | .partial_ => ([], b :: bs)
      | .bad =>
        let r := huntMessages fuel bs
        (none :: r.1, r.2)
      | .request q rest =>
        let r := huntMessages fuel rest
        (some q :: r.1, r.2)
    else huntMessages fuel bs

end Sys2Proof.Machine
end

