-- ==== Sys2Proof/Machine/Ops.lean ====
section
/-! DEFINITION. The named operations on the state that the blocks share: time, counts, and the parts that come once for each
bearer or lane. -/

namespace Sys2Proof.Machine

/-! ## Time (R183) -/

/-- The timebase in units of 0.1 ms, wrapping at 2^32 (R183). -/
def State.units (s : State) : Stamp := BitVec.ofNat 32 (s.clock / 100)

/-- The timebase in ms, wrapping at 2^32 (R183). -/
def State.ms (s : State) : Stamp := BitVec.ofNat 32 (s.clock / 1000)

/-- The clock moves on to a moment, and stays where it is when the moment has passed (log entry 4). -/
def State.advanceTo (s : State) (moment : Nat) : State := { s with clock := max s.clock moment }

/-- The moment that lies some ms after now. -/
def State.inMs (s : State) (ms : Nat) : Nat := s.clock + ms * 1000

/-- The moment that lies some s after now. -/
def State.inSeconds (s : State) (sec : Nat) : Nat := s.clock + sec * 1000000

/-! ## Counts (R182) -/

/-- A count after one rise: it saturates (R182). -/
def countUp (n : Nat) : Nat := min (n + 1) Config.countMax

/-- A count after several rises: it saturates (R182). -/
def countUpBy (k n : Nat) : Nat := min (n + k) Config.countMax

/-- The counts of a lane in the LANE group. -/
def LaneGroup.get (g : LaneGroup) : Lane → LaneCounts
  | .voice => g.voice
  | .signal => g.signal
  | .priority => g.priority
  | .bulk => g.bulk

/-- The LANE group with the counts of one lane replaced. -/
def LaneGroup.set (g : LaneGroup) (l : Lane) (c : LaneCounts) : LaneGroup :=
  match l with
  | .voice => { g with voice := c }
  | .signal => { g with signal := c }
  | .priority => { g with priority := c }
  | .bulk => { g with bulk := c }

/-- The state with the counts of one lane changed. -/
def State.countLane (l : Lane) (f : LaneCounts → LaneCounts) (s : State) : State :=
  { s with counts := { s.counts with lane := s.counts.lane.set l (f (s.counts.lane.get l)) } }

/-- The state with the CARRY group changed. -/
def State.countCarry (f : CarryCounts → CarryCounts) (s : State) : State :=
  { s with counts := { s.counts with carry := f s.counts.carry } }

/-- The state with the PROBE counts of one bearer changed. -/
def State.countProbe (b : Bearer) (f : ProbeCounts → ProbeCounts) (s : State) : State :=
  match b with
  | .fibre => { s with counts := { s.counts with probeFibre := f s.counts.probeFibre } }
  | .radio => { s with counts := { s.counts with probeRadio := f s.counts.probeRadio } }

/-- The state with the MODULE group changed. -/
def State.countModule (f : ModuleCounts → ModuleCounts) (s : State) : State :=
  { s with counts := { s.counts with module := f s.counts.module } }

/-- The state with the LINK group changed. -/
def State.countLink (f : LinkCounts → LinkCounts) (s : State) : State :=
  { s with counts := { s.counts with link := f s.counts.link } }

/-- LANE accepted rises. -/
def LaneCounts.upAccepted (c : LaneCounts) : LaneCounts := { c with accepted := countUp c.accepted }
/-- LANE sent rises. -/
def LaneCounts.upSent (c : LaneCounts) : LaneCounts := { c with sent := countUp c.sent }
/-- LANE barred rises by some. -/
def LaneCounts.upBarred (k : Nat) (c : LaneCounts) : LaneCounts := { c with barred := countUpBy k c.barred }
/-- LANE overflow rises by some. -/
def LaneCounts.upOverflow (k : Nat) (c : LaneCounts) : LaneCounts := { c with overflow := countUpBy k c.overflow }
/-- LANE aged rises by some. -/
def LaneCounts.upAged (k : Nat) (c : LaneCounts) : LaneCounts := { c with aged := countUpBy k c.aged }
/-- LANE delivered rises. -/
def LaneCounts.upDelivered (c : LaneCounts) : LaneCounts := { c with delivered := countUp c.delivered }
/-- CARRY sent rises. -/
def CarryCounts.upSent (c : CarryCounts) : CarryCounts := { c with sent := countUp c.sent }
/-- CARRY resent rises. -/
def CarryCounts.upResent (c : CarryCounts) : CarryCounts := { c with resent := countUp c.resent }
/-- CARRY voided rises. -/
def CarryCounts.upVoided (c : CarryCounts) : CarryCounts := { c with voided := countUp c.voided }
/-- CARRY tally rises. -/
def CarryCounts.upTally (c : CarryCounts) : CarryCounts := { c with tally := countUp c.tally }
/-- CARRY received rises. -/
def CarryCounts.upReceived (c : CarryCounts) : CarryCounts := { c with received := countUp c.received }
/-- CARRY check-fail-active rises. -/
def CarryCounts.upCheckFailActive (c : CarryCounts) : CarryCounts := { c with checkFailActive := countUp c.checkFailActive }
/-- CARRY check-fail-other rises. -/
def CarryCounts.upCheckFailOther (c : CarryCounts) : CarryCounts := { c with checkFailOther := countUp c.checkFailOther }
/-- CARRY duplicate rises. -/
def CarryCounts.upDuplicate (c : CarryCounts) : CarryCounts := { c with duplicate := countUp c.duplicate }
/-- CARRY gap rises. -/
def CarryCounts.upGap (c : CarryCounts) : CarryCounts := { c with gap := countUp c.gap }
/-- CARRY discarded rises. -/
def CarryCounts.upDiscarded (c : CarryCounts) : CarryCounts := { c with discarded := countUp c.discarded }
/-- CARRY stale-epoch rises. -/
def CarryCounts.upStaleEpoch (c : CarryCounts) : CarryCounts := { c with staleEpoch := countUp c.staleEpoch }
/-- CARRY ack-invalid rises. -/
def CarryCounts.upAckInvalid (c : CarryCounts) : CarryCounts := { c with ackInvalid := countUp c.ackInvalid }
/-- CARRY rewind-streams rises. -/
def CarryCounts.upRewindStreams (c : CarryCounts) : CarryCounts := { c with rewindStreams := countUp c.rewindStreams }
/-- CARRY replay-passes rises. -/
def CarryCounts.upReplayPasses (c : CarryCounts) : CarryCounts := { c with replayPasses := countUp c.replayPasses }
/-- CARRY rewind-failures rises. -/
def CarryCounts.upRewindFailures (c : CarryCounts) : CarryCounts := { c with rewindFailures := countUp c.rewindFailures }
/-- CARRY lost-on-restart rises by some. -/
def CarryCounts.upLostOnRestart (k : Nat) (c : CarryCounts) : CarryCounts :=
  { c with lostOnRestart := countUpBy k c.lostOnRestart }
/-- CARRY home-overflow rises. -/
def CarryCounts.upHomeOverflow (c : CarryCounts) : CarryCounts := { c with homeOverflow := countUp c.homeOverflow }
/-- CARRY stopped-drop rises. -/
def CarryCounts.upStoppedDrop (c : CarryCounts) : CarryCounts := { c with stoppedDrop := countUp c.stoppedDrop }
/-- PROBE sent rises. -/
def ProbeCounts.upSent (c : ProbeCounts) : ProbeCounts := { c with sent := countUp c.sent }
/-- PROBE answered rises. -/
def ProbeCounts.upAnswered (c : ProbeCounts) : ProbeCounts := { c with answered := countUp c.answered }
/-- PROBE late rises. -/
def ProbeCounts.upLate (c : ProbeCounts) : ProbeCounts := { c with late := countUp c.late }
/-- PROBE stray rises. -/
def ProbeCounts.upStray (c : ProbeCounts) : ProbeCounts := { c with stray := countUp c.stray }
/-- PROBE lost rises. -/
def ProbeCounts.upLost (c : ProbeCounts) : ProbeCounts := { c with lost := countUp c.lost }
/-- MODULE stalls rises. -/
def ModuleCounts.upStalls (c : ModuleCounts) : ModuleCounts := { c with stalls := countUp c.stalls }
/-- MODULE timeouts rises. -/
def ModuleCounts.upTimeouts (c : ModuleCounts) : ModuleCounts := { c with timeouts := countUp c.timeouts }
/-- MODULE search rounds rises. -/
def ModuleCounts.upSearchRounds (c : ModuleCounts) : ModuleCounts := { c with searchRounds := countUp c.searchRounds }
/-- MODULE faults rises. -/
def ModuleCounts.upFaults (c : ModuleCounts) : ModuleCounts := { c with faults := countUp c.faults }
/-- LINK bad rises. -/
def LinkCounts.upBad (c : LinkCounts) : LinkCounts := { c with bad := countUp c.bad }
/-- LINK request-lost rises. -/
def LinkCounts.upRequestLost (c : LinkCounts) : LinkCounts := { c with requestLost := countUp c.requestLost }
/-- LINK notice-lost rises. -/
def LinkCounts.upNoticeLost (c : LinkCounts) : LinkCounts := { c with noticeLost := countUp c.noticeLost }

/-! ## What comes once for each lane or bearer -/

/-- A lane of the lane unit. -/
def Lanes.get (u : Lanes) : Lane → LaneState
  | .voice => u.voice
  | .signal => u.signal
  | .priority => u.priority
  | .bulk => u.bulk

/-- The lane unit with one lane replaced. -/
def Lanes.set (u : Lanes) (l : Lane) (v : LaneState) : Lanes :=
  match l with
  | .voice => { u with voice := v }
  | .signal => { u with signal := v }
  | .priority => { u with priority := v }
  | .bulk => { u with bulk := v }

/-- The state with one lane's queue replaced. -/
def State.setQueue (l : Lane) (q : List QueuedFrame) (s : State) : State :=
  { s with lanes := s.lanes.set l { s.lanes.get l with queue := q } }

/-- The judge of a bearer. -/
def State.judge (s : State) : Bearer → Judge
  | .fibre => s.fibreJudge
  | .radio => s.radioJudge

/-- The state with the judge of a bearer changed. -/
def State.mapJudge (b : Bearer) (f : Judge → Judge) (s : State) : State :=
  match b with
  | .fibre => { s with fibreJudge := f s.fibreJudge }
  | .radio => { s with radioJudge := f s.radioJudge }

/-- The waiting frames of a bearer (R56). -/
def State.waiting (s : State) : Bearer → List WaitingFrame
  | .fibre => s.sender.waitingFibre
  | .radio => s.sender.waitingRadio

/-- The state with the waiting frames of a bearer replaced. -/
def State.setWaiting (b : Bearer) (w : List WaitingFrame) (s : State) : State :=
  match b with
  | .fibre => { s with sender := { s.sender with waitingFibre := w } }
  | .radio => { s with sender := { s.sender with waitingRadio := w } }

/-- The frame leaving a bearer's port (R54). -/
def State.leaving (s : State) : Bearer → Option Leaving
  | .fibre => s.fibre.leaving
  | .radio => s.radio.leaving

/-- The mark counters of a bearer (section 5.2). -/
def State.marks (s : State) : Bearer → MarkCounters
  | .fibre => s.receiver.marksFibre
  | .radio => s.receiver.marksRadio

/-- The state with the mark counters of a bearer replaced. -/
def State.setMarks (b : Bearer) (m : MarkCounters) (s : State) : State :=
  match b with
  | .fibre => { s with receiver := { s.receiver with marksFibre := m } }
  | .radio => { s with receiver := { s.receiver with marksRadio := m } }

/-! ## The active bearer and the ports -/

/-- The active bearer that a selector state fixes: none in STOPPED and OUTAGE, the drain source in DRAINING (R136). -/
def SelectorStatus.active : SelectorStatus → Option Bearer
  | .stopped => none
  | .outage => none
  | .on b => some b
  | .draining source => some source

/-- The active bearer (R136). -/
def State.active (s : State) : Option Bearer := s.selector.status.active

/-- A data port is open: the fibre port while its link is up, the module port while the module is READY (R54, R64). -/
def State.portOpen (s : State) : Bearer → Bool
  | .fibre => s.fibre.linkUp
  | .radio => s.radio.status == .ready

/-- A data port is free: a frame may start to leave on it (R54). -/
def State.portFree (s : State) : Bearer → Bool
  | .fibre => s.fibre.linkUp && s.fibre.leaving.isNone
  | .radio => s.radio.status == .ready && s.radio.handshake == .free && s.radio.leaving.isNone

/-- A bearer is judged: its interval clock runs (R106, R107). -/
def State.judged (s : State) (b : Bearer) : Bool := (s.judge b).timer.isSome

/-- Whether any pause reason is present (R31). -/
def Pause.any (p : Pause) : Bool := p.session || p.selector || p.pass || p.stream

end Sys2Proof.Machine
end

