-- ==== Sys2Proof/Machine/Flags.lean ====
section
/-! DEFINITION. The event unit: flags, conditions, notices and ATTN (sections 10.4 and 10.5). -/

namespace Sys2Proof.Machine

/-- The number of a flag (R177). -/
def EventFlag.number : EventFlag → Nat
  | .started => 0
  | .fibreUp => 1
  | .fibreDown => 2
  | .radioUp => 3
  | .radioDown => 4
  | .fibreSuppressed => 5
  | .fibreReleased => 6
  | .handover => 7
  | .outageBegin => 8
  | .outageEnd => 9
  | .sessionOpen => 10
  | .peerRestart => 11
  | .receiveError => 12
  | .rewindFailed => 13
  | .staleVoided => 14
  | .laneDrop => 15
  | .moduleFault => 16
  | .searchFailed => 17
  | .requestLost => 18

/-- The body of a notice: the flag number, the timebase in ms, and the conditions as a set (R178). No notice leaves before its
conditions are read: they are, at the end of its own event. -/
def noticeBody (flag : EventFlag) (ms : Stamp) (conds : Option (BitVec 6)) : List Byte :=
  [BitVec.ofNat 8 flag.number] ++ bytesOf32 ms ++ [(conds.getD 0).setWidth 8]

/-- The bytes of a message as it leaves on the UART: a reply under its own kind and its request's tag, a notice under the kind
0x60 with its number as the tag (R22, R174, R178). -/
def OutMessage.envelope : OutMessage → List Byte
  | .reply kind tag body => envelopeOf kind tag body
  | .notice number flag ms conds => envelopeOf 0x60 number (noticeBody flag ms conds)

/-- The member of a set of flags that stands for a flag. -/
def EventFlag.bit (f : EventFlag) : BitVec 19 := BitVec.twoPow 19 f.number

/-- A set of flags holds a flag. -/
def holdsFlag (set : BitVec 19) (f : EventFlag) : Bool := set.getLsbD f.number

/-- The six conditions as a set, bit k for condition k (R179). -/
def conditions (s : State) : BitVec 6 :=
  BitVec.ofBool (s.radio.status == .resting) ++ BitVec.ofBool s.receiver.discard
    ++ BitVec.ofBool (s.selector.status == .outage) ++ BitVec.ofBool s.fibreJudge.suppressed
    ++ BitVec.ofBool (s.radioJudge.verdict == .down) ++ BitVec.ofBool (s.fibreJudge.verdict == .down)

/-- The flag related to each condition, by the condition's number (R179). -/
def relatedFlags : List EventFlag :=
  [.fibreDown, .radioDown, .fibreSuppressed, .outageBegin, .receiveError, .moduleFault]

/-- Some condition holds whose related flag is unmasked (R181). -/
def followHolds (conds : BitVec 6) (mask : BitVec 19) : Bool :=
  (List.zip (List.range 6) relatedFlags).any fun p => conds.getLsbD p.1 && !holdsFlag mask p.2

/-- Whether ATTN is to be asserted (R181); RESET_N held active drives it high. -/
def attnWanted (s : State) : Bool :=
  !s.resetHeld &&
    match s.events.mode with
    | .latch => (s.events.flags &&& ~~~s.events.mask) != 0
    | .follow => followHolds (conditions s) s.events.mask

/-- A notice is offered to the outbound queue: the notice number advances, and the notice joins or is dropped and counted
(R176, R178). Its conditions are filled in at the end of the event. -/
def offerNotice (f : EventFlag) (s : State) : State :=
  let numbered := { s with events := { s.events with noticeNumber := s.events.noticeNumber + 1 } }
  if s.link.outbound.length < Config.outboundPlaces then
    { numbered with
      link := { s.link with outbound := s.link.outbound ++ [.notice s.events.noticeNumber f s.ms none] } }
  else numbered.countLink .upNoticeLost

/-- An event is reported: its flag is set and, when the flag was clear and is unmasked, a notice is offered (R177). -/
def report (f : EventFlag) (s : State) : State :=
  if holdsFlag s.events.flags f then s
  else
    let flagged := { s with events := { s.events with flags := s.events.flags ||| f.bit } }
    if holdsFlag s.events.mask f then flagged else offerNotice f flagged

/-- A report that is made when something happened at least once: a second report in one event finds the flag set (R177). -/
def reportIf (b : Bool) (f : EventFlag) (s : State) : State := if b then report f s else s

/-- A notice with its conditions read (R178). -/
def OutMessage.withConditions (conds : BitVec 6) : OutMessage → OutMessage
  | .notice number flag ms none => .notice number flag ms (some conds)
  | m => m

/-- The end of an event at the event unit: the notices it offered read the conditions (R178), and ATTN is worked out (R181). -/
def closeEvent (s : State) : State :=
  let read := { s with link := { s.link with outbound := s.link.outbound.map (OutMessage.withConditions (conditions s)) } }
  { read with events := { read.events with attn := attnWanted read } }

end Sys2Proof.Machine
end

