-- ==== Sys2Proof/Machine/Sender.lean ====
section
/-! DEFINITION. The replay store, the waiting frames, the tally, mark streams and the replay pass (Chapters 3 and 5), and the
timers derived from the round-trip time (section 7.4). -/

namespace Sys2Proof.Machine

/-! ## The replay store (sections 3.1 to 3.4) -/

/-- The cells a frame of some bytes needs: ceil(length / 128) (R44). -/
def cellNeed (length : Nat) : Nat := (length + 127) / Config.cellBytes

/-- The void marker of a record (R43). -/
def StoreRecord.voided (r : StoreRecord) : Bool := r.payload.isNone

/-- The length of a record: 0 once voided (R43). -/
def StoreRecord.length (r : StoreRecord) : Nat := (r.payload.getD []).length

/-- The cells a record holds: none once voided (R44). -/
def StoreRecord.cells (r : StoreRecord) : Nat := cellNeed r.length

/-- The cells that the records of a store hold. -/
def storeCells (store : List StoreRecord) : Nat := (store.map StoreRecord.cells).sum

/-- Free cells (R44). -/
def Sender.freeCells (t : Sender) : Nat := Config.maxCells - storeCells t.store

/-- Free records (R44). -/
def Sender.freeRecords (t : Sender) : Nat := Config.maxRecords - t.store.length

/-- O: the oldest record's seq, or N when the store is empty (R45). -/
def Sender.oldest (t : Sender) : Seq :=
  match t.store with
  | [] => t.n
  | r :: _ => r.seq

/-- The store has room for a frame of some bytes (R33, R46). -/
def Sender.admits (t : Sender) (length : Nat) : Bool :=
  decide (0 < t.freeRecords) && decide (cellNeed length ≤ t.freeCells)

/-- Admission of a replay-class frame: a record at the newest end with the number N, and N advances (R46 steps 1 to 3). -/
def Sender.enrol (t : Sender) (lane : Lane) (frame : QueuedFrame) : Sender :=
  { t with
    store := t.store ++ [{ seq := t.n, lane := lane, arrival := frame.arrival, resends := 0, payload := some frame.bytes }]
    n := t.n + 1 }

/-- An ackno is valid (R11). -/
def Sender.ackValid (t : Sender) (a : Seq) : Bool := decide ((a - t.oldest).toNat ≤ (t.n - t.oldest).toNat)

/-- Where the cursor stands after records have left: at its record if that is still held, else at the oldest record remaining,
or past the end (R99). -/
def correctedCursor (cursor : Option Seq) (store : List StoreRecord) : Option Seq :=
  match cursor with
  | none => none
  | some c => if store.any (fun r => r.seq == c) then some c else store.head?.map StoreRecord.seq

/-- The release of records by a valid ackno, with the cursor corrected (R47, R99). -/
def Sender.release (t : Sender) (a : Seq) : Sender :=
  let kept := t.store.drop (a - t.oldest).toNat
  { t with store := kept, cursor := correctedCursor t.cursor kept }

/-- The sender takes an ackno: a valid one releases records, an invalid one is counted (R11, R47). -/
def applyAck (a : Seq) (s : State) : State :=
  if s.sender.ackValid a then { s with sender := s.sender.release a } else s.countCarry .upAckInvalid

/-- The age of a timestamp in ms, modulo 2^32 (R33, R183). -/
def State.ageOf (s : State) (arrival : Stamp) : Nat := (s.ms - arrival).toNat

/-- A max age is nonzero and exceeded (R33, R49). -/
def pastMaxAge (maxAge age : Nat) : Bool := decide (maxAge ≠ 0) && decide (maxAge < age)

/-- The voiding test of a record (R49). -/
def voidingTest (s : State) (r : StoreRecord) : Bool :=
  !r.voided &&
    (pastMaxAge (s.lanes.get r.lane).profile.maxAge (s.ageOf r.arrival) || decide (s.carry.resendLimit ≤ r.resends))

/-- A record after the pass has reached it: voided when the test says so, and its resend count one up, saturating (R49, R50). -/
def StoreRecord.reached (r : StoreRecord) (voids : Bool) : StoreRecord :=
  { r with payload := if voids then none else r.payload, resends := min (r.resends + 1) 255 }

/-- The records after the one with a seq: none when that is the newest, or is not held. -/
def nextSeq (c : Seq) : List StoreRecord → Option Seq
  | [] => none
  | r :: rest => if r.seq = c then rest.head?.map StoreRecord.seq else nextSeq c rest

/-! ## Waiting frames (R56) -/

/-- Two waiting frames are of one kind. -/
def WaitingFrame.sameKind : WaitingFrame → WaitingFrame → Bool
  | .opening _, .opening _ => true
  | .echo _ _ _, .echo _ _ _ => true
  | .probe _ _ _, .probe _ _ _ => true
  | .tally _, .tally _ => true
  | _, _ => false

/-- A waiting frame is an OPEN. -/
def WaitingFrame.isOpen : WaitingFrame → Bool
  | .opening _ => true
  | _ => false

/-- A waiting frame is a TALLY. -/
def WaitingFrame.isTally : WaitingFrame → Bool
  | .tally _ => true
  | _ => false

/-- A waiting frame is an ECHO. -/
def WaitingFrame.isEcho : WaitingFrame → Bool
  | .echo _ _ _ => true
  | _ => false

/-- A frame falls due among the waiting frames of a bearer: it takes the last place and replaces one of its kind, but a TALLY
that waits already stays (R56). -/
def fallDue (w : WaitingFrame) (waiting : List WaitingFrame) : List WaitingFrame :=
  if w.isTally && waiting.any WaitingFrame.isTally then waiting else waiting.filter (fun v => !v.sameKind w) ++ [w]

/-- A frame falls due on a bearer (R56). -/
def State.addWaiting (b : Bearer) (w : WaitingFrame) (s : State) : State := s.setWaiting b (fallDue w (s.waiting b))

/-- The waiting frames of both bearers that meet a test stay; the others are abandoned. -/
def State.keepWaiting (keep : WaitingFrame → Bool) (s : State) : State :=
  { s with sender := { s.sender with
      waitingFibre := s.sender.waitingFibre.filter keep
      waitingRadio := s.sender.waitingRadio.filter keep } }

/-! ## The tally (R59, R60) -/

/-- The tally owed state is cleared, the timer stops, and a waiting TALLY is withdrawn (R59, R60). -/
def clearTally (s : State) : State :=
  let kept := s.keepWaiting (fun w => !w.isTally)
  { kept with sender := { kept.sender with tallyOwed := false, tallyTimer := none } }

/-- A TALLY waits on the active bearer. -/
def tallyWaits (s : State) : Bool :=
  match s.active with
  | none => false
  | some b => (s.waiting b).any WaitingFrame.isTally

/-- The tally reckoning of an advance of E: with an active bearer the tally is owed, and the timer starts unless it runs or
has expired with its TALLY still waiting (R59, R60; log entry 25). -/
def oweTally (s : State) : State :=
  if s.active.isSome && s.session.status == .opened then
    let timer := if s.sender.tallyTimer.isNone && !tallyWaits s then some (s.inMs s.carry.tallyDelay) else s.sender.tallyTimer
    { s with sender := { s.sender with tallyOwed := true, tallyTimer := timer } }
  else s

/-! ## Mark streams (section 5.1) -/

/-- A REWIND stream is in progress on a bearer, and goes on (R84). -/
def rewindRuns (s : State) (b : Bearer) : Bool :=
  match s.sender.stream with
  | some m => m.kind == .rewind && m.bearer == b && !m.stopping
  | none => false

/-- A REWIND stream is requested on the active bearer: merged with one pending or in progress there (R82, R84). Without an
active bearer no request is made. -/
def requestRewind (s : State) : State :=
  match s.active with
  | none => s
  | some b => if rewindRuns s b then s else { s with sender := { s.sender with rewindPending := true } }

/-- The stream in progress and both pending requests end, and so does the pause reason of a stream (R85). -/
def abandonStreams (s : State) : State :=
  { s with
    sender := { s.sender with stream := none, rewindPending := false, announcePending := false }
    pause := { s.pause with stream := false } }

/-- The stream in progress on a bearer whose port closes ends; pending requests are kept (R85). -/
def endStreamOn (b : Bearer) (s : State) : State :=
  match s.sender.stream with
  | some m =>
    if m.bearer = b then
      { s with sender := { s.sender with stream := none }, pause := { s.pause with stream := false } }
    else s
  | none => s

/-- A bearer's port has closed: its waiting frames are abandoned and a stream on it ends (R56, R85). -/
def closePort (b : Bearer) (s : State) : State := endStreamOn b (s.setWaiting b [])

/-! ## The replay pass (section 5.4) -/

/-- The pass is abandoned or ends: no phase, no cursor, no announce, no pause reason (R98, R101). -/
def abandonPass (s : State) : State :=
  { s with
    sender := { s.sender with pass := .none, cursor := none, announcePending := false, passStopping := false }
    pause := { s.pause with pass := false } }

/-- A pass starts, or restarts in RESENDING, on the active bearer; in WAITING and ANNOUNCING nothing changes (R96, R99). A pass
that a session restart is stopping counts as none. -/
def startPass (s : State) : State :=
  if s.sender.passStopping || s.sender.pass == .none || s.sender.pass == .resending then
    { s with
      sender := { s.sender with pass := .waiting, cursor := none, announcePending := true, passStopping := false }
      pause := { s.pause with pass := true } }
  else s

/-- The sender's part of a take-up on the new active bearer, after the old bearer's streams and pass have ended: a REWIND
stream, and a pass when the store holds a record or a pass is owed (R102). The stream's pause reason is raised at once (R140;
log entry 26). -/
def takeUpSender (s : State) : State :=
  let asked := { requestRewind s with pause := { s.pause with stream := true } }
  let started := if !s.sender.store.isEmpty || s.sender.passOwed then startPass asked else asked
  { started with sender := { started.sender with passOwed := false } }

/-! ## Timers derived from the round-trip time (section 7.4) -/

/-- ceil(n / 10). -/
def ceilTenth (n : Nat) : Nat := (n + 9) / 10

/-- The rewind period in ms, from the smoothed round-trip time and the rewind margin (R133). -/
def rewindPeriod (srtt : Option Nat) (margin : Nat) : Nat :=
  match srtt with
  | none => 1000
  | some t => min 5000 (max 40 (ceilTenth (4 * t) + margin))

/-- The drain limit in ms, from the smoothed round-trip time of the bearer being left and the drain margin (R134). -/
def drainLimit (srtt : Option Nat) (margin : Nat) : Nat :=
  match srtt with
  | none => 500
  | some t => min 10000 (max 50 (ceilTenth (2 * t) + margin))

/-- The pacing gap in µs after a unit of some bytes: ceil(n × 8,000 / pace rate) (R135). -/
def pacingGap (bytes paceRate : Nat) : Nat := (bytes * 8000 + paceRate - 1) / paceRate

/-- The rewind timer starts for the active bearer, with the attempt count given (R91, R133). -/
def startRewindTimer (b : Bearer) (attempts : Nat) (s : State) : State :=
  { s with receiver := { s.receiver with
      attempts := attempts
      rewindTimer := some (s.inMs (rewindPeriod (s.judge b).srtt s.carry.rewindMargin)) } }

/-- The receiver's part of a take-up: in discard state the stream is attempt 1 and the timer starts (R103). -/
def takeUpReceiver (b : Bearer) (s : State) : State := if s.receiver.discard then startRewindTimer b 1 s else s

/-- The rewind timer stops; the attempt count is kept (R94). -/
def stopRewindTimer (s : State) : State := { s with receiver := { s.receiver with rewindTimer := none } }

/-! ## The session (sections 1.6 and 1.7) -/

/-- The epoch that follows: 65535 is followed by 1 (R12). -/
def nextEpoch (e : BitVec 16) : BitVec 16 := if e = 0xFFFF#16 then 1 else e + 1

/-- The session enters OPENING with the next epoch (R12, R14, R18); the retry timer is stopped until an OPEN is sent. -/
def enterOpening (s : State) : State :=
  { s with
    session := { status := .opening, epoch := nextEpoch s.session.epoch, retry := none }
    pause := { s.pause with session := true } }

/-- OPEN with the current epoch is sent on a bearer, any other waiting OPEN is abandoned, and the retry timer starts (R14, R15). -/
def sendOpen (b : Bearer) (s : State) : State :=
  let due := (s.keepWaiting (fun w => !w.isOpen)).addWaiting b (.opening s.session.epoch)
  { due with session := { due.session with retry := some (s.clock + Config.retryMicros) } }

/-- The session enters OPEN: the retry timer stops, a waiting OPEN is abandoned, the pause reason goes, and SESSION_OPEN is
reported (R16, R17; log entry 13). -/
def enterOpen (s : State) : State :=
  let kept := s.keepWaiting (fun w => !w.isOpen)
  report .sessionOpen
    { kept with
      session := { kept.session with status := .opened, retry := none }
      pause := { kept.pause with session := false } }

end Sys2Proof.Machine
end

