-- ==== Sys2Proof/Machine/ModuleControl.lean ====
section
/-! DEFINITION. The shared operations of the judges' interval start and reset (sections 6.1 and 6.2) and of the module
controller: wake, search, linger, release and rest (sections 9.3 to 9.5). -/

namespace Sys2Proof.Machine

/-! ## Judge reset and interval start -/

/-- The event of a bearer's verdict becoming DOWN (R120). -/
def downFlag : Bearer → EventFlag
  | .fibre => .fibreDown
  | .radio => .radioDown

/-- The event of a bearer's verdict becoming UP (R120). -/
def upFlag : Bearer → EventFlag
  | .fibre => .fibreUp
  | .radio => .radioUp

/-- A judge after a judge reset: the penalty, the suppression, the decay clock, the tag counter and the settings are kept
(R108, R124). -/
def Judge.cleared (j : Judge) : Judge :=
  { j with
    timer := none
    count := 0
    goodRun := 0
    badRun := 0
    tally := 0
    position := 0
    noWindow := false
    cleanRun := 0
    verdict := .down
    answered := false
    linkHeld := false
    reading := none
    srtt := none
    table := [] }

/-- A judge reset: one that finds the verdict UP reports the DOWN event (R108, R120). The selector is told by `rework`. -/
def resetJudge (b : Bearer) (s : State) : State :=
  reportIf ((s.judge b).verdict == .up) (downFlag b) (s.mapJudge b Judge.cleared)

/-- The controller sends SIGNAL for the radio judge when the module is READY and no command is outstanding (R167). -/
def askSignal (s : State) : State :=
  if s.radio.status == .ready && s.radio.outstanding.isNone then
    { s with radio := { s.radio with outstanding := some ⟨.signal, s.clock + Config.responseMicros⟩ } }
  else s

/-- The waiting frames with a PROBE put just before an OPEN that fell due in the same event (R55; log entry 23). -/
def fallDueBeforeOpen (w : WaitingFrame) (waiting : List WaitingFrame) : List WaitingFrame :=
  let kept := waiting.filter (fun v => !v.sameKind w)
  kept.filter (fun v => !v.isOpen) ++ [w] ++ kept.filter WaitingFrame.isOpen

/-- The epoch a PROBE carries: the counter, or 1 while the counter is 0 (R12). -/
def probeEpoch (epoch : BitVec 16) : BitVec 16 := if epoch = 0 then 1 else epoch

/-- A PROBE with the next tag falls due on a bearer whose port is open (R109). `together` says that an OPEN fell due there in
the same event; then either may leave first, which is a free choice. -/
def probeDue (b : Bearer) (together : Bool) (s : State) : State :=
  if s.portOpen b then
    let j := s.judge b
    let w := WaitingFrame.probe j.tag (probeEpoch s.session.epoch) j.count
    let tagged := s.mapJudge b (fun k => { k with tag := k.tag + 1 })
    if together then
      let chosen := { tagged with ties := s.ties + 1 }
      if Config.probeLeavesFirst s.ties then chosen.setWaiting b (fallDueBeforeOpen w (s.waiting b)) else chosen.addWaiting b w
    else tagged.addWaiting b w
  else s

/-- An interval starts at a moment: it is numbered, its evidence is empty, its PROBE falls due and, for the radio, a SIGNAL is
asked (R107, R109, R113, R114). -/
def startInterval (b : Bearer) (start : Nat) (together : Bool) (s : State) : State :=
  let numbered := s.mapJudge b fun j =>
    { j with
      count := j.count + 1
      answered := false
      linkHeld := s.portOpen b
      timer := some (start + j.settings.interval * 1000) }
  let due := probeDue b together numbered
  match b with
  | .fibre => due
  | .radio => askSignal due

/-- Judging of a bearer begins: a fresh judge and its first interval (R106, R107). -/
def beginJudging (b : Bearer) (s : State) : State :=
  startInterval b s.clock false (s.mapJudge b Judge.cleared)

/-! ## The module controller -/

/-- The response limit of a command in µs (R158). -/
def responseLimit (m : ModuleSettings) : ModuleCommand → Nat
  | .powerUp => m.wakeLimit * 1000000
  | .attach => m.searchRound * 1000000
  | .signal => Config.responseMicros
  | .detach => Config.responseMicros
  | .powerOff => Config.responseMicros

/-- A command is sent and its response timer starts (R158). -/
def sendCommand (c : ModuleCommand) (s : State) : State :=
  { s with radio := { s.radio with outstanding := some ⟨c, s.clock + responseLimit s.radio.settings c⟩ } }

/-- The outstanding command is this one (R158). -/
def awaits (c : ModuleCommand) (s : State) : Bool :=
  match s.radio.outstanding with
  | some o => o.command == c
  | none => false

/-- The module wakes from OFF: MOD_PWR high, POWER_UP, WAKING (R160). -/
def wake (s : State) : State :=
  sendCommand .powerUp { s with radio := { s.radio with modPwr := true, status := .waking } }

/-- A search round begins: ATTACH is sent and counted (R160). -/
def searchRound (rounds : Nat) (s : State) : State :=
  (sendCommand .attach { s with radio := { s.radio with status := .searching, rounds := rounds } }).countModule .upSearchRounds

/-- The handshake after the module has left READY: a unit whose bytes are passing goes on, and anything else ends (R162). -/
def Handshake.abandoned : Handshake → Handshake
  | .handing m => .handing m
  | _ => .free

/-- The module leaves READY, up to the state that follows: the port closes, radio judging ends, the linger timer stops, and a
unit held for a re-offer is given up (R162). -/
def leaveReady (s : State) : State :=
  let closed := closePort .radio s
  let left := { closed with radio := { closed.radio with
    linger := none
    releaseDue := false
    held := none
    handshake := closed.radio.handshake.abandoned } }
  resetJudge .radio left

/-- The module enters RELEASING with a cause and sends DETACH; from READY it leaves READY first (R161, R162). -/
def enterReleasing (cause : ReleaseCause) (s : State) : State :=
  let left := if s.radio.status == .ready then leaveReady s else s
  sendCommand .detach { left with radio := { left.radio with
    status := .releasing
    linger := none
    releaseDue := false
    cause := some cause } }

/-- The linger timer starts; a linger of 0 s releases the module at once (R164). -/
def startLinger (s : State) : State :=
  if s.radio.settings.linger = 0 then enterReleasing .linger s
  else { s with radio := { s.radio with linger := some (s.inSeconds s.radio.settings.linger) } }

/-- The controller acts on the wanted level it holds, unless a command is outstanding (R160, R164): OFF wakes; READY stops the
linger timer or starts it. -/
def actOnLevel (s : State) : State :=
  match s.radio.status with
  | .off => if s.radio.wantedHeld == .active then wake s else s
  | .ready =>
    if s.radio.outstanding.isSome then s
    else if s.radio.wantedHeld == .active then { s with radio := { s.radio with linger := none } }
    else if s.radio.linger.isNone && !s.radio.releaseDue then startLinger s
    else s
  | _ => s

/-- The module enters OFF, and wakes at once when it is wanted (R160, R161, R163). -/
def enterOff (s : State) : State :=
  actOnLevel { s with radio := { s.radio with
    status := .off
    modPwr := false
    outstanding := none
    rest := none
    cause := none } }

/-- The module enters RESTING with MOD_PWR low and the rest timer running (R161, R163). -/
def enterResting (s : State) : State :=
  { s with radio := { s.radio with
    status := .resting
    modPwr := false
    outstanding := none
    cause := none
    rest := some (s.inSeconds s.radio.settings.rest) } }

/-- ATTACHED puts the module in READY: the port opens with a free handshake, the radio is judged unless the selector is
STOPPED, and the linger timer starts when the module is not wanted (R162, R164). -/
def enterReady (s : State) : State :=
  let opened := { s with radio := { s.radio with
    status := .ready
    outstanding := none
    stallCount := 0
    handshake := .free
    held := none } }
  let judged := if s.selector.status == .stopped then opened else beginJudging .radio opened
  if s.radio.wantedHeld == .none then startLinger judged else judged

end Sys2Proof.Machine
end

