-- ==== Sys2Proof/Machine/PathSelector.lean ====
section
/-! DEFINITION. The path selector: eligibility, the wanted level, changes of the active bearer, the return hold and the drain
(Chapter 8, R121). -/

namespace Sys2Proof.Machine

/-! ## Eligibility and the wanted level -/

/-- A bearer is eligible: its verdict is UP and it is not suppressed; under a pin of FIBRE the fibre may be suppressed (R121). -/
def State.eligible (s : State) (b : Bearer) : Bool :=
  (s.judge b).verdict == .up && (!(s.judge b).suppressed || (b == .fibre && s.selector.pin == .only .fibre))

/-- A bearer is permitted by the pin (R137). -/
def PinValue.permits : PinValue → Bearer → Bool
  | .auto, _ => true
  | .only c, b => c == b

/-- A bearer may be made active (R137). -/
def State.mayTake (s : State) (b : Bearer) : Bool := s.eligible b && s.selector.pin.permits b

/-- The effective standby level: BATTERY makes it COLD (R35, R155). -/
def effectiveStandby (s : State) : Standby :=
  match s.lanes.supply with
  | .mains => s.radio.settings.standby
  | .battery => .cold

/-- The wanted level (R155). -/
def wantedLevel (s : State) : WantedLevel :=
  match s.selector.status with
  | .stopped => .none
  | .outage => if s.selector.pin == .only .fibre then .none else .active
  | .on .fibre => if effectiveStandby s == .hot then .active else .none
  | .on .radio => .active
  | .draining _ => .active

/-- The wanted level is worked out, and a changed level is handed to the controller, which acts on it (R155, R164). A linger of
0 s may then release the module and reset the radio judge; the selector states in which the level falls to NONE take no action
on the radio's withdrawal (R137, R141, R142), so its new eligibility is only noted. -/
def handWanted (s : State) : State :=
  if wantedLevel s = s.selector.wanted then s
  else
    let given := { s with
      selector := { s.selector with wanted := wantedLevel s }
      radio := { s.radio with wantedHeld := wantedLevel s } }
    let acted := actOnLevel given
    acted.mapJudge .radio (fun j => { j with handed := acted.eligible .radio })

/-! ## Changing the active bearer (R140) -/

/-- What ends when the active bearer changes or is lost: the tally state, the streams, the pass, and a waiting OPEN (R15, R59,
R85, R101). -/
def endActive (s : State) : State := abandonPass (abandonStreams (clearTally (s.keepWaiting (fun w => !w.isOpen))))

/-- The session's part of a change to a bearer: it opens, OPEN is sent, or the take-up is made (R14, R15, R102, R103). -/
def sessionOn (b : Bearer) (s : State) : State :=
  match s.session.status with
  | .closed => sendOpen b (enterOpening s)
  | .opening => sendOpen b s
  | .opened => takeUpReceiver b (takeUpSender s)

/-- A bearer becomes active, up to the record, the return hold and the wanted level (R140). `fromNone` says that the change is
from none, which reports OUTAGE_END as well (log entry 10). -/
def makeActive (b : Bearer) (fromNone : Bool) (s : State) : State :=
  let entered := { s with
    selector := { s.selector with status := .on b }
    pause := { s.pause with selector := false } }
  report .handover (reportIf fromNone .outageEnd (sessionOn b (endActive entered)))

/-- The handover record is written (R153). -/
def writeRecord (source : Option Bearer) (target : Bearer) (kind : HandoverKind) (outcome : Option HandoverOutcome)
    (s : State) : State :=
  { s with selector := { s.selector with record := some ⟨source, target, kind, s.ms, outcome⟩ } }

/-- The handover record takes an outcome (R153). -/
def completeRecord (outcome : HandoverOutcome) (s : State) : State :=
  { s with selector := { s.selector with
      record := s.selector.record.map (fun r => { r with outcome := some outcome }) } }

/-- The selector enters OUTAGE: no bearer is active, and OUTAGE_BEGIN is reported (R140, R154). -/
def enterOutage (s : State) : State :=
  let entered := { s with
    selector := { s.selector with status := .outage, holdTimer := none }
    pause := { s.pause with selector := true } }
  let ended := stopRewindTimer (endActive entered)
  handWanted (report .outageBegin { ended with session := { ended.session with retry := none } })

/-! ## The drain and the return hold (sections 8.4 and 8.6) -/

/-- A drain switches to its target with an outcome (R149). `hold` is the return hold's part of the change (R140). -/
def switchDrain (hold : State → State) (source : Bearer) (outcome : HandoverOutcome) (s : State) : State :=
  let stopped := { s with selector := { s.selector with drainTimer := none } }
  handWanted (hold (completeRecord outcome (makeActive source.other false stopped)))

/-- The selector enters DRAINING from a bearer: the pause reason, the record, the return hold, and the drain timer with the limit
of R134 (R148 steps 1 to 5). -/
def enterDrain (source : Bearer) (s : State) : State :=
  { s with
    selector := { s.selector with
      status := .draining source
      holdTimer := none
      record := some ⟨some source, source.other, .planned, s.ms, none⟩
      drainTimer := some (s.inMs (drainLimit (s.judge source).srtt s.carry.drainMargin)) }
    pause := { s.pause with selector := true } }

/-- A drain starts from the active bearer, and switches at once when the store is empty (R148). -/
def startDrain (hold : State → State) (source : Bearer) (s : State) : State :=
  let begun := handWanted (enterDrain source s)
  if begun.sender.store.isEmpty then switchDrain hold source .emptied begun else begun

/-- The return hold is to run: ON_RADIO, pin AUTO, fibre eligible (R145). -/
def holdWanted (s : State) : Bool :=
  s.selector.status == .on .radio && s.selector.pin == .auto && s.eligible .fibre

/-- The return hold timer starts or stops with its three conditions; a return hold of 0 s starts the drain to the fibre at
once, and that drain's own switch starts no hold (R145). -/
def updateHold (s : State) : State :=
  if holdWanted s then
    if s.selector.holdTimer.isSome then s
    else if s.carry.returnHold = 0 then startDrain id .radio s
    else { s with selector := { s.selector with holdTimer := some (s.inSeconds s.carry.returnHold) } }
  else { s with selector := { s.selector with holdTimer := none } }

/-- A forced change to a bearer, with its record (R141, R142, R143). -/
def forceTo (source : Option Bearer) (b : Bearer) (s : State) : State :=
  handWanted (updateHold (writeRecord source b .forced (some .done) (makeActive b source.isNone s)))

/-- The active bearer stops being eligible: the other bearer is taken if it may be, else OUTAGE (R142, R143). -/
def loseActive (b : Bearer) (s : State) : State :=
  let stopped := { s with selector := { s.selector with holdTimer := none } }
  if s.mayTake b.other then forceTo (some b) b.other stopped else enterOutage stopped

/-- A drain is abandoned with an outcome: back to the source when the pin permits it, else OUTAGE (R150). -/
def abandonDrain (source : Bearer) (outcome : HandoverOutcome) (s : State) : State :=
  let ended := completeRecord outcome { s with selector := { s.selector with drainTimer := none } }
  if s.selector.pin.permits source then
    handWanted (updateHold { ended with
      selector := { ended.selector with status := .on source }
      pause := { ended.pause with selector := false } })
  else enterOutage ended

/-- The selector acts on a bearer's changed eligibility as it arrives (R137, R141 to R143, R145, R150, R151). -/
def onEligibility (b : Bearer) (s : State) : State :=
  match s.selector.status with
  | .stopped => s
  | .outage => if s.mayTake b then forceTo none b s else s
  | .on c =>
    if c = b then (if s.eligible b then s else loseActive b s)
    else if c = .radio then updateHold s
    else s
  | .draining source =>
    if s.eligible b then s
    else if b = source then switchDrain updateHold source .sourceLost s
    else abandonDrain source .targetLost s

/-- A judge works out its bearer's eligibility afresh and hands a changed one to the selector (R121). -/
def rework (b : Bearer) (s : State) : State :=
  if s.eligible b = (s.judge b).handed then s
  else onEligibility b (s.mapJudge b (fun j => { j with handed := s.eligible b }))

/-- The store has become empty in a drain: the selector switches (R47, R149). -/
def drainEmptied (s : State) : State :=
  match s.selector.status with
  | .draining source => switchDrain updateHold source .emptied s
  | _ => s

/-- In OUTAGE, after a PIN: a permitted eligible bearer is taken, the fibre first (R141). -/
def takeFromOutage (s : State) : State :=
  if s.mayTake .fibre then forceTo none .fibre s
  else if s.mayTake .radio then forceTo none .radio s
  else s

end Sys2Proof.Machine
end

