-- ==== Sys2Proof/Machine/JudgeOps.lean ====
section
/-! DEFINITION. The judges and the probe unit: interval evidence, runs and windows, verdicts, hard-fail evidence, the flap
penalty, answers and the smoothed round-trip time (Chapters 6 and 7). -/

namespace Sys2Proof.Machine

/-! ## The flap penalty (section 7.1) -/

/-- The suppression state changes: for the fibre the event is reported (R128). -/
def setSuppressed (b : Bearer) (v : Bool) (s : State) : State :=
  let changed := s.mapJudge b (fun j => { j with suppressed := v })
  match b with
  | .fibre => report (if v then .fibreSuppressed else .fibreReleased) changed
  | .radio => changed

/-- The penalty after one step: held at the ceiling (R125). -/
def Damping.stepped (d : Damping) (p : Nat) : Nat := min d.ceiling (p + d.step)

/-- The penalty after one decay tick of a penalty above 0 (R127). -/
def Damping.decayed (d : Damping) (p : Nat) : Nat := p - max 1 (p * d.factor / 256)

/-- One step of the flap penalty at a fall, and the test that sets suppression (R125). -/
def flapStep (b : Bearer) (s : State) : State :=
  let stepped := s.mapJudge b (fun j => { j with penalty := j.damping.stepped j.penalty })
  let j := stepped.judge b
  if !j.suppressed && decide (j.damping.suppress ≤ j.penalty) then setSuppressed b true stepped else stepped

/-- A decay tick of a bearer: the penalty decays, suppression is tested for release, and the eligibility is worked out (R127,
R128). The tick is an event of its own also where a fall of the same moment follows it: the selector then acts on a release
before the fall is taken (DESIGN CHOICE, log entry 39; R129). -/
def decayBy (b : Bearer) (s : State) : State :=
  if (s.judge b).penalty = 0 then s
  else
    let ticked := s.mapJudge b (fun j => { j with penalty := j.damping.decayed j.penalty })
    let j := ticked.judge b
    if j.suppressed && decide (j.penalty ≤ j.damping.reuse) then rework b (setSuppressed b false ticked) else ticked

/-! ## Verdicts (sections 6.6 to 6.8) -/

/-- A fall: the verdict becomes DOWN, its event is reported, the penalty takes its step, and the eligibility is worked out once
(R120, R125). -/
def fall (b : Bearer) (s : State) : State :=
  rework b (flapStep b (report (downFlag b) (s.mapJudge b (fun j => { j with verdict := .down }))))

/-- A rise: the verdict becomes UP, its event is reported, and the eligibility is worked out (R117, R120). -/
def rise (b : Bearer) (s : State) : State :=
  rework b (report (upFlag b) (s.mapJudge b (fun j => { j with verdict := .up })))

/-- The figures of a judge after hard-fail evidence: all 0, and window counting restarts with the interval now running as
position 1 (R119). -/
def Judge.hardFailed (j : Judge) : Judge :=
  { j with goodRun := 0, badRun := 0, tally := 0, cleanRun := 0, position := 0, noWindow := false }

/-- Hard-fail evidence at a judge: nothing when the bearer is not judged (R119). -/
def hardFail (b : Bearer) (s : State) : State :=
  if s.judged b then
    let zeroed := s.mapJudge b Judge.hardFailed
    if (s.judge b).verdict = .up then fall b zeroed else zeroed
  else s

/-! ## Interval evidence, runs and windows (sections 6.4 to 6.6) -/

/-- The reading that serves the ending interval: it arrived in it or in one of the three before it (R114). -/
def Judge.usableReading (j : Judge) : Option Int :=
  match j.reading with
  | none => none
  | some r => if j.count ≤ r.interval + 3 then some r.level else none

/-- The signal test: a usable reading at or above the floor (R115). -/
def Judge.signalOk (j : Judge) : Bool :=
  match j.usableReading with
  | none => false
  | some level => decide (j.settings.floor ≤ level)

/-- The ending interval is marked GOOD (R113, R115). -/
def Judge.intervalGood (b : Bearer) (j : Judge) : Bool :=
  match b with
  | .fibre => j.linkHeld && j.answered
  | .radio => j.answered && j.signalOk

/-- The runs and the window tally after an interval is counted (R116, R122). -/
def Judge.counted (good : Bool) (j : Judge) : Judge :=
  if good then { j with goodRun := min (j.goodRun + 1) 65535, badRun := 0 }
  else { j with
    goodRun := 0
    badRun := min (j.badRun + 1) 65535
    tally := if j.noWindow then j.tally else j.tally + 1 }

/-- The window position moves on and, at a multiple of W, the window closes (R116). An interval that belongs to no window moves
nothing (R122). -/
def Judge.windowed (j : Judge) : Judge :=
  if j.noWindow then { j with noWindow := false }
  else if (j.position + 1) % j.settings.window = 0 then
    { j with
      position := j.position + 1
      cleanRun := if j.tally ≤ j.settings.tolerance then min (j.cleanRun + 1) 255 else 0
      tally := 0 }
  else { j with position := j.position + 1 }

/-- The rise test (R117). -/
def Judge.rises (j : Judge) : Bool :=
  if j.settings.riseWindows = 0 then decide (j.settings.riseRun ≤ j.goodRun) else decide (j.settings.riseWindows ≤ j.cleanRun)

/-- The verdict test of an interval end, made once, with what follows from it (R117). -/
def verdictTest (b : Bearer) (s : State) : State :=
  let j := s.judge b
  match j.verdict with
  | .down => if j.rises then rise b s else s
  | .up =>
    if j.settings.fallRun ≤ j.badRun then fall b (s.mapJudge b (fun k => { k with goodRun := 0, cleanRun := 0 })) else s

/-- An OPEN has fallen due on a bearer between two states. -/
def openFellDue (b : Bearer) (before after : State) : Bool :=
  (after.waiting b).any WaitingFrame.isOpen && !(before.waiting b).any WaitingFrame.isOpen

/-- A judged bearer's interval ends at its moment and the next begins: the interval is marked and counted, the verdict tested,
and then the next interval starts, unless judging ended in the event (R107). -/
def endInterval (b : Bearer) (s : State) : State :=
  match (s.judge b).timer with
  | none => s
  | some moment =>
    let here := s.advanceTo moment
    let good := (s.judge b).intervalGood b
    let tested := verdictTest b (here.mapJudge b (fun j => (j.counted good).windowed))
    if tested.judged b then startInterval b moment (openFellDue b s tested) tested else tested

/-! ## Answers (section 6.3, section 7.3) -/

/-- The smoothed round-trip time after a sample (R131): trunc rounds toward zero. -/
def smoothed (srtt : Option Nat) (sample : Nat) : Nat :=
  match srtt with
  | none => sample
  | some t => ((t : Int) + ((sample : Int) - (t : Int)).tdiv 8).toNat

/-- The sample of an answer: the difference of two readings of the timebase, clamped to 60,000 (R112). -/
def sampleOf (now sent : Stamp) : Nat := min (now - sent).toNat 60000

/-- An ECHO on a bearer is matched against the probe table: stray, answer or late (R112). -/
def matchEcho (b : Bearer) (f : CarryFrame) (s : State) : State :=
  match (s.judge b).table.find? (fun e => e.tag == f.tag) with
  | none => s.countProbe b .upStray
  | some e =>
    if f.bearer ≠ bearerFrameCode b then s.countProbe b .upStray
    else
      let removed := s.mapJudge b (fun j => { j with table := j.table.filter (fun x => x.tag != f.tag) })
      if e.interval = (s.judge b).count then
        (removed.mapJudge b (fun j =>
          { j with answered := true, srtt := some (smoothed j.srtt (sampleOf s.units e.sent)) })).countProbe b .upAnswered
      else removed.countProbe b .upLate

/-- A probe table entry's expiry is reached: the entry is removed and counted lost (R111). -/
def expireProbe (b : Bearer) (tag : Byte) (s : State) : State :=
  match (s.judge b).table.find? (fun e => e.tag == tag) with
  | none => s
  | some e =>
    ((s.advanceTo (e.expiry * Config.unitMicros)).mapJudge b
      (fun j => { j with table := j.table.filter (fun x => x.tag != tag) })).countProbe b .upLost

/-- An entry joins the probe table when a PROBE's first byte leaves; a full table loses its oldest entry first (R110). -/
def createEntry (b : Bearer) (tag : Byte) (interval : Nat) (s : State) : State :=
  let j := s.judge b
  let e : ProbeEntry := ⟨tag, s.units, interval, s.clock / 100 + 4 * (j.settings.interval * 10)⟩
  if j.table.length < Config.probeEntries then s.mapJudge b (fun k => { k with table := k.table ++ [e] })
  else (s.mapJudge b (fun k => { k with table := k.table.drop 1 ++ [e] })).countProbe b .upLost

/-- A reading is handed to the radio judge, which holds it for the interval running; not evidence when not judged (R114). -/
def handReading (level : Int) (s : State) : State :=
  if s.judged .radio then s.mapJudge .radio (fun j => { j with reading := some ⟨level, j.count⟩ }) else s

end Sys2Proof.Machine
end

