-- ==== Sys2Proof/Machine/LaneOps.lean ====
section
/-! DEFINITION. The home port, the classifier and the lane unit (Chapter 2). The dispatcher's examination is here; the frame it
takes starts to leave in Sys2Proof/Machine/PortOps.lean. -/

namespace Sys2Proof.Machine

/-! ## The classifier (section 2.2) -/

/-- A class map entry matches a frame's tag and priority (R25). -/
def ClassEntry.matches (e : ClassEntry) (tag : Option (BitVec 12)) (priority : BitVec 3) : Bool :=
  e.used
    && (match e.tagKey with
        | .any => true
        | .untagged => tag.isNone
        | .tag n => tag == some n)
    && (match e.priorityKey with
        | .any => true
        | .level n => n == priority)

/-- The lane of a home frame: the first matching entry in index order, else BULK (R25). -/
def classify (map : Vector ClassEntry 16) (frame : List Byte) : Lane :=
  let key := tagAndPriority frame
  match map.toList.find? (fun e => e.matches key.1 key.2) with
  | some e => e.lane
  | none => .bulk

/-! ## Arrival at a lane (section 2.4) -/

/-- A lane is barred (R29). -/
def State.barred (s : State) (l : Lane) : Bool :=
  let p := (s.lanes.get l).profile
  (s.active == some .radio && p.radioBar) || (s.lanes.supply == .battery && p.batteryBar)

/-- A home frame arrives at a lane (R30). The second part says whether it joined. -/
def laneArrival (l : Lane) (frame : QueuedFrame) (s : State) : State × Bool :=
  let lane := s.lanes.get l
  if s.selector.status = .stopped then (s.countCarry .upStoppedDrop, false)
  else if s.barred l then (s.countLane l (.upBarred 1), false)
  else if lane.queue.length < lane.profile.limit then
    ((s.setQueue l (lane.queue ++ [frame])).countLane l .upAccepted, true)
  else
    match lane.profile.policy with
    | .dropNew => (report .laneDrop (s.countLane l (.upOverflow 1)), false)
    | .dropOld =>
      (report .laneDrop (((s.setQueue l (lane.queue.drop 1 ++ [frame])).countLane l (.upOverflow 1)).countLane l .upAccepted),
        true)

/-- The home port takes an Ethernet frame whose frame check passes and whose length is 60 to 1,522 bytes, and hands it to the
classifier; any other is discarded without count (R23). The second part says whether a frame joined a lane. -/
def homeArrival (bytes : List Byte) (s : State) : State × Bool :=
  if s.home.linkUp then
    match ethernetBody bytes with
    | none => (s, false)
    | some frame =>
      if 60 ≤ frame.length ∧ frame.length ≤ 1522 then laneArrival (classify s.classMap frame) ⟨frame, s.ms⟩ s else (s, false)
  else (s, false)

/-! ## The dispatcher's examination (section 2.5) -/

/-- The heads of a queue that are past the max age, and what is left (R33 step 1). -/
def ageDiscard (s : State) (maxAge : Nat) : List QueuedFrame → Nat × List QueuedFrame
  | [] => (0, [])
  | f :: rest =>
    if pastMaxAge maxAge (s.ageOf f.arrival) then
      let r := ageDiscard s maxAge rest
      (r.1 + 1, r.2)
    else (0, f :: rest)

/-- The age and bar discards of one lane's examination; a barred lane empties (R33 steps 1 and 2). -/
def discardHeads (l : Lane) (s : State) : State :=
  let lane := s.lanes.get l
  let aged := ageDiscard s lane.profile.maxAge lane.queue
  let barred := if s.barred l then aged.2.length else 0
  let kept := if s.barred l then [] else aged.2
  reportIf (decide (0 < aged.1 + barred)) .laneDrop
    (((s.setQueue l kept).countLane l (.upAged aged.1)).countLane l (.upBarred barred))

/-- A lane's head needs a place in the replay store that is not free (R33 step 4). -/
def blocked (s : State) (l : Lane) (head : QueuedFrame) : Bool :=
  (s.lanes.get l).profile.replay && !s.sender.admits head.bytes.length

/-- The lanes in strict order (R32). -/
def laneOrder : List Lane := [.voice, .signal, .priority, .bulk]

/-- The lanes are examined in order until one's head can go; the head leaves its queue and is counted sent (R32, R33). -/
def examineLanes : List Lane → State → State × Option (Lane × QueuedFrame)
  | [], s => (s, none)
  | l :: rest, s =>
    let s' := discardHeads l s
    match (s'.lanes.get l).queue with
    | [] => examineLanes rest s'
    | head :: tail =>
      if blocked s' l head then examineLanes rest s'
      else ((s'.setQueue l tail).countLane l .upSent, some (l, head))

/-! ## The delivery queue (section 2.7) -/

/-- The receiver hands over a payload: it joins the delivery queue, or is dropped at a full one (R36). -/
def handOver (l : Lane) (payload : List Byte) (s : State) : State :=
  if s.home.delivery.length < Config.deliveryPlaces then
    let entry : Delivery := ⟨payload, l⟩
    State.countLane l .upDelivered { s with home := { s.home with delivery := s.home.delivery ++ [entry] } }
  else s.countCarry .upHomeOverflow

/-- The head of the delivery queue has left the home port, with a newly generated frame check (R21, R37); nothing is delivered
while the link is down. -/
def deliverHead (s : State) : State :=
  match s.home.linkUp, s.home.delivery with
  | true, head :: rest => { s with home := { s.home with delivery := rest, sent := withFrameCheck head.payload } }
  | _, _ => s

/-! ## A new profile (R28) -/

/-- The queue after a trim to a limit under a policy: DROP_NEW gives up the newest, DROP_OLD the oldest (R28). -/
def trimQueue (limit : Nat) (policy : OverflowPolicy) (queue : List QueuedFrame) : List QueuedFrame :=
  match policy with
  | .dropNew => queue.take limit
  | .dropOld => queue.drop (queue.length - limit)

/-- A lane takes a new profile at once, and is trimmed when the new limit is below its occupancy (R28). -/
def setProfile (l : Lane) (p : LaneProfile) (s : State) : State :=
  let lane := s.lanes.get l
  let given := lane.queue.length - p.limit
  let trimmed : LaneState := ⟨p, trimQueue p.limit p.policy lane.queue⟩
  reportIf (decide (0 < given)) .laneDrop
    (State.countLane l (.upOverflow given) { s with lanes := s.lanes.set l trimmed })

end Sys2Proof.Machine
end

