-- ==== Sys2Proof/Machine/PortOps.lean ====
section
/-! DEFINITION. What starts to leave a port and what its completion does: frames of every kind, marks, copies, dispatch, the
data handshake (sections 3.6 to 3.9, 5.1, 5.4, 9.8), and the end of every event. -/

namespace Sys2Proof.Machine

/-! ## A frame starts to leave -/

/-- A frame of a kind without payload as it leaves on a bearer now: the fields of R1, with E as ackno (R58). -/
def plainFrame (k : FrameKind) (b : Bearer) (s : State) : CarryFrame where
  version := 1
  kind := k.code
  lane := 0
  seqFlag := false
  resent := false
  void := false
  bearer := bearerFrameCode b
  tag := 0
  epoch := s.session.epoch
  seq := 0
  ackno := s.receiver.e
  length := 0
  payload := []

/-- A waiting frame as it leaves on a bearer now (R1, R4, R56). An ECHO carries the PROBE's tag, bearer field and epoch. -/
def WaitingFrame.frame (w : WaitingFrame) (b : Bearer) (s : State) : CarryFrame :=
  match w with
  | .opening epoch => { plainFrame .opening b s with epoch := epoch }
  | .echo tag bearer epoch => { plainFrame .echo b s with tag := tag, bearer := bearer, epoch := epoch }
  | .probe tag epoch _ => { plainFrame .probe b s with tag := tag, epoch := epoch }
  | .tally epoch => { plainFrame .tally b s with epoch := epoch }

/-- The bytes that pass a port for a frame: on the fibre an Ethernet frame to the concentrator address, on the radio a module
data unit (R20, R21). -/
def wireOf (b : Bearer) (f : CarryFrame) (s : State) : List Byte :=
  match b with
  | .fibre => ethernetOf s.carry.address Config.fibreAddress s.carry.frameType (encodeCarry f)
  | .radio => encodeCarry f

/-- What will follow the hand-over of a unit, by the handshake mode at its start (R135, R168, R170). A unit offered again goes
under READY_WAIT, the handshake that stalled it (R170). -/
def handOverMode (l : Leaving) (m : ModuleSettings) : HandOver :=
  if l.reoffer then .readyWait
  else
    match m.mode with
    | .readyWait => .readyWait
    | .paced => .paced (pacingGap l.wire.length m.paceRate)

/-- A frame is put on a port: the fibre port holds it, or a hand-over to the module begins (R54, R168). -/
def putOnPort (b : Bearer) (l : Leaving) (s : State) : State :=
  match b with
  | .fibre => { s with fibre := { s.fibre with leaving := some l } }
  | .radio =>
    { s with radio := { s.radio with
      leaving := some l
      held := none
      handshake := .handing (handOverMode l s.radio.settings) } }

/-- The tally reckoning of a frame that starts to leave: the current E on the active bearer clears it (R59). -/
def settleTally (b : Bearer) (ackno : Seq) (s : State) : State :=
  if s.active == some b && ackno == s.receiver.e then clearTally s else s

/-- A frame's first byte leaves a port (R58, R59). -/
def startFrame (b : Bearer) (f : CarryFrame) (s : State) : State :=
  settleTally b f.ackno (putOnPort b ⟨f, wireOf b f s, false⟩ s)

/-- The head of a bearer's waiting frames starts to leave; a PROBE's entry joins the probe table (R55, R110). -/
def startWaiting (b : Bearer) (w : WaitingFrame) (rest : List WaitingFrame) (s : State) : State :=
  let popped := s.setWaiting b rest
  let started := startFrame b (w.frame b s) popped
  match w with
  | .probe tag _ interval => createEntry b tag interval started
  | _ => started

/-- The next mark of the stream in progress starts to leave (R83). -/
def startMark (b : Bearer) (k : MarkKind) (s : State) : State := startFrame b (plainFrame k.frameKind b s) s

/-- A pending stream starts on the active bearer: its pause reason is raised and its first mark leaves (R82, R83); a REPLAY
stream takes the pass to ANNOUNCING (R96). -/
def startStream (b : Bearer) (k : MarkKind) (s : State) : State :=
  let begun := { s with
    sender := { s.sender with
      stream := some ⟨k, b, s.carry.nTx, false⟩
      rewindPending := if k = .rewind then false else s.sender.rewindPending
      announcePending := if k = .replay then false else s.sender.announcePending
      pass := if k = .replay then .announcing else s.sender.pass }
    pause := { s.pause with stream := true } }
  startMark b k begun

/-- A copy of a record as it leaves on a bearer now, full or a void stub (R53). -/
def copyFrame (r : StoreRecord) (b : Bearer) (s : State) : CarryFrame :=
  { plainFrame .data b s with
    lane := r.lane.frameCode
    seqFlag := true
    resent := true
    void := r.voided
    seq := r.seq
    length := BitVec.ofNat 16 r.length
    payload := r.payload.getD [] }

/-- The pass takes the record at the cursor: voiding test, resend count, cursor, and the copy starts to leave (R49, R50, R98). -/
def passCopy (b : Bearer) (c : Seq) (s : State) : State :=
  match s.sender.store.find? (fun r => r.seq == c) with
  | none => { s with sender := { s.sender with cursor := none } }
  | some r =>
    let voids := voidingTest s r
    let counted := if voids then report .staleVoided (s.countCarry .upVoided) else s
    let reached := r.reached voids
    let moved := { counted with sender := { counted.sender with
      store := counted.sender.store.map (fun x => if x.seq = c then reached else x)
      cursor := nextSeq c counted.sender.store } }
    startFrame b (copyFrame reached b moved) moved

/-- A DATA frame of a first sending as it leaves on the active bearer now (R52). -/
def dataFrame (l : Lane) (seq : Option Seq) (bytes : List Byte) (b : Bearer) (s : State) : CarryFrame :=
  { plainFrame .data b s with
    lane := l.frameCode
    seqFlag := seq.isSome
    seq := seq.getD 0
    length := BitVec.ofNat 16 bytes.length
    payload := bytes }

/-- A head frame handed over by the dispatcher: a replay-class one is admitted to the store with the number N; its DATA starts
to leave (R8, R46, R52). -/
def sendHead (l : Lane) (frame : QueuedFrame) (b : Bearer) (s : State) : State :=
  if (s.lanes.get l).profile.replay then
    let admitted := { s with sender := s.sender.enrol l frame }
    startFrame b (dataFrame l (some s.sender.n) frame.bytes b admitted) admitted
  else startFrame b (dataFrame l none frame.bytes b s) s

/-- A dispatch opportunity on the active bearer's port (R32). -/
def dispatch (b : Bearer) (s : State) : State :=
  match examineLanes laneOrder s with
  | (s', none) => s'
  | (s', some (l, head)) => sendHead l head b s'

/-! ## The order on a port (R55) -/

/-- A pass whose cursor is past the end ends at the active bearer's free port (R97, R98; log entry 15). -/
def endPassAt (b : Bearer) (s : State) : State :=
  if s.active == some b && s.sender.pass == .resending && s.sender.cursor.isNone then abandonPass s else s

/-- A stream in progress on a bearer whose next mark is to leave. -/
def streamOn (s : State) (b : Bearer) : Option MarkKind :=
  match s.sender.stream with
  | some m => if m.bearer = b ∧ m.stopping = false then some m.kind else none
  | none => none

/-- The next frame starts on a free port, by the order of R55: the stream's next mark or a pending stream, the waiting frame
that fell due first, the pass's next copy, and, at a dispatch opportunity, DATA. -/
def nextFrame (opportunity : Bool) (b : Bearer) (s : State) : State :=
  match streamOn s b with
  | some k => startMark b k s
  | none =>
    if s.active == some b && s.sender.rewindPending then startStream b .rewind s
    else if s.active == some b && s.sender.announcePending then startStream b .replay s
    else
      match s.waiting b with
      | w :: rest => startWaiting b w rest s
      | [] =>
        if s.active == some b then
          match s.sender.pass, s.sender.cursor with
          | .resending, some c => passCopy b c s
          | _, _ => if opportunity && !s.pause.any then dispatch b s else s
        else s

/-- A port is served at the end of an event: when it is free, a pass past its end ends and the next frame starts. The end of a
pass that lifts the last pause reason is a dispatch opportunity of its own (R98). -/
def serve (opportunity : Bool) (b : Bearer) (s : State) : State :=
  if s.portFree b then
    let ended := endPassAt b s
    nextFrame (opportunity || (s.pause.any && !ended.pause.any)) b ended
  else s

/-- Whether an event gives rise to a dispatch opportunity, from the states before and after it: the port has become free or
active, the last pause reason has gone, or records were released; `joined` says that a frame joined a lane or a SET_LANE was
accepted (R31, R32, R55; log entry 16). -/
def opportunityAfter (joined : Bool) (before after : State) : Bool :=
  joined || before.pause.any || decide (after.sender.store.length < before.sender.store.length)
    || decide (before.active ≠ after.active)
    || (match after.active with
        | some b => !before.portFree b
        | none => false)

/-- The end of every event: both ports are served, and the event unit closes the event. -/
def finish (joined : Bool) (before after : State) : State :=
  let opportunity := opportunityAfter joined before after
  closeEvent (serve opportunity .radio (serve opportunity .fibre after))

/-- A command whose effect is a change of state, with its end of event; `effect` says too whether a frame joined a lane or a
SET_LANE was accepted. While RESET_N is held active it changes nothing (log entry 7). -/
def runWith (s : State) (effect : State → State × Bool) : Host.Outcome State Fault Refusal :=
  if s.resetHeld then .next s else .next (finish (effect s).2 s (effect s).1)

/-- A command whose effect neither joins a frame to a lane nor accepts a SET_LANE. -/
def run (s : State) (effect : State → State) : Host.Outcome State Fault Refusal := runWith s (fun t => (effect t, false))

/-- A command that can make nothing due on a port: its event ends at the event unit alone. While RESET_N is held active it
changes nothing (log entry 7). -/
def runQuiet (s : State) (effect : State → State) : Host.Outcome State Fault Refusal :=
  if s.resetHeld then .next s else .next (closeEvent (effect s))

/-! ## A frame's departure completes (R61) -/

/-- The count of a completed frame (R61). -/
def countDeparture (b : Bearer) (f : CarryFrame) (s : State) : State :=
  match kindOfCode f.kind with
  | some .data => if f.resent then s.countCarry .upResent else s.countCarry .upSent
  | some .tally => s.countCarry .upTally
  | some .probe => s.countProbe b .upSent
  | _ => s

/-- An announcing pass goes on to RESENDING with the cursor at the oldest record; with an empty store it ends at once (R97). -/
def startResending (s : State) : State :=
  match s.sender.store with
  | [] => abandonPass s
  | r :: _ => { s with sender := { s.sender with pass := .resending, cursor := some r.seq } }

/-- The last mark of a stream has left: the stream is counted and its pause reason goes; a REPLAY stream takes an announcing
pass to RESENDING (R83, R97). -/
def endStream (k : MarkKind) (s : State) : State :=
  let ended := { s with sender := { s.sender with stream := none }, pause := { s.pause with stream := false } }
  match k with
  | .rewind => ended.countCarry .upRewindStreams
  | .replay =>
    if ended.sender.pass = .announcing then startResending (ended.countCarry .upReplayPasses)
    else ended.countCarry .upReplayPasses

/-- A frame boundary of the stream on a bearer: a mark has left. A stream that a session restart stops ends here without count
(R19, R40, R83). -/
def streamBoundary (b : Bearer) (s : State) : State :=
  match s.sender.stream with
  | none => s
  | some m =>
    if m.bearer = b then
      if m.stopping then endStreamOn b s
      else if m.left ≤ 1 then endStream m.kind s
      else { s with sender := { s.sender with stream := some { m with left := m.left - 1 } } }
    else s

/-- A frame boundary of a pass that a session restart stops (R19, R40). -/
def passBoundary (b : Bearer) (s : State) : State :=
  if s.sender.passStopping && s.active == some b then abandonPass s else s

/-- The handshake when a hand-over completes (R168, R170). -/
def Handshake.handedOver (clock pollStart : Nat) : Handshake → Handshake
  | .handing .readyWait => .settling (clock + pollStart)
  | .handing (.paced gap) => .pacing (clock + gap)
  | h => h

/-- A hand-over to the module ends, of a unit or of one that was cut off: in READY_WAIT the unit is kept for a re-offer (R168,
R169). A module that has left READY meanwhile leaves the handshake free (R162; log entry 32). -/
def endHandOver (unit : Option Leaving) (s : State) : State :=
  let off := { s with radio := { s.radio with leaving := none } }
  if s.radio.status = .ready then
    { off with radio := { off.radio with
      handshake := s.radio.handshake.handedOver s.clock s.radio.settings.pollStart
      held := if s.radio.handshake = .handing .readyWait then unit else none } }
  else { off with radio := { off.radio with handshake := .free, held := none } }

/-- The port's part of a completion: the frame is off the port (R61, R168). -/
def clearPort (b : Bearer) (l : Leaving) (s : State) : State :=
  match b with
  | .fibre => { s with fibre := { s.fibre with leaving := none } }
  | .radio => endHandOver (some l) s

/-- A completion at a port where no frame is leaving: it ends a hand-over to the module whose unit HALT IMMEDIATE cut off, and
otherwise changes nothing (DESIGN CHOICE, log entry 11; log entry 2). -/
def completeCut (b : Bearer) (s : State) : State :=
  match b, s.radio.handshake with
  | .radio, .handing _ => endHandOver none s
  | _, _ => s

/-- What the completion of a frame on a bearer is to its stream and to the pass: the frame boundary at which what a session
restart stops ends, and, for a frame's first sending, a mark fewer to send. A unit offered again is the same mark, so it takes
none away, yet its completion is a frame boundary as any other (DEDUCED, log entry 38). -/
def atBoundary (b : Bearer) (reoffer : Bool) (s : State) : State :=
  passBoundary b (if reoffer && !s.sender.stream.any MarkStream.stopping then s else streamBoundary b s)

/-- A frame's last byte leaves a port (R61). A unit offered again raises no count (R169). -/
def completeDeparture (b : Bearer) (s : State) : State :=
  match s.leaving b with
  | none => completeCut b s
  | some l =>
    let cleared := clearPort b l s
    atBoundary b l.reoffer (if l.reoffer then cleared else countDeparture b l.frame cleared)

/-- A stalled unit is offered again, with the same bytes (R169). With no unit held, after one that HALT IMMEDIATE cut off, nothing
is offered: the handshake is free and the stall count stays (DESIGN CHOICE, log entry 11). A unit offered again starts to leave anew
for the tally reckoning of R59: on the active bearer its ackno, when it is still E, clears the tally owed (DESIGN CHOICE, log
entry 43). A PROBE offered again makes no probe table entry and renews none (DESIGN CHOICE, log entry 44). -/
def offerAgain (s : State) : State :=
  match s.radio.held with
  | none => { s with radio := { s.radio with handshake := .free } }
  | some l => settleTally .radio l.frame.ackno (putOnPort .radio { l with reoffer := true } s)

end Sys2Proof.Machine
end

