-- ==== Sys2Proof/Machine/ReceiverOps.lean ====
section
/-! DEFINITION. The carry receiver: check failures, screens, handling by kind, mark counting, receive errors and the session
restart (Chapters 1, 4 and 5). -/

namespace Sys2Proof.Machine

/-! ## Acknos (R47, R75) -/

/-- An ackno that the receiver reads goes to the sender, and an emptied store ends a drain (R47, R149). -/
def readAck (a : Seq) (s : State) : State :=
  let applied := applyAck a s
  if !s.sender.store.isEmpty && applied.sender.store.isEmpty then drainEmptied applied else applied

/-- An ackno that is read with the discard state CLEAR alone (R75). -/
def readAckIfClear (a : Seq) (s : State) : State := if s.receiver.discard then s else readAck a s

/-! ## Receive errors (section 4.6) -/

/-- A receive error on a bearer taken with the discard state CLEAR (R76). -/
def receiveError (b : Bearer) (s : State) : State :=
  let set := report .receiveError { s with receiver := { s.receiver with discard := true } }
  let cleared := set.setMarks b ⟨0, 0⟩
  match cleared.active with
  | some a => startRewindTimer a 1 (requestRewind cleared)
  | none => { cleared with receiver := { cleared.receiver with attempts := 0, rewindTimer := none } }

/-- A check failure on a bearer (R66, R77): counted by scope, a failing frame for the bearer's mark counters, and a receive
error on the active bearer with the session OPEN and the discard state CLEAR. -/
def checkFailure (b : Bearer) (s : State) : State :=
  let broken := s.setMarks b ⟨0, 0⟩
  if s.active = some b then
    let counted := broken.countCarry .upCheckFailActive
    if s.session.status = .opened ∧ s.receiver.discard = false then receiveError b counted else counted
  else broken.countCarry .upCheckFailOther

/-! ## Screens (R2, R3, R13) -/

/-- The flags and the length of a DATA frame form one of the four combinations (R3). -/
def dataFormOk (f : CarryFrame) : Bool :=
  let len := f.length.toNat
  let full := decide (60 ≤ len) && decide (len ≤ 1522)
  match f.seqFlag, f.resent, f.void with
  | false, false, false => full
  | true, false, false => full
  | true, true, false => full
  | true, true, true => decide (len = 0)
  | _, _, _ => false

/-- A frame passes the field screens of R2. -/
def fieldsOk (f : CarryFrame) : Bool :=
  f.version == 1 && (f.bearer == 1 || f.bearer == 2) &&
    match kindOfCode f.kind with
    | none => false
    | some .data => dataFormOk f
    | some _ => f.length == 0

/-- A frame of a kind passes the session screens of R13. -/
def sessionOk (k : FrameKind) (f : CarryFrame) (s : Session) : Bool :=
  match k with
  | .data => s.status == .opened && f.epoch == s.epoch
  | .tally => s.status == .opened && f.epoch == s.epoch
  | .rewind => s.status == .opened && f.epoch == s.epoch
  | .replay => s.status == .opened && f.epoch == s.epoch
  | .opened => s.status != .closed && f.epoch == s.epoch
  | .opening => s.status != .closed && f.epoch == 0
  | .probe => true
  | .echo => true

/-- Whether a taken frame of a kind counts as CARRY received (R65). -/
def FrameKind.countsReceived : FrameKind → Bool
  | .data => true
  | .tally => true
  | .rewind => true
  | .replay => true
  | _ => false

/-! ## Marks (section 5.2) -/

/-- A good mark's effect on its bearer's counters, and whether its own counter has just reached M_rx (R86). -/
def MarkCounters.mark (m : MarkCounters) (k : MarkKind) (threshold : Nat) : MarkCounters × Bool :=
  match k with
  | .rewind => if threshold ≤ m.rewind then (⟨m.rewind, 0⟩, false) else (⟨m.rewind + 1, 0⟩, decide (m.rewind + 1 = threshold))
  | .replay => if threshold ≤ m.replay then (⟨0, m.replay⟩, false) else (⟨0, m.replay + 1⟩, decide (m.replay + 1 = threshold))

/-- The pass that a REWIND threshold asks for: on the active bearer, or owed to the next take-up (R87). -/
def rewindThreshold (s : State) : State :=
  match s.active with
  | some _ => startPass s
  | none => { s with sender := { s.sender with passOwed := true } }

/-- The discard state becomes CLEAR at a REPLAY threshold: attempts 0 and the rewind timer stopped (R79, R88). -/
def clearDiscard (s : State) : State :=
  { s with receiver := { s.receiver with discard := false, attempts := 0, rewindTimer := none } }

/-- A REWIND mark is taken (R73, R86, R87). -/
def takeRewind (b : Bearer) (f : CarryFrame) (s : State) : State :=
  let m := (s.marks b).mark .rewind s.carry.mRx
  let marked := s.setMarks b m.1
  let acked := if m.2 || !s.receiver.discard then readAck f.ackno marked else marked
  if m.2 then rewindThreshold acked else acked

/-- A REPLAY mark is taken (R73, R86, R88). -/
def takeReplay (b : Bearer) (f : CarryFrame) (s : State) : State :=
  let m := (s.marks b).mark .replay s.carry.mRx
  let marked := s.setMarks b m.1
  if s.receiver.discard then (if m.2 then readAck f.ackno (clearDiscard marked) else marked)
  else readAck f.ackno marked

/-! ## DATA (sections 4.3, 4.4, 4.6) -/

/-- E advances, and the tally is reckoned (R68, R59). -/
def advanceE (s : State) : State := oweTally { s with receiver := { s.receiver with e := s.receiver.e + 1 } }

/-- An in-order frame is accepted: hand-over, advance, ackno (R68). -/
def acceptData (f : CarryFrame) (s : State) : State :=
  let handed := if f.void then s else handOver (laneOfFrameCode f.lane) f.payload s
  readAck f.ackno (advanceE handed)

/-- The class of a sequenced DATA against E (R10). -/
inductive DataClass where
  | inOrder
  | gap
  | duplicate
  deriving DecidableEq, Repr

/-- The class of a number Q against E by the distance (Q - E) mod 65536 (R10). -/
def classOf (q e : Seq) : DataClass :=
  if q = e then .inOrder else if (q - e).toNat ≤ 32767 then .gap else .duplicate

/-- A DATA frame is taken (R68, R70 to R72, R78). -/
def takeData (b : Bearer) (f : CarryFrame) (s : State) : State :=
  if f.seqFlag = false then readAckIfClear f.ackno (handOver (laneOfFrameCode f.lane) f.payload s)
  else if s.receiver.discard then s.countCarry .upDiscarded
  else
    match classOf f.seq s.receiver.e with
    | .inOrder => acceptData f s
    | .duplicate => readAck f.ackno (s.countCarry .upDuplicate)
    | .gap => receiveError b (s.countCarry .upGap)

/-! ## Session frames and probes -/

/-- An OPENED is taken: in OPENING the session opens, in OPEN it is a late copy (R16). -/
def takeOpened (s : State) : State := if s.session.status = .opening then enterOpen s else s

/-- The stream and the pass stop at the next frame boundary, which is now when no frame is leaving their port (R18, R19, R101). -/
def stopAtBoundary (s : State) : State :=
  let streamed :=
    match s.sender.stream with
    | some m =>
      if (s.leaving m.bearer).isSome then { s with sender := { s.sender with stream := some { m with stopping := true } } }
      else endStreamOn m.bearer s
    | none => { s with pause := { s.pause with stream := false } }
  let unasked := { streamed with sender := { streamed.sender with
    rewindPending := false
    announcePending := false
    passOwed := false } }
  match unasked.active with
  | some a =>
    if (unasked.leaving a).isSome && unasked.sender.pass != .none then
      { unasked with sender := { unasked.sender with passStopping := true } }
    else abandonPass unasked
  | none => abandonPass unasked

/-- A restart request is taken (R18, R19): the store is emptied, the receiver starts afresh, N and E are 1, and the session
enters OPENING with the next epoch; a drain meets its empty store (R152), and otherwise OPEN goes out on the active bearer. -/
def restartSession (s : State) : State :=
  let reported := report .peerRestart s
  let emptied := { reported with sender := { reported.sender with store := [], cursor := none } }
  let counted := emptied.countCarry (.upLostOnRestart s.sender.store.length)
  let fresh := { counted with
    receiver := Receiver.atReset
    sender := { counted.sender with n := 1 } }
  let stopped := stopAtBoundary (clearTally fresh)
  let opening := enterOpening (stopped.keepWaiting (fun w => !w.isOpen))
  match opening.selector.status with
  | .draining _ => drainEmptied opening
  | .on b => sendOpen b opening
  | _ => opening

/-- A PROBE or ECHO has its ackno read with the session OPEN, its epoch current and the discard state CLEAR (R13, R74). -/
def readProbeAck (f : CarryFrame) (s : State) : State :=
  if s.session.status = .opened ∧ f.epoch = s.session.epoch then readAckIfClear f.ackno s else s

/-! ## One arriving frame (R65) -/

/-- A taken frame is handled by its kind; a good frame of a kind other than the marks clears both mark counters of its bearer
(R65, R67, R86). That an ECHO is matched before its own ackno is read is the model's choice (DESIGN CHOICE, log entry 42): R65, R74,
R75 and R112 give the two no order. -/
def takeFrame (b : Bearer) (k : FrameKind) (f : CarryFrame) (s : State) : State :=
  let counted := if k.countsReceived then s.countCarry .upReceived else s
  match k with
  | .rewind => takeRewind b f counted
  | .replay => takeReplay b f counted
  | .data => takeData b f (counted.setMarks b ⟨0, 0⟩)
  | .tally => readAckIfClear f.ackno (counted.setMarks b ⟨0, 0⟩)
  | .probe => readProbeAck f ((counted.setMarks b ⟨0, 0⟩).addWaiting b (.echo f.tag f.bearer f.epoch))
  | .echo => readProbeAck f (matchEcho b f (counted.setMarks b ⟨0, 0⟩))
  | .opened => takeOpened (counted.setMarks b ⟨0, 0⟩)
  | .opening => restartSession (counted.setMarks b ⟨0, 0⟩)

/-- The receiver handles a frame that its port hands over: check, field screens, session screens, kind (R65). -/
def receive (b : Bearer) (arrived : Option CarryFrame) (s : State) : State :=
  match arrived with
  | none => checkFailure b s
  | some f =>
    if fieldsOk f then
      match kindOfCode f.kind with
      | none => s.countCarry .upStaleEpoch
      | some k => if sessionOk k f s.session then takeFrame b k f s else s.countCarry .upStaleEpoch
    else s.countCarry .upStaleEpoch

/-- An Ethernet frame at the fibre port (R21): longer than 1,600 bytes, or failing its frame check, it is discarded without
count; of a foreign type or source it is counted CARRY stale-epoch; else its payload goes to the receiver. -/
def fibreArrival (bytes : List Byte) (s : State) : State :=
  if s.fibre.linkUp = false ∨ 1600 < bytes.length then s
  else
    match ethernetBody bytes with
    | none => s
    | some body =>
      if 14 ≤ body.length ∧ word16At body 12 = s.carry.frameType
          ∧ (s.carry.address = 0xFFFFFFFFFFFF#48 ∨ addressAt body 6 = s.carry.address) then
        receive .fibre (readCarry false (body.drop 14)) s
      else s.countCarry .upStaleEpoch

/-- A data unit from the module: taken while the module is READY, else dropped at the port (R64, R170). -/
def unitArrival (bytes : List Byte) (s : State) : State :=
  if s.radio.status = .ready then receive .radio (readCarry true bytes) s else s

end Sys2Proof.Machine
end

