-- ==== Sys2Proof/Machine/Operands.lean ====
section
/-! DEFINITION. The bodies of the requests and of their replies: codes, widths, ranges and orders (R174, R175). A body is read
here once it has its kind's length; none is a field outside its range, which the request refuses with BAD_VALUE. -/

namespace Sys2Proof.Machine

/-! ## Codes (R175) -/

/-- A status of a reply (R174). -/
inductive ReplyStatus where
  | ok
  | busy
  | badValue
  | badLength
  | unknown
  | notEligible
  | wrongState
  | limit
  deriving DecidableEq, Repr

/-- The code of a status (R174). -/
def ReplyStatus.code : ReplyStatus → Byte
  | .ok => 0
  | .busy => 1
  | .badValue => 2
  | .badLength => 3
  | .unknown => 4
  | .notEligible => 5
  | .wrongState => 6
  | .limit => 7

/-- YES or NO in a body: NO 0, YES 1. -/
def flagOfCode (c : Byte) : Option Bool := if c = 0 then some false else if c = 1 then some true else none

/-- YES or NO in a reply. -/
def codeOfFlag (b : Bool) : Byte := if b then 1 else 0

/-- A lane in a body: VOICE 0, SIGNAL 1, PRIORITY 2, BULK 3. -/
def laneOfCode (c : Byte) : Option Lane :=
  if c = 0 then some .voice
  else if c = 1 then some .signal
  else if c = 2 then some .priority
  else if c = 3 then some .bulk
  else none

/-- A lane in a reply. -/
def codeOfLane (l : Lane) : Byte := l.frameCode.setWidth 8

/-- A bearer in a body: FIBRE 1, RADIO 2. -/
def bearerOfCode (c : Byte) : Option Bearer := if c = 1 then some .fibre else if c = 2 then some .radio else none

/-- A bearer in a reply: none 0. -/
def codeOfBearer : Option Bearer → Byte
  | none => 0
  | some b => (bearerFrameCode b).setWidth 8

/-- An overflow policy in a body: DROP_NEW 0, DROP_OLD 1. -/
def policyOfCode (c : Byte) : Option OverflowPolicy :=
  if c = 0 then some .dropNew else if c = 1 then some .dropOld else none

/-- An overflow policy in a reply. -/
def codeOfPolicy : OverflowPolicy → Byte
  | .dropNew => 0
  | .dropOld => 1

/-- A tag key in a body: a tag 0 to 4095, UNTAGGED 0xFFFE, ANY 0xFFFF. -/
def tagKeyOfCode (w : BitVec 16) : Option TagKey :=
  if w = 0xFFFF#16 then some .any
  else if w = 0xFFFE#16 then some .untagged
  else if w.toNat ≤ 4095 then some (.tag (w.setWidth 12))
  else none

/-- A tag key in a reply. -/
def codeOfTagKey : TagKey → BitVec 16
  | .any => 0xFFFF
  | .untagged => 0xFFFE
  | .tag n => n.setWidth 16

/-- A priority key in a body: a priority 0 to 7, ANY 0xFF. -/
def priorityKeyOfCode (c : Byte) : Option PriorityKey :=
  if c = 0xFF#8 then some .any else if c.toNat ≤ 7 then some (.level (c.setWidth 3)) else none

/-- A priority key in a reply. -/
def codeOfPriorityKey : PriorityKey → Byte
  | .any => 0xFF
  | .level n => n.setWidth 8

/-- The level of a signal floor's magnitude, 44 to 140 (R115, R175). -/
def levelOfMagnitude (c : Byte) : Option Int :=
  if 44 ≤ c.toNat ∧ c.toNat ≤ 140 then some (-(c.toNat : Int)) else none

/-- The magnitude of a level. -/
def magnitudeOf (level : Int) : Byte := BitVec.ofNat 8 level.natAbs

/-- A number that lies in a range, both ends included. -/
def inRange (low high n : Nat) : Option Nat := if low ≤ n ∧ n ≤ high then some n else none

/-- The number of one byte of a body. -/
def num8 (bs : List Byte) (i : Nat) : Nat := (byteAt bs i).toNat
/-- The number of two bytes of a body. -/
def num16 (bs : List Byte) (i : Nat) : Nat := (word16At bs i).toNat
/-- The number of four bytes of a body. -/
def num32 (bs : List Byte) (i : Nat) : Nat := (word32At bs i).toNat

/-- A number as one byte of a reply. -/
def out8 (n : Nat) : List Byte := [BitVec.ofNat 8 n]
/-- A number as two bytes of a reply. -/
def out16 (n : Nat) : List Byte := bytesOf16 (BitVec.ofNat 16 n)
/-- A number as four bytes of a reply. -/
def out32 (n : Nat) : List Byte := bytesOf32 (BitVec.ofNat 32 n)

/-! ## Bodies of the settings requests -/

/-- The body of SET_LANE (9 bytes; R27, R175). -/
def readLaneBody (b : List Byte) : Option (Lane × LaneProfile) := do
  let lane ← laneOfCode (byteAt b 0)
  let replay ← flagOfCode (byteAt b 1)
  let limit ← inRange 1 512 (num16 b 2)
  let policy ← policyOfCode (byteAt b 4)
  let maxAge ← inRange 0 60000 (num16 b 5)
  let radioBar ← flagOfCode (byteAt b 7)
  let batteryBar ← flagOfCode (byteAt b 8)
  return (lane, ⟨replay, limit, policy, maxAge, radioBar, batteryBar⟩)

/-- The body of SET_CLASS (6 bytes; R26, R175). -/
def readClassBody (b : List Byte) : Option (Fin 16 × ClassEntry) := do
  let index ← (if h : num8 b 0 < 16 then some ⟨num8 b 0, h⟩ else none : Option (Fin 16))
  let used ← flagOfCode (byteAt b 1)
  let tagKey ← tagKeyOfCode (word16At b 2)
  let priorityKey ← priorityKeyOfCode (byteAt b 4)
  let lane ← laneOfCode (byteAt b 5)
  return (index, ⟨used, tagKey, priorityKey, lane⟩)

/-- The body of SET_JUDGE (10 bytes; R107, R115, R116, R122, R175). The fibre's signal floor field is neither read nor tested:
`old` keeps its own. -/
def readJudgeBody (old : Bearer → JudgeSettings) (b : List Byte) : Option (Bearer × JudgeSettings) := do
  let bearer ← bearerOfCode (byteAt b 0)
  let interval ← (match bearer with
    | .fibre => inRange 10 1000 (num16 b 1)
    | .radio => inRange 200 5000 (num16 b 1))
  let window ← inRange 1 64 (num8 b 3)
  let tolerance ← inRange 0 window (num8 b 4)
  let riseWindows ← inRange 0 255 (num8 b 5)
  let riseRun ← inRange 1 1000 (num16 b 6)
  let fallRun ← inRange 1 255 (num8 b 8)
  let floor ← (match bearer with
    | .fibre => some (old .fibre).floor
    | .radio => levelOfMagnitude (byteAt b 9))
  return (bearer, ⟨interval, window, tolerance, riseWindows, riseRun, fallRun, floor⟩)

/-- The body of SET_DAMPING (12 bytes; section 7.1, R130, R175): each field's own range, then suppress against the ceiling and
reuse against suppress. -/
def readDampingBody (b : List Byte) : Option (Bearer × Damping) := do
  let bearer ← bearerOfCode (byteAt b 0)
  let step ← inRange 0 8000 (num16 b 1)
  let ceiling ← inRange 1000 20000 (num16 b 3)
  let suppress ← inRange 1 20000 (num16 b 5)
  let reuse ← inRange 0 19999 (num16 b 7)
  let factor ← inRange 1 255 (num8 b 9)
  let period ← inRange 1 600 (num16 b 10)
  if suppress ≤ ceiling ∧ reuse < suppress then return (bearer, ⟨step, ceiling, suppress, reuse, factor, period⟩) else none

/-- A concentrator address that SET_CARRY takes: an individual address, or all ones (R21). -/
def concentratorAddress (a : Address) : Option Address := if a = 0xFFFFFFFFFFFF#48 ∨ a.getLsbD 40 = false then some a else none

/-- The body of SET_CARRY (19 bytes; R21, R51, R104, R133, R134, R156, R175). -/
def readCarryBody (b : List Byte) : Option CarrySettings := do
  let address ← concentratorAddress (addressAt b 0)
  let _ ← inRange 0x0600 0xFFFF (num16 b 6)
  let nTx ← inRange 1 63 (num8 b 8)
  let mRx ← inRange 1 31 (num8 b 9)
  let rewindLimit ← inRange 1 15 (num8 b 10)
  let resendLimit ← inRange 1 255 (num8 b 11)
  let tallyDelay ← inRange 1 100 (num8 b 12)
  let rewindMargin ← inRange 0 1000 (num16 b 13)
  let drainMargin ← inRange 0 5000 (num16 b 15)
  let returnHold ← inRange 0 3600 (num16 b 17)
  return ⟨address, word16At b 6, nTx, mRx, rewindLimit, resendLimit, tallyDelay, rewindMargin, drainMargin, returnHold⟩

/-- A standby level: COLD 0, HOT 1. -/
def standbyOfCode (c : Byte) : Option Standby := if c = 0 then some .cold else if c = 1 then some .hot else none

/-- A handshake mode: READY_WAIT 0, PACED 1. -/
def modeOfCode (c : Byte) : Option HandshakeMode := if c = 0 then some .readyWait else if c = 1 then some .paced else none

/-- The body of SET_MODULE (17 bytes; R171, R175). -/
def readModuleBody (b : List Byte) : Option ModuleSettings := do
  let standby ← standbyOfCode (byteAt b 0)
  let wakeLimit ← inRange 2 60 (num8 b 1)
  let searchRound ← inRange 5 120 (num8 b 2)
  let searchRounds ← inRange 1 15 (num8 b 3)
  let rest ← inRange 10 3600 (num16 b 4)
  let linger ← inRange 0 3600 (num16 b 6)
  let mode ← modeOfCode (byteAt b 8)
  let pollStart ← inRange 0 1000 (num16 b 9)
  let readyLimit ← inRange 1 200 (num8 b 11)
  let stallLimit ← inRange 1 15 (num8 b 12)
  let paceRate ← inRange 64 100000 (num32 b 13)
  return ⟨standby, wakeLimit, searchRound, searchRounds, rest, linger, mode, pollStart, readyLimit, stallLimit, paceRate⟩

/-- A supply: MAINS 0, BATTERY 1. -/
def supplyOfCode (c : Byte) : Option Supply := if c = 0 then some .mains else if c = 1 then some .battery else none

/-- A pin: AUTO 0, FIBRE 1, RADIO 2. -/
def pinOfCode (c : Byte) : Option PinValue :=
  if c = 0 then some .auto else if c = 1 then some (.only .fibre) else if c = 2 then some (.only .radio) else none

/-- An attention mode: LATCH 0, FOLLOW 1. -/
def attentionOfCode (c : Byte) : Option AttentionMode := if c = 0 then some .latch else if c = 1 then some .follow else none

/-- A count group (R175, R182). -/
inductive CountGroup where
  | lane
  | carry
  | probe
  | module
  | link
  deriving DecidableEq, Repr

/-- A count group in a body: LANE 0, CARRY 1, PROBE 2, MODULE 3, LINK 4. -/
def groupOfCode (c : Byte) : Option CountGroup :=
  if c = 0 then some .lane
  else if c = 1 then some .carry
  else if c = 2 then some .probe
  else if c = 3 then some .module
  else if c = 4 then some .link
  else none

/-- The body of READ_COUNTS (2 bytes). -/
def readCountsBody (b : List Byte) : Option (CountGroup × Bool) := do
  let group ← groupOfCode (byteAt b 0)
  let clear ← flagOfCode (byteAt b 1)
  return (group, clear)

/-- A set of flags in a body: the numbers 19 to 23 are ignored (R175). -/
def flagSetAt (b : List Byte) (i : Nat) : BitVec 19 := (word24At b i).setWidth 19

/-- A set of flags in a reply: the numbers 19 to 23 are sent as 0 (R175). -/
def flagSetBytes (f : BitVec 19) : List Byte := bytesOf24 (f.setWidth 24)

/-! ## Result fields (R175) -/

/-- IDENTIFY: vendor code, part code, revision, carry protocol version. -/
def identifyResult : List Byte := bytesOf16 0x53A4 ++ out16 417 ++ out8 1 ++ out8 1

/-- The code of the selector state: STOPPED 0, OUTAGE 1, ON_FIBRE 2, ON_RADIO 3, DRAINING 4. -/
def SelectorStatus.code : SelectorStatus → Byte
  | .stopped => 0
  | .outage => 1
  | .on .fibre => 2
  | .on .radio => 3
  | .draining _ => 4

/-- The code of the pin. -/
def PinValue.code : PinValue → Byte
  | .auto => 0
  | .only .fibre => 1
  | .only .radio => 2

/-- The code of the session state: CLOSED 0, OPENING 1, OPEN 2. -/
def SessionStatus.code : SessionStatus → Byte
  | .closed => 0
  | .opening => 1
  | .opened => 2

/-- The code of the module state: OFF 0 to RESTING 5. -/
def ModuleStatus.code : ModuleStatus → Byte
  | .off => 0
  | .waking => 1
  | .searching => 2
  | .ready => 3
  | .releasing => 4
  | .resting => 5

/-- The code of a verdict: DOWN 0, UP 1. -/
def Verdict.code : Verdict → Byte
  | .down => 0
  | .up => 1

/-- The code of a handover kind: FORCED 0, PLANNED 1. -/
def HandoverKind.code : HandoverKind → Byte
  | .forced => 0
  | .planned => 1

/-- The code of a handover outcome: absent 0. -/
def codeOfOutcome : Option HandoverOutcome → Byte
  | none => 0
  | some .done => 1
  | some .emptied => 2
  | some .expired => 3
  | some .sourceLost => 4
  | some .targetLost => 5
  | some .pinBack => 6
  | some .halted => 7

/-- A smoothed round-trip time: 0xFFFF when absent. -/
def srttBytes : Option Nat → List Byte
  | none => bytesOf16 0xFFFF
  | some t => out16 t

/-- A last signal reading: its magnitude, 0 when absent. -/
def readingByte : Option Int → Byte
  | none => 0
  | some level => magnitudeOf level

/-- The handover record: record present, from, to, kind, start time, outcome; all 0 after a record present of NO. -/
def recordBytes : Option HandoverRecord → List Byte
  | none => List.replicate 9 0
  | some r =>
    [1, codeOfBearer r.source, codeOfBearer (some r.target), r.kind.code] ++ bytesOf32 r.start ++ [codeOfOutcome r.outcome]

/-- GET_STATUS: the fields of R175 in its order, as they stand. -/
def statusResult (s : State) : List Byte :=
  [s.selector.status.code, s.selector.pin.code, codeOfBearer s.active, s.session.status.code]
    ++ bytesOf16 s.session.epoch ++ bytesOf16 s.sender.n ++ bytesOf16 s.receiver.e
    ++ [codeOfFlag s.receiver.discard]
    ++ out16 s.sender.store.length ++ out16 s.sender.freeCells
    ++ [s.radio.status.code, readingByte s.radio.lastReading,
        s.fibreJudge.verdict.code, s.radioJudge.verdict.code,
        codeOfFlag s.fibreJudge.suppressed, codeOfFlag s.radioJudge.suppressed]
    ++ out16 s.fibreJudge.penalty ++ out16 s.radioJudge.penalty
    ++ srttBytes s.fibreJudge.srtt ++ srttBytes s.radioJudge.srtt
    ++ recordBytes s.selector.record

/-- GET_LANE: the profile and the occupancy. -/
def laneResult (l : LaneState) : List Byte :=
  [codeOfFlag l.profile.replay] ++ out16 l.profile.limit ++ [codeOfPolicy l.profile.policy] ++ out16 l.profile.maxAge
    ++ [codeOfFlag l.profile.radioBar, codeOfFlag l.profile.batteryBar] ++ out16 l.queue.length

/-- GET_CLASS: the index and the entry's fields. -/
def classResult (i : Fin 16) (e : ClassEntry) : List Byte :=
  out8 i.val ++ [codeOfFlag e.used] ++ bytesOf16 (codeOfTagKey e.tagKey) ++ [codeOfPriorityKey e.priorityKey, codeOfLane e.lane]

/-- GET_JUDGE: the fields of the SET_JUDGE body; the fibre's signal floor is 0. -/
def judgeResult (b : Bearer) (j : JudgeSettings) : List Byte :=
  [codeOfBearer (some b)] ++ out16 j.interval ++ out8 j.window ++ out8 j.tolerance ++ out8 j.riseWindows ++ out16 j.riseRun
    ++ out8 j.fallRun
    ++ (match b with
        | .fibre => [0]
        | .radio => [magnitudeOf j.floor])

/-- READ_EVENTS: flags, conditions, mask, attention mode. -/
def eventsResult (s : State) : List Byte :=
  flagSetBytes s.events.flags ++ [(conditions s).setWidth 8] ++ flagSetBytes s.events.mask
    ++ (match s.events.mode with
        | .latch => [0]
        | .follow => [1])

/-- The counts of one lane, in reply order (R182). -/
def LaneCounts.inOrder (c : LaneCounts) : List Nat := [c.accepted, c.sent, c.barred, c.overflow, c.aged, c.delivered]

/-- The CARRY counts, in reply order (R182). -/
def CarryCounts.inOrder (c : CarryCounts) : List Nat :=
  [c.sent, c.resent, c.voided, c.tally, c.received, c.checkFailActive, c.checkFailOther, c.duplicate, c.gap, c.discarded,
    c.staleEpoch, c.ackInvalid, c.rewindStreams, c.replayPasses, c.rewindFailures, c.lostOnRestart, c.homeOverflow, c.stoppedDrop]

/-- The PROBE counts of one bearer, in reply order (R182). -/
def ProbeCounts.inOrder (c : ProbeCounts) : List Nat := [c.sent, c.answered, c.late, c.stray, c.lost]

/-- The MODULE counts, in reply order (R182). -/
def ModuleCounts.inOrder (c : ModuleCounts) : List Nat := [c.stalls, c.timeouts, c.searchRounds, c.faults]

/-- The LINK counts, in reply order (R182). -/
def LinkCounts.inOrder (c : LinkCounts) : List Nat := [c.bad, c.requestLost, c.noticeLost]

/-- The counts of a group, in reply order (R182). -/
def Counts.inOrder (c : Counts) : CountGroup → List Nat
  | .lane => c.lane.voice.inOrder ++ c.lane.signal.inOrder ++ c.lane.priority.inOrder ++ c.lane.bulk.inOrder
  | .carry => c.carry.inOrder
  | .probe => c.probeFibre.inOrder ++ c.probeRadio.inOrder
  | .module => c.module.inOrder
  | .link => c.link.inOrder

/-- The counts with one group cleared (R182). -/
def Counts.cleared (c : Counts) : CountGroup → Counts
  | .lane => { c with lane := .zero }
  | .carry => { c with carry := .zero }
  | .probe => { c with probeFibre := .zero, probeRadio := .zero }
  | .module => { c with module := .zero }
  | .link => { c with link := .zero }

/-- READ_COUNTS: every count of the group, 4 bytes each. -/
def countsResult (c : Counts) (g : CountGroup) : List Byte := (c.inOrder g).flatMap out32

/-! ## Taking a request (R173, R174) -/

/-- What a request is answered with: the status, the result fields after OK, the effect, and whether the effect is an accepted
SET_LANE, which gives a dispatch opportunity (R32). -/
structure Answer where
  status : ReplyStatus
  results : List Byte := []
  effect : State → State := id
  opportunity : Bool := false

/-- A refusal: it changes no state (R174). -/
def Answer.refuse (status : ReplyStatus) : Answer := { status := status }

/-- OK with an effect and no result fields. -/
def Answer.apply (effect : State → State) : Answer := { status := .ok, effect := effect }

/-- OK with result fields and no effect. -/
def Answer.return (results : List Byte) : Answer := { status := .ok, results := results }

/-- The body of a reply: the status, and the result fields after OK (R174). -/
def Answer.body (a : Answer) : List Byte := a.status.code :: (if a.status = .ok then a.results else [])

/-- A kind is in the table of R175. -/
def kindKnown (k : Byte) : Bool := decide (1 ≤ k.toNat) && decide (k.toNat ≤ 0x15)

/-- The request at the head of the inbound queue, when it can be taken: the outbound queue has a place for its reply (R173) and
no RESET has been taken (R185). -/
def headRequest (s : State) : Option Request :=
  if s.link.outbound.length < Config.outboundPlaces ∧ s.link.resetTaken = false then s.link.inbound.head? else none

/-- The request leaves the inbound queue and its reply joins the outbound queue: the request's kind plus 0x80, its tag, and the
answer's body (R173, R174). -/
def placeReply (r : Request) (a : Answer) (s : State) : State :=
  { s with link := { s.link with
      inbound := s.link.inbound.drop 1
      outbound := s.link.outbound ++ [.reply (r.kind + 0x80) r.tag a.body] } }

/-- A request that can be taken is answered: the reply takes its place, and then the effect follows in the same event (R173;
log entry 9). -/
def answerRequest (r : Request) (a : Answer) (s : State) : State := a.effect (placeReply r a s)

/-- The answer to a request whose body is to have a length: BAD_LENGTH comes before the request's own checks (R174). -/
def lengthChecked (length : Nat) (answer : List Byte → State → Answer) (r : Request) (s : State) : Answer :=
  if r.body.length = length then answer r.body s else .refuse .badLength

/-- The request of a kind at the head of the inbound queue is taken; another head, or none, leaves the state as it is (log
entries 1, 2). `only` narrows the bodies taken. -/
def takeRequest (kind : Byte) (only : List Byte → Bool) (length : Nat) (answer : List Byte → State → Answer)
    (s : State) : State × Bool :=
  match headRequest s with
  | none => (s, false)
  | some r =>
    if r.kind = kind ∧ only r.body = true then
      let a := lengthChecked length answer r s
      (answerRequest r a s, a.opportunity)
    else (s, false)

/-- Every body is taken. -/
def anyBody (_ : List Byte) : Bool := true

end Sys2Proof.Machine
end

