-- ==== Sys2Proof/Machine/Requests.lean ====
section
/-! DEFINITION. The meanings of the taken requests that read, and of those that write settings, flags and counts (R28, R26,
R122, R130, R51, R171, R35, R175, R180, R182). A request's row takes the head of the inbound queue when that head is of its
kind (log entry 1). -/

namespace Sys2Proof.Machine

/-- A request whose effect can make nothing due on a port is taken. -/
def runRequest (kind : Byte) (length : Nat) (answer : List Byte → State → Answer) (s : State) :
    Host.Outcome State Fault Refusal :=
  runQuiet s (fun t => (takeRequest kind anyBody length answer t).1)

/-- A request whose effect can start a frame at a free port is taken. -/
def runActing (kind : Byte) (only : List Byte → Bool) (length : Nat) (answer : List Byte → State → Answer) (s : State) :
    Host.Outcome State Fault Refusal :=
  runWith s (takeRequest kind only length answer)

/-- An answer that depends on a body that can be read, and otherwise is BAD_VALUE (R174). -/
def Answer.withBody {α : Type} (body : Option α) (answer : α → Answer) : Answer :=
  match body with
  | none => .refuse .badValue
  | some v => answer v

/-- The selector is DRAINING. -/
def State.draining (s : State) : Bool :=
  match s.selector.status with
  | .draining _ => true
  | _ => false

/-! ## Reading requests -/

/-- UNKNOWN_REQUEST (R174): a request of a kind outside the table of R175 is refused with UNKNOWN. -/
def unknownTaken (s : State) : State :=
  match headRequest s with
  | none => s
  | some r => if kindKnown r.kind then s else answerRequest r (.refuse .unknown) s

/-- UNKNOWN_REQUEST (R174). -/
def execUnknownRequest (s : State) : Host.Outcome State Fault Refusal := runQuiet s unknownTaken

/-- IDENTIFY (R175). -/
def execIdentify (s : State) : Host.Outcome State Fault Refusal :=
  runRequest 0x01 0 (fun _ _ => .return identifyResult) s

/-- GET_STATUS (R175): every field as it stands when the request is taken. -/
def execGetStatus (s : State) : Host.Outcome State Fault Refusal :=
  runRequest 0x02 0 (fun _ t => .return (statusResult t)) s

/-- The answer to GET_LANE (R28). -/
def answerGetLane (body : List Byte) (s : State) : Answer :=
  .withBody (laneOfCode (byteAt body 0)) (fun l => .return (laneResult (s.lanes.get l)))

/-- GET_LANE (R28). -/
def execGetLane (s : State) : Host.Outcome State Fault Refusal := runRequest 0x04 1 answerGetLane s

/-- An index of the class map in a body. -/
def indexOf (n : Nat) : Option (Fin 16) := if h : n < 16 then some ⟨n, h⟩ else none

/-- The answer to GET_CLASS (R26). -/
def answerGetClass (body : List Byte) (s : State) : Answer :=
  .withBody (indexOf (num8 body 0)) (fun i => .return (classResult i (s.classMap.get i)))

/-- GET_CLASS (R26). -/
def execGetClass (s : State) : Host.Outcome State Fault Refusal := runRequest 0x06 1 answerGetClass s

/-- The answer to GET_JUDGE (R122). -/
def answerGetJudge (body : List Byte) (s : State) : Answer :=
  .withBody (bearerOfCode (byteAt body 0)) (fun b => .return (judgeResult b (s.judge b).settings))

/-- GET_JUDGE (R122). -/
def execGetJudge (s : State) : Host.Outcome State Fault Refusal := runRequest 0x08 1 answerGetJudge s

/-- READ_EVENTS (R180): it changes nothing. -/
def execReadEvents (s : State) : Host.Outcome State Fault Refusal :=
  runRequest 0x11 0 (fun _ t => .return (eventsResult t)) s

/-- The answer to READ_COUNTS (R182): the counts as they stand; with clear YES the group becomes 0 in the same event. -/
def answerReadCounts (body : List Byte) (s : State) : Answer :=
  .withBody (readCountsBody body) fun v =>
    { status := .ok
      results := countsResult s.counts v.1
      effect := fun t => if v.2 then { t with counts := t.counts.cleared v.1 } else t }

/-- READ_COUNTS (R182). -/
def execReadCounts (s : State) : Host.Outcome State Fault Refusal := runRequest 0x14 2 answerReadCounts s

/-! ## Lanes and classes -/

/-- The sum of the four lane limits with one lane's limit replaced (R28). -/
def limitSum (u : Lanes) (l : Lane) (limit : Nat) : Nat :=
  let v := u.set l { u.get l with profile := { (u.get l).profile with limit := limit } }
  v.voice.profile.limit + v.signal.profile.limit + v.priority.profile.limit + v.bulk.profile.limit

/-- The answer to SET_LANE: BUSY, BAD_VALUE, LIMIT, or the new profile (R28). -/
def answerSetLane (body : List Byte) (s : State) : Answer :=
  if s.draining then .refuse .busy
  else
    .withBody (readLaneBody body) fun v =>
      if Config.laneSlots < limitSum s.lanes v.1 v.2.limit then .refuse .limit
      else { status := .ok, effect := setProfile v.1 v.2, opportunity := true }

/-- SET_LANE (R28). -/
def execSetLane (s : State) : Host.Outcome State Fault Refusal := runActing 0x03 anyBody 9 answerSetLane s

/-- The answer to SET_CLASS (R26). -/
def answerSetClass (body : List Byte) (_ : State) : Answer :=
  .withBody (readClassBody body) (fun v => .apply (fun t => { t with classMap := t.classMap.set v.1 v.2 }))

/-- SET_CLASS (R26). -/
def execSetClass (s : State) : Host.Outcome State Fault Refusal := runRequest 0x05 6 answerSetClass s

/-! ## Judges and damping -/

/-- A judge with new settings: a changed W zeroes the window tally and puts the running interval outside every window (R122). -/
def Judge.withSettings (v : JudgeSettings) (j : Judge) : Judge :=
  if v.window = j.settings.window then { j with settings := v }
  else { j with settings := v, tally := 0, position := 0, noWindow := j.timer.isSome }

/-- The answer to SET_JUDGE (R122). -/
def answerSetJudge (body : List Byte) (s : State) : Answer :=
  if s.draining then .refuse .busy
  else
    .withBody (readJudgeBody (fun b => (s.judge b).settings) body) fun v =>
      .apply (fun t => t.mapJudge v.1 (Judge.withSettings v.2))

/-- SET_JUDGE (R122). -/
def execSetJudge (s : State) : Host.Outcome State Fault Refusal := runRequest 0x07 10 answerSetJudge s

/-- A judge with new damping parameters: the penalty is clamped to the new ceiling (R130 steps 1 and 2). -/
def Judge.withDamping (d : Damping) (j : Judge) : Judge := { j with damping := d, penalty := min j.penalty d.ceiling }

/-- The suppression test of new damping parameters (R130 step 3). -/
def retestSuppression (b : Bearer) (s : State) : State :=
  let j := s.judge b
  if !j.suppressed && decide (j.damping.suppress ≤ j.penalty) then rework b (setSuppressed b true s)
  else if j.suppressed && decide (j.penalty ≤ j.damping.reuse) then rework b (setSuppressed b false s)
  else s

/-- The decay clock after a change of the decay period: a running clock restarts with the new period (R130 step 4). -/
def restartDecay (b : Bearer) (old new : Nat) (s : State) : State :=
  if old = new then s
  else s.mapJudge b (fun j => { j with decay := if j.decay.isSome then some (s.inSeconds new) else none })

/-- The effect of an accepted SET_DAMPING, in the order of R130. -/
def setDamping (b : Bearer) (d : Damping) (s : State) : State :=
  restartDecay b (s.judge b).damping.period d.period (retestSuppression b (s.mapJudge b (Judge.withDamping d)))

/-- The answer to SET_DAMPING (R130). -/
def answerSetDamping (body : List Byte) (s : State) : Answer :=
  if s.draining then .refuse .busy else .withBody (readDampingBody body) (fun v => .apply (setDamping v.1 v.2))

/-- SET_DAMPING (R130). -/
def execSetDamping (s : State) : Host.Outcome State Fault Refusal := runActing 0x09 anyBody 12 answerSetDamping s

/-! ## Carry, module and supply settings -/

/-- The effect of an accepted SET_CARRY: the settings are replaced and all four mark counters cleared (R51, R90). -/
def setCarry (v : CarrySettings) (s : State) : State :=
  { s with carry := v, receiver := { s.receiver with marksFibre := ⟨0, 0⟩, marksRadio := ⟨0, 0⟩ } }

/-- The answer to SET_CARRY (R51). -/
def answerSetCarry (body : List Byte) (s : State) : Answer :=
  if s.selector.status = .stopped then .withBody (readCarryBody body) (fun v => .apply (setCarry v)) else .refuse .wrongState

/-- SET_CARRY (R51). -/
def execSetCarry (s : State) : Host.Outcome State Fault Refusal := runRequest 0x0A 19 answerSetCarry s

/-- The answer to SET_MODULE (R171). -/
def answerSetModule (body : List Byte) (s : State) : Answer :=
  if s.selector.status = .stopped then
    .withBody (readModuleBody body) (fun v => .apply (fun t => { t with radio := { t.radio with settings := v } }))
  else .refuse .wrongState

/-- SET_MODULE (R171). -/
def execSetModule (s : State) : Host.Outcome State Fault Refusal := runRequest 0x0B 17 answerSetModule s

/-- The answer to SET_SUPPLY: the bars follow the supply, and the wanted level is worked out (R35, R155). -/
def answerSetSupply (body : List Byte) (_ : State) : Answer :=
  .withBody (supplyOfCode (byteAt body 0)) fun v =>
    .apply (fun t => handWanted { t with lanes := { t.lanes with supply := v } })

/-- SET_SUPPLY (R35). -/
def execSetSupply (s : State) : Host.Outcome State Fault Refusal := runActing 0x0C anyBody 1 answerSetSupply s

/-! ## Events and attention -/

/-- CLEAR_EVENTS clears each flag named in its set (R180). -/
def answerClearEvents (body : List Byte) (_ : State) : Answer :=
  .apply (fun t => { t with events := { t.events with flags := t.events.flags &&& ~~~(flagSetAt body 0) } })

/-- CLEAR_EVENTS (R180). -/
def execClearEvents (s : State) : Host.Outcome State Fault Refusal := runRequest 0x12 3 answerClearEvents s

/-- SET_ALERT replaces the mask and the attention mode together (R180). -/
def answerSetAlert (body : List Byte) (_ : State) : Answer :=
  .withBody (attentionOfCode (byteAt body 3)) fun v =>
    .apply (fun t => { t with events := { t.events with mask := flagSetAt body 0, mode := v } })

/-- SET_ALERT (R180). -/
def execSetAlert (s : State) : Host.Outcome State Fault Refusal := runRequest 0x13 4 answerSetAlert s

/-- The answer to RESET: checked for length only; from the take onward no further request is taken (R185). -/
def answerReset (_ : List Byte) (_ : State) : Answer :=
  .apply (fun t => { t with link := { t.link with resetTaken := true } })

/-- RESET (R185). -/
def execReset (s : State) : Host.Outcome State Fault Refusal := runRequest 0x15 0 answerReset s

end Sys2Proof.Machine
end

