-- ==== Sys2Proof/Machine/SelectorRequests.lean ====
section
/-! DEFINITION. The meanings of the requests that act on the path selector: START, HALT in its two modes, PIN and
HANDOVER_NOW (R138, R139, R146, R147). -/

namespace Sys2Proof.Machine

/-! ## START (R138) -/

/-- Both decay clocks start, each with its own bearer's period (R126). -/
def startDecay (s : State) : State :=
  { s with
    fibreJudge := { s.fibreJudge with decay := some (s.inSeconds s.fibreJudge.damping.period) }
    radioJudge := { s.radioJudge with decay := some (s.inSeconds s.radioJudge.damping.period) } }

/-- START takes a STOPPED selector to OUTAGE (R138). The judges begin, and with the radio's a READY module's SIGNAL goes out, before
the wanted level is handed over: a linger timer that runs goes on until that SIGNAL completes (R164; DEDUCED, log entry 41). -/
def startCarrying (s : State) : State :=
  let outage := { s with selector := { s.selector with status := .outage } }
  let fibre := beginJudging .fibre outage
  let radio := if fibre.radio.status = .ready then beginJudging .radio fibre else fibre
  handWanted (report .outageBegin (startDecay radio))

/-- The answer to START (R138). -/
def answerStart (_ : List Byte) (s : State) : Answer :=
  if s.selector.status = .stopped then .apply startCarrying else .refuse .wrongState

/-- START (R138). -/
def execStart (s : State) : Host.Outcome State Fault Refusal := runActing 0x0D anyBody 0 answerStart s

/-! ## HALT (R139) -/

/-- The frame that is leaving each port is cut off, and so is any mark stream (R63, R85). The handshake is kept (R171). -/
def cutPorts (s : State) : State :=
  { s with
    fibre := { s.fibre with leaving := none }
    radio := { s.radio with leaving := none }
    sender := { s.sender with stream := none } }

/-- The selector's part of HALT: STOPPED, with a drain's outcome HALTED and both its timers stopped (R139 steps 1 to 3). -/
def haltSelector (s : State) : State :=
  let marked := if s.draining then completeRecord .halted s else s
  { marked with
    selector := { marked.selector with status := .stopped, drainTimer := none, holdTimer := none }
    pause := { marked.pause with selector := true } }

/-- Both decay clocks stop (R126). -/
def stopDecay (s : State) : State :=
  { s with
    fibreJudge := { s.fibreJudge with decay := none }
    radioJudge := { s.radioJudge with decay := none } }

/-- The carrying blocks' part of HALT: the pass and the pending requests go, the tally clears, the waiting OPEN, PROBE and TALLY
are abandoned, and the rewind and retry timers stop (R15, R63, R85, R94, R101). -/
def haltCarrying (s : State) : State :=
  let passed := stopRewindTimer (abandonPass (clearTally (s.keepWaiting WaitingFrame.isEcho)))
  { passed with
    sender := { passed.sender with rewindPending := false, passOwed := false }
    session := { passed.session with retry := none }
    pause := { passed.pause with stream := passed.sender.stream.isSome } }

/-- A judge is reset and its bearer's eligibility worked out (R108, R121). -/
def endJudging (b : Bearer) (s : State) : State := rework b (resetJudge b s)

/-- HALT outside STOPPED; `cut` is the mode's part at the ports (R139). -/
def halt (cut : State → State) (s : State) : State :=
  if s.selector.status = .stopped then s
  else handWanted (endJudging .radio (endJudging .fibre (stopDecay (haltCarrying (cut (haltSelector s))))))

/-- The answer to HALT: another mode is BAD_VALUE (R139). -/
def answerHalt (body : List Byte) (_ : State) : Answer :=
  if byteAt body 0 = 0 then .apply (halt cutPorts)
  else if byteAt body 0 = 1 then .apply (halt id)
  else .refuse .badValue

/-- HALT_IMMEDIATE (R139): a HALT whose body is not the mode AT_BOUNDARY (log entry 27). -/
def execHaltImmediate (s : State) : Host.Outcome State Fault Refusal :=
  runActing 0x0E (fun body => body != [1]) 1 answerHalt s

/-- HALT_AT_BOUNDARY (R139): a HALT whose body is not the mode IMMEDIATE (log entry 27). -/
def execHaltAtBoundary (s : State) : Host.Outcome State Fault Refusal :=
  runActing 0x0E (fun body => body != [0]) 1 answerHalt s

/-! ## PIN (R146) -/

/-- The pin is set (R146 step 1). -/
def setPin (p : PinValue) (s : State) : State := { s with selector := { s.selector with pin := p } }

/-- On a bearer, a pin that names the other one: a drain to it when it is eligible, else OUTAGE (R146). -/
def leaveBearer (b : Bearer) (s : State) : State :=
  if s.eligible b.other then startDrain updateHold b s else enterOutage s

/-- The selector's action of R146 step 3, for the state it then holds. -/
def pinAction (p : PinValue) (s : State) : State :=
  match s.selector.status with
  | .stopped => s
  | .outage => takeFromOutage s
  | .on b => if p.permits b then updateHold s else leaveBearer b s
  | .draining _ => s

/-- A PIN that is taken: outside DRAINING by the four steps of R146; in DRAINING AUTO re-works the fibre's eligibility (R152), and
the source abandons the drain first (R150; log entry 33). -/
def takePin (p : PinValue) (s : State) : State :=
  match s.selector.status with
  | .draining source =>
    if p = .only source then handWanted (rework .fibre (abandonDrain source .pinBack (setPin p s)))
    else handWanted (rework .fibre (setPin p s))
  | _ => handWanted (pinAction p (rework .fibre (setPin p s)))

/-- A PIN that names the target of the drain in progress (R146). -/
def namesTarget (p : PinValue) (s : State) : Bool :=
  match s.selector.status with
  | .draining source => p == .only source.other
  | _ => false

/-- The answer to PIN (R146). -/
def answerPin (body : List Byte) (s : State) : Answer :=
  .withBody (pinOfCode (byteAt body 0)) fun p => if namesTarget p s then .refuse .busy else .apply (takePin p)

/-- PIN (R146). -/
def execPin (s : State) : Host.Outcome State Fault Refusal := runActing 0x0F anyBody 1 answerPin s

/-! ## HANDOVER_NOW (R147) -/

/-- The answer to HANDOVER_NOW (R147). -/
def answerHandoverNow (_ : List Byte) (s : State) : Answer :=
  match s.selector.status with
  | .draining _ => .refuse .busy
  | .on b => if s.mayTake b.other then .apply (startDrain updateHold b) else .refuse .notEligible
  | _ => .refuse .wrongState

/-- HANDOVER_NOW (R147). -/
def execHandoverNow (s : State) : Host.Outcome State Fault Refusal := runActing 0x10 anyBody 0 answerHandoverNow s

end Sys2Proof.Machine
end

