-- ==== Sys2Proof/Machine/LinkCommands.lean ====
section
/-! DEFINITION. The meanings of the control link's own commands and of the resets (R172, R173, R176, R181, R184, R185). -/

namespace Sys2Proof.Machine

/-! ## The envelope parser (R172, R173) -/

/-- A request is offered to the inbound queue (R173). -/
def offerRequest (r : Request) (s : State) : State :=
  if s.link.inbound.length < Config.inboundPlaces then { s with link := { s.link with inbound := s.link.inbound ++ [r] } }
  else report .requestLost (s.countLink .upRequestLost)

/-- What the parser finds is acted on in order: a dropped message is counted LINK bad, a request is offered (R172). -/
def takeParsed : List (Option Request) → State → State
  | [], s => s
  | none :: rest, s => takeParsed rest (s.countLink .upBad)
  | some r :: rest, s => takeParsed rest (offerRequest r s)

/-- The parser works through some bytes from hunting, and holds the message in progress with the moment its next byte is late
(log entry 21). -/
def parseBytes (bytes : List Byte) (late : Nat) (s : State) : State :=
  let found := huntMessages bytes.length bytes
  let taken := takeParsed found.1 s
  { taken with link := { taken.link with rx := found.2, rxTimer := if found.2.isEmpty then none else some late } }

/-- Bytes from the host join the message in progress, or are hunted through; no byte at all is no event of the parser, so the
20 ms gap runs on (R172). -/
def messageBytes (bytes : List Byte) (s : State) : State :=
  if bytes.isEmpty then s else parseBytes (s.link.rx ++ bytes) (s.clock + Config.byteGapMicros) s

/-- CONTROL_MESSAGE_RECEIVED (R172). -/
def execControlMessageReceived (bytes : List Byte) (s : State) : Host.Outcome State Fault Refusal :=
  runQuiet s (messageBytes bytes)

/-- The message in progress is abandoned and counted LINK bad, and the hunt goes on from the byte after its SYNC; what it finds
there in progress is late as well (R172; log entry 21). -/
def abandonMessage (s : State) : State :=
  match s.link.rxTimer with
  | none => s
  | some late => parseBytes (s.link.rx.drop 1) late ((s.advanceTo late).countLink .upBad)

/-- INTER_BYTE_TIMEOUT (R172). -/
def execInterByteTimeout (s : State) : Host.Outcome State Fault Refusal := runQuiet s abandonMessage

/-! ## Resets (R184, R185) -/

/-- The part with every block at its power-on values but the epoch counter and the LINK counts, which are given, and before
STARTED is reported. What is not the part's own stays: the waiting commands, the levels of the two Ethernet links, the number of
the next free choice, and the record of what left the home port and the UART last (log entries 6, 23, 40). -/
def blankPart (epoch : BitVec 16) (link : LinkCounts) (s : State) : State :=
  { State.reset with
    pending := s.pending
    ties := s.ties
    home := ⟨s.home.linkUp, [], s.home.sent⟩
    fibre := ⟨s.fibre.linkUp, none⟩
    session := ⟨.closed, epoch, none⟩
    link := ⟨[], none, [], [], false, s.link.sent⟩
    events := ⟨0, 0, .latch, 0, false⟩
    counts := { Counts.zero with link := link } }

/-- The part starts: STARTED is reported, which offers notice 0 (R184 step 4, R185 step 4). -/
def startUp (epoch : BitVec 16) (link : LinkCounts) (s : State) : State := report .started (blankPart epoch link s)

/-- POWER_ON (R184): RESET_N is released. -/
def execPowerOn (s : State) : Host.Outcome State Fault Refusal := .next (closeEvent (startUp 0 .zero s))

/-- A judge reset at a soft reset: a verdict found UP is reported (R108, R120). The report may cost a notice, and with it a LINK
count, before the event unit empties the queues (R185). Suppression is reported nowhere (R124). -/
def judgeResetReport (b : Bearer) (s : State) : State := reportIf ((s.judge b).verdict == .up) (downFlag b) s

/-- The soft reset keeps the epoch counter and the LINK counts (R185). The blocks take their values first, which the two judges
report, and the event unit acts after them. -/
def softReset (s : State) : State :=
  startUp s.session.epoch (judgeResetReport .radio (judgeResetReport .fibre s)).counts.link s

/-- A message is the OK reply to a RESET (R185). -/
def OutMessage.answersReset : OutMessage → Bool
  | .reply kind _ body => kind == 0x95 && body == [0]
  | .notice _ _ _ _ => false

/-- The head of the outbound queue has left the UART, in its envelope (R22, R176); with the reply to a RESET that was taken, the
soft reset takes place (R185). -/
def headSent (s : State) : State :=
  match s.link.outbound with
  | [] => s
  | m :: rest =>
    let left := { s with link := { s.link with outbound := rest, sent := m.envelope } }
    if s.link.resetTaken && m.answersReset then softReset left else left

/-- MESSAGE_SENT (R176). -/
def execMessageSent (s : State) : Host.Outcome State Fault Refusal := runQuiet s headSent

/-- RESET_N_ASSERTED (R181): while it is held, ATTN is driven high, and a frame leaving a data port is abandoned (R62). -/
def execResetNAsserted (s : State) : Host.Outcome State Fault Refusal :=
  .next { s with
    resetHeld := true
    fibre := { s.fibre with leaving := none }
    radio := { s.radio with leaving := none }
    events := { s.events with attn := false } }

end Sys2Proof.Machine
end

