-- ==== Sys2Proof/Machine/PortCommands.lean ====
section
/-! DEFINITION. The meanings of what happens at the home port and at the two data ports (R21, R23, R37, R61, R113, R119, R170). -/

namespace Sys2Proof.Machine

/-- HOME_FRAME_ARRIVAL (R23, R25, R30). -/
def execHomeFrameArrival (bytes : List Byte) (s : State) : Host.Outcome State Fault Refusal := runWith s (homeArrival bytes)

/-- HOME_LINK_CHANGE (R23, R37). The line has its level while RESET_N is held too (log entry 7). -/
def execHomeLinkChange (up : Bool) (s : State) : Host.Outcome State Fault Refusal :=
  .next { s with home := { s.home with linkUp := up } }

/-- DELIVERY_COMPLETE (R37). -/
def execDeliveryComplete (s : State) : Host.Outcome State Fault Refusal := runQuiet s deliverHead

/-- FRAME_DEPARTURE_COMPLETE (R61). -/
def execFrameDepartureComplete (bearer : Bearer) (s : State) : Host.Outcome State Fault Refusal :=
  run s (completeDeparture bearer)

/-- FIBRE_FRAME_ARRIVAL (R21, R65). -/
def execFibreFrameArrival (bytes : List Byte) (s : State) : Host.Outcome State Fault Refusal := run s (fibreArrival bytes)

/-- MODULE_UNIT_ARRIVAL (R170, R65). -/
def execModuleUnitArrival (bytes : List Byte) (s : State) : Host.Outcome State Fault Refusal := run s (unitArrival bytes)

/-- The level of the fibre port's Ethernet link. -/
def State.setFibreLink (up : Bool) (s : State) : State := { s with fibre := { s.fibre with linkUp := up } }

/-- The fibre link goes down: the port closes, the running interval is BAD, and hard-fail evidence reaches the fibre judge
(R56, R85, R113, R118). -/
def fibreLinkLost (s : State) : State :=
  if s.fibre.linkUp then
    hardFail .fibre (closePort .fibre ((s.setFibreLink false).mapJudge .fibre (fun j => { j with linkHeld := false })))
  else s

/-- FIBRE_LINK_DOWN (R119). The line has its level while RESET_N is held too (log entry 7). -/
def execFibreLinkDown (s : State) : Host.Outcome State Fault Refusal :=
  if s.resetHeld then .next (s.setFibreLink false) else run s fibreLinkLost

/-- FIBRE_LINK_UP (R113): the port opens. The line has its level while RESET_N is held too (log entry 7). -/
def execFibreLinkUp (s : State) : Host.Outcome State Fault Refusal :=
  if s.resetHeld then .next (s.setFibreLink true) else run s (State.setFibreLink true)

end Sys2Proof.Machine
end

