-- ==== Sys2Proof/Machine/TimerCommands.lean ====
section
/-! DEFINITION. The meanings of the expiries of the carry timers, the judges' clocks and the selector's timers. An expiry whose
timer does not run changes nothing; one whose timer runs takes place at the moment the timer falls due (log entries 2, 4). -/

namespace Sys2Proof.Machine

/-! ## Carry timers -/

/-- The tally timer expires: with the tally owed a TALLY waits on the active bearer (R60). -/
def tallyExpires (s : State) : State :=
  match s.sender.tallyTimer with
  | none => s
  | some due =>
    let here := s.advanceTo due
    let stopped := { here with sender := { here.sender with tallyTimer := none } }
    match s.active with
    | some b => if s.sender.tallyOwed then stopped.addWaiting b (.tally s.session.epoch) else stopped
    | none => stopped

/-- TALLY_TIMER_EXPIRY (R60). -/
def execTallyTimerExpiry (s : State) : Host.Outcome State Fault Refusal := run s tallyExpires

/-- The open retry timer expires: OPEN is sent again on the active bearer and the timer restarts (R15). -/
def retryExpires (s : State) : State :=
  match s.session.retry with
  | none => s
  | some due =>
    let here := s.advanceTo due
    let stopped := { here with session := { here.session with retry := none } }
    match s.active with
    | some b => if s.session.status = .opening then sendOpen b stopped else stopped
    | none => stopped

/-- OPEN_RETRY_TIMER_EXPIRY (R15). -/
def execOpenRetryTimerExpiry (s : State) : Host.Outcome State Fault Refusal := run s retryExpires

/-- Rewind attempts are exhausted: REWIND_FAILED, the count, and carry failure at the judge of the active bearer. The timer is
stopped first, so that a handover that follows from the evidence may start it anew (R93, R103; log entry 14). -/
def rewindExhausted (s : State) : State :=
  let failed := (report .rewindFailed (stopRewindTimer s)).countCarry .upRewindFailures
  match s.active with
  | some b => hardFail b failed
  | none => failed

/-- The rewind timer expires: below the limit a REWIND stream is asked for and the timer starts again (R92); at the limit carry
failure follows (R93). -/
def rewindExpires (s : State) : State :=
  match s.receiver.rewindTimer with
  | none => s
  | some due =>
    let here := s.advanceTo due
    match s.active with
    | none => stopRewindTimer here
    | some b =>
      if s.receiver.attempts < s.carry.rewindLimit then startRewindTimer b (s.receiver.attempts + 1) (requestRewind here)
      else rewindExhausted here

/-- REWIND_TIMER_EXPIRY (R92, R93). -/
def execRewindTimerExpiry (s : State) : Host.Outcome State Fault Refusal := run s rewindExpires

/-! ## Judges' clocks -/

/-- INTERVAL_END (R107). -/
def execIntervalEnd (bearer : Bearer) (s : State) : Host.Outcome State Fault Refusal := run s (endInterval bearer)

/-- PROBE_ENTRY_EXPIRY (R111). -/
def execProbeEntryExpiry (bearer : Bearer) (tag : Byte) (s : State) : Host.Outcome State Fault Refusal :=
  runQuiet s (expireProbe bearer tag)

/-- A decay clock ticks: the next tick is one period after this one, and the penalty decays (R126, R127). -/
def tick (b : Bearer) (s : State) : State :=
  match (s.judge b).decay with
  | none => s
  | some due =>
    decayBy b ((s.advanceTo due).mapJudge b (fun j => { j with decay := some (due + j.damping.period * 1000000) }))

/-- DECAY_TICK (R126, R127). -/
def execDecayTick (bearer : Bearer) (s : State) : Host.Outcome State Fault Refusal := run s (tick bearer)

/-! ## The selector's timers -/

/-- The return hold timer expires in ON_RADIO: a planned handover to the fibre starts (R145). -/
def holdExpires (s : State) : State :=
  match s.selector.holdTimer with
  | none => s
  | some due =>
    let here := s.advanceTo due
    let stopped := { here with selector := { here.selector with holdTimer := none } }
    if s.selector.status = .on .radio then startDrain updateHold .radio stopped else stopped

/-- RETURN_HOLD_EXPIRY (R145). -/
def execReturnHoldExpiry (s : State) : Host.Outcome State Fault Refusal := run s holdExpires

/-- The drain timer expires: the selector switches with the outcome EXPIRED (R149). -/
def drainExpires (s : State) : State :=
  match s.selector.drainTimer with
  | none => s
  | some due =>
    let here := s.advanceTo due
    match s.selector.status with
    | .draining source => switchDrain updateHold source .expired here
    | _ => { here with selector := { here.selector with drainTimer := none } }

/-- DRAIN_TIMER_EXPIRY (R149). -/
def execDrainTimerExpiry (s : State) : Host.Outcome State Fault Refusal := run s drainExpires

end Sys2Proof.Machine
end

