-- ==== Sys2Proof/Machine/ModuleCommands.lean ====
section
/-! DEFINITION. The meanings of the module's responses, the module controller's timers and the data handshake (Chapter 9). -/

namespace Sys2Proof.Machine

/-! ## Wake and search (R160, R162) -/

/-- No command is outstanding (R158). -/
def State.answered (s : State) : State := { s with radio := { s.radio with outstanding := none } }

/-- POWERED in WAKING: SEARCHING begins with round 1 (R160). -/
def poweredTaken (s : State) : State :=
  if awaits .powerUp s && s.radio.status == .waking then searchRound 1 s else s

/-- POWERED (R160). -/
def execPowered (s : State) : Host.Outcome State Fault Refusal := run s poweredTaken

/-- ATTACHED in SEARCHING: READY (R162). -/
def attachedTaken (s : State) : State := if awaits .attach s && s.radio.status == .searching then enterReady s else s

/-- ATTACHED (R162). -/
def execAttached (s : State) : Host.Outcome State Fault Refusal := run s attachedTaken

/-- A round fails: another begins, or the search fails (R160). -/
def roundFails (s : State) : State :=
  if s.radio.rounds < s.radio.settings.searchRounds then searchRound (s.radio.rounds + 1) s
  else enterReleasing .searchFailed (report .searchFailed s.answered)

/-- ATTACH_FAILED in SEARCHING (R160). -/
def attachFailedTaken (s : State) : State := if awaits .attach s && s.radio.status == .searching then roundFails s else s

/-- ATTACH_FAILED (R160). -/
def execAttachFailed (s : State) : Host.Outcome State Fault Refusal := run s attachFailedTaken

/-- A search round ends with its ATTACH unanswered (R160). -/
def roundEnds (s : State) : State :=
  match s.radio.outstanding with
  | none => s
  | some o =>
    if o.command = .attach ∧ s.radio.status = .searching then roundFails (s.advanceTo o.limit) else s

/-- SEARCH_ROUND_END (R160). -/
def execSearchRoundEnd (s : State) : Host.Outcome State Fault Refusal := run s roundEnds

/-! ## READY (R164, R166, R167) -/

/-- The module enters RELEASING from READY, and its judge's withdrawal reaches the selector (R161, R162, R121). -/
def releaseFrom (cause : ReleaseCause) (s : State) : State := rework .radio (enterReleasing cause s)

/-- A level that SIGNAL may answer with (R167). -/
def readingValid (level : Int) : Bool := decide (-140 ≤ level) && decide (level ≤ -44)

/-- The reading of a SIGNAL goes to the radio judge and becomes the last signal reading (R167). -/
def takeReading (level : Option Int) (s : State) : State :=
  match level with
  | some v =>
    if readingValid v then
      let handed := handReading v s
      { handed with radio := { handed.radio with lastReading := some v } }
    else s
  | none => s

/-- A SIGNAL has completed: a release that is due is made or dropped by the level held, and a level that was held back is acted
on (R164). -/
def afterSignal (s : State) : State :=
  if s.radio.releaseDue then
    let cleared := { s with radio := { s.radio with releaseDue := false } }
    if s.radio.wantedHeld = .none then releaseFrom .linger cleared else cleared
  else rework .radio (actOnLevel s)

/-- A SIGNAL answer in READY (R167). -/
def signalTaken (level : Option Int) (s : State) : State :=
  if awaits .signal s && s.radio.status == .ready then afterSignal (takeReading level s.answered) else s

/-- SIGNAL_ANSWER (R167). -/
def execSignalAnswer (level : Option Int) (s : State) : Host.Outcome State Fault Refusal := run s (signalTaken level)

/-- DETACHED in READY: the cell is lost, and the module searches again or is released by the level held once the selector has
acted on the evidence (R166; log entry 18). -/
def cellLost (s : State) : State :=
  let failed := (hardFail .radio s).answered
  let left := rework .radio (leaveReady { failed with radio := { failed.radio with status := .releasing } })
  if left.radio.wantedHeld = .none then enterReleasing .unwanted left else searchRound 1 left

/-- DETACHED (R161, R166). -/
def detachedTaken (s : State) : State :=
  match s.radio.status with
  | .ready => cellLost s
  | .releasing => if awaits .detach s then sendCommand .powerOff s else s
  | _ => s

/-- DETACHED (R161, R166). -/
def execDetached (s : State) : Host.Outcome State Fault Refusal := run s detachedTaken

/-- OFF in RELEASING: OFF under LINGER and UNWANTED, RESTING under FAULT and SEARCH_FAILED (R161). -/
def offTaken (s : State) : State :=
  if awaits .powerOff s && s.radio.status == .releasing then
    match s.radio.cause with
    | some .fault => enterResting s
    | some .searchFailed => enterResting s
    | _ => enterOff s
  else s

/-- OFF_ANSWER (R161). -/
def execOffAnswer (s : State) : Host.Outcome State Fault Refusal := run s offTaken

/-! ## Faults (R159, R169) -/

/-- A command has timed out: counts, MODULE_FAULT, hard-fail evidence, and the release or its end (R159, R161). -/
def commandTimesOut (s : State) : State :=
  let counted := report .moduleFault ((s.answered.countModule .upTimeouts).countModule .upFaults)
  let failed := hardFail .radio counted
  match s.radio.status with
  | .releasing => enterResting failed
  | .waking => releaseFrom .fault failed
  | .ready => releaseFrom .fault failed
  | _ => failed

/-- The response limit of a command other than ATTACH passes (R159). -/
def responseLate (s : State) : State :=
  match s.radio.outstanding with
  | none => s
  | some o => if o.command = .attach then s else commandTimesOut (s.advanceTo o.limit)

/-- RESPONSE_TIMEOUT (R159). -/
def execResponseTimeout (s : State) : Host.Outcome State Fault Refusal := run s responseLate

/-! ## Linger and rest (R163, R164) -/

/-- The linger timer expires: the release, or its becoming due behind a SIGNAL (R164). -/
def lingerExpires (s : State) : State :=
  match s.radio.linger with
  | none => s
  | some due =>
    let here := s.advanceTo due
    let stopped := { here with radio := { here.radio with linger := none } }
    if s.radio.status = .ready then
      if s.radio.outstanding.isSome then { stopped with radio := { stopped.radio with releaseDue := true } }
      else releaseFrom .linger stopped
    else stopped

/-- LINGER_EXPIRY (R164). -/
def execLingerExpiry (s : State) : Host.Outcome State Fault Refusal := run s lingerExpires

/-- The rest timer expires: OFF, and a wake when the module is wanted (R163). -/
def restExpires (s : State) : State :=
  match s.radio.rest with
  | none => s
  | some due =>
    let here := s.advanceTo due
    if s.radio.status = .resting then enterOff here else { here with radio := { here.radio with rest := none } }

/-- REST_TIMER_EXPIRY (R163). -/
def execRestTimerExpiry (s : State) : Host.Outcome State Fault Refusal := run s restExpires

/-! ## The data handshake (R168 to R170) -/

/-- The poll start passes: MOD_READY is watched up to the ready limit (R168). -/
def pollStarts (s : State) : State :=
  match s.radio.handshake with
  | .settling due =>
    let here := s.advanceTo due
    { here with radio := { here.radio with handshake := .watching (here.inMs s.radio.settings.readyLimit) } }
  | _ => s

/-- POLL_START_PASSES (R168). -/
def execPollStartPasses (s : State) : Host.Outcome State Fault Refusal := run s pollStarts

/-- MOD_READY is seen while the module is READY: in WATCHING the unit got through, in STALLED it is offered again (R168, R169). -/
def readySeen (s : State) : State :=
  if s.radio.status = .ready then
    match s.radio.handshake with
    | .watching _ => { s with radio := { s.radio with handshake := .free, stallCount := 0, held := none } }
    | .stalled _ => offerAgain s
    | _ => s
  else s

/-- MOD_READY_SEEN (R168). -/
def execModReadySeen (s : State) : Host.Outcome State Fault Refusal := run s readySeen

/-- A stall: below the stall limit the unit waits to be offered again; at the limit the module has failed (R169). A watch after a
unit that HALT IMMEDIATE cut off stalls in the same way, with no unit held (DESIGN CHOICE, log entry 11). -/
def unitStalls (s : State) : State :=
  let stalled := s.countModule .upStalls
  let counted := { stalled with radio := { stalled.radio with stallCount := stalled.radio.stallCount + 1 } }
  if counted.radio.stallCount < s.radio.settings.stallLimit then
    { counted with radio := { counted.radio with handshake := .stalled (counted.inMs s.radio.settings.readyLimit) } }
  else releaseFrom .fault (hardFail .radio (report .moduleFault (counted.countModule .upFaults)))

/-- The ready limit passes without MOD_READY (R168, R169). -/
def readyLate (s : State) : State :=
  match s.radio.handshake with
  | .watching due => if s.radio.status = .ready then unitStalls (s.advanceTo due) else s
  | .stalled due => if s.radio.status = .ready then offerAgain (s.advanceTo due) else s
  | _ => s

/-- READY_LIMIT_PASSES (R169). -/
def execReadyLimitPasses (s : State) : Host.Outcome State Fault Refusal := run s readyLate

/-- The pacing gap passes: the handshake is free (R170). -/
def gapEnds (s : State) : State :=
  match s.radio.handshake with
  | .pacing due =>
    let here := s.advanceTo due
    { here with radio := { here.radio with handshake := .free } }
  | _ => s

/-- PACING_GAP_END (R170). -/
def execPacingGapEnd (s : State) : Host.Outcome State Fault Refusal := run s gapEnds

end Sys2Proof.Machine
end

