-- ==== Sys2Proof/Machine/Dispatch.lean ====
section
/-! DEFINITION. The meaning of every command, one arm for each constructor of Instr. -/

namespace Sys2Proof.Machine

def exec (i : Instr) (s : State) : Host.Outcome State Fault Refusal :=
  match i with
  | .powerOn => Sys2Proof.Machine.execPowerOn s
  | .controlMessageReceived bytes => Sys2Proof.Machine.execControlMessageReceived bytes s
  | .interByteTimeout => Sys2Proof.Machine.execInterByteTimeout s
  | .unknownRequest => Sys2Proof.Machine.execUnknownRequest s
  | .identify => Sys2Proof.Machine.execIdentify s
  | .getStatus => Sys2Proof.Machine.execGetStatus s
  | .setLane => Sys2Proof.Machine.execSetLane s
  | .getLane => Sys2Proof.Machine.execGetLane s
  | .setClass => Sys2Proof.Machine.execSetClass s
  | .getClass => Sys2Proof.Machine.execGetClass s
  | .setJudge => Sys2Proof.Machine.execSetJudge s
  | .getJudge => Sys2Proof.Machine.execGetJudge s
  | .setDamping => Sys2Proof.Machine.execSetDamping s
  | .setCarry => Sys2Proof.Machine.execSetCarry s
  | .setModule => Sys2Proof.Machine.execSetModule s
  | .setSupply => Sys2Proof.Machine.execSetSupply s
  | .start => Sys2Proof.Machine.execStart s
  | .haltImmediate => Sys2Proof.Machine.execHaltImmediate s
  | .haltAtBoundary => Sys2Proof.Machine.execHaltAtBoundary s
  | .pin => Sys2Proof.Machine.execPin s
  | .handoverNow => Sys2Proof.Machine.execHandoverNow s
  | .readEvents => Sys2Proof.Machine.execReadEvents s
  | .clearEvents => Sys2Proof.Machine.execClearEvents s
  | .setAlert => Sys2Proof.Machine.execSetAlert s
  | .readCounts => Sys2Proof.Machine.execReadCounts s
  | .reset => Sys2Proof.Machine.execReset s
  | .messageSent => Sys2Proof.Machine.execMessageSent s
  | .homeFrameArrival bytes => Sys2Proof.Machine.execHomeFrameArrival bytes s
  | .homeLinkChange up => Sys2Proof.Machine.execHomeLinkChange up s
  | .deliveryComplete => Sys2Proof.Machine.execDeliveryComplete s
  | .frameDepartureComplete bearer => Sys2Proof.Machine.execFrameDepartureComplete bearer s
  | .tallyTimerExpiry => Sys2Proof.Machine.execTallyTimerExpiry s
  | .fibreFrameArrival bytes => Sys2Proof.Machine.execFibreFrameArrival bytes s
  | .moduleUnitArrival bytes => Sys2Proof.Machine.execModuleUnitArrival bytes s
  | .openRetryTimerExpiry => Sys2Proof.Machine.execOpenRetryTimerExpiry s
  | .rewindTimerExpiry => Sys2Proof.Machine.execRewindTimerExpiry s
  | .intervalEnd bearer => Sys2Proof.Machine.execIntervalEnd bearer s
  | .probeEntryExpiry bearer tag => Sys2Proof.Machine.execProbeEntryExpiry bearer tag s
  | .fibreLinkDown => Sys2Proof.Machine.execFibreLinkDown s
  | .fibreLinkUp => Sys2Proof.Machine.execFibreLinkUp s
  | .decayTick bearer => Sys2Proof.Machine.execDecayTick bearer s
  | .returnHoldExpiry => Sys2Proof.Machine.execReturnHoldExpiry s
  | .drainTimerExpiry => Sys2Proof.Machine.execDrainTimerExpiry s
  | .powered => Sys2Proof.Machine.execPowered s
  | .attached => Sys2Proof.Machine.execAttached s
  | .attachFailed => Sys2Proof.Machine.execAttachFailed s
  | .searchRoundEnd => Sys2Proof.Machine.execSearchRoundEnd s
  | .signalAnswer level => Sys2Proof.Machine.execSignalAnswer level s
  | .detached => Sys2Proof.Machine.execDetached s
  | .offAnswer => Sys2Proof.Machine.execOffAnswer s
  | .responseTimeout => Sys2Proof.Machine.execResponseTimeout s
  | .lingerExpiry => Sys2Proof.Machine.execLingerExpiry s
  | .restTimerExpiry => Sys2Proof.Machine.execRestTimerExpiry s
  | .pollStartPasses => Sys2Proof.Machine.execPollStartPasses s
  | .modReadySeen => Sys2Proof.Machine.execModReadySeen s
  | .readyLimitPasses => Sys2Proof.Machine.execReadyLimitPasses s
  | .pacingGapEnd => Sys2Proof.Machine.execPacingGapEnd s
  | .resetNAsserted => Sys2Proof.Machine.execResetNAsserted s

end Sys2Proof.Machine
end

