-- ==== Sys2Proof/Machine/Step.lean ====
section
/-! DEFINITION. One step of the part: the command at the front of the queue, or, with no command waiting, one unit of the
timebase. -/

namespace Sys2Proof.Machine

/-- One unit of the timebase passes; while RESET_N is held nothing does (R183; log entries 3, 7). -/
def idle (s : State) : State := if s.resetHeld then s else { s with clock := s.clock + Config.unitMicros }

/-- The command at the front of the queue has its effect on the state with the queue's rest. -/
def step (s : State) : Host.Outcome State Fault Refusal :=
  match s.pending with
  | [] => .next (idle s)
  | c :: rest => exec c { s with pending := rest }

/-- The state with the command that a word of the table spells at the front of its queue; unchanged when it spells none. -/
def State.withFetchWord (s : State) (nbits w : Nat) : State :=
  match Sys2Proof.decodeTableWord nbits w with
  | none => s
  | some c => { s with pending := c :: s.pending }

end Sys2Proof.Machine
end

