-- ==== Sys2Proof/Machine/Bodies.lean ====
section
/-! DEFINITION. The bodies of the settings requests as a host writes them, field by field in the order of R175: the statements
name requests with them. The bodies of SET_CLASS and SET_JUDGE are the result fields of GET_CLASS and GET_JUDGE
(Sys2Proof/Machine/Operands.lean). No meaning uses this file. -/

namespace Sys2Proof.Machine

/-- The body of SET_LANE (R175). -/
def laneBody (l : Lane) (p : LaneProfile) : List Byte :=
  [codeOfLane l, codeOfFlag p.replay] ++ out16 p.limit ++ [codeOfPolicy p.policy] ++ out16 p.maxAge
    ++ [codeOfFlag p.radioBar, codeOfFlag p.batteryBar]

/-- The body of SET_DAMPING (R175). -/
def dampingBody (b : Bearer) (d : Damping) : List Byte :=
  [codeOfBearer (some b)] ++ out16 d.step ++ out16 d.ceiling ++ out16 d.suppress ++ out16 d.reuse ++ out8 d.factor
    ++ out16 d.period

/-- The body of SET_CARRY (R175). -/
def carryBody (v : CarrySettings) : List Byte :=
  bytesOfAddress v.address ++ bytesOf16 v.frameType ++ out8 v.nTx ++ out8 v.mRx ++ out8 v.rewindLimit ++ out8 v.resendLimit
    ++ out8 v.tallyDelay ++ out16 v.rewindMargin ++ out16 v.drainMargin ++ out16 v.returnHold

/-- The code of a standby level. -/
def Standby.code : Standby → Byte
  | .cold => 0
  | .hot => 1

/-- The code of a handshake mode. -/
def HandshakeMode.code : HandshakeMode → Byte
  | .readyWait => 0
  | .paced => 1

/-- The body of SET_MODULE (R175). -/
def moduleBody (m : ModuleSettings) : List Byte :=
  [m.standby.code] ++ out8 m.wakeLimit ++ out8 m.searchRound ++ out8 m.searchRounds ++ out16 m.rest ++ out16 m.linger
    ++ [m.mode.code] ++ out16 m.pollStart ++ out8 m.readyLimit ++ out8 m.stallLimit ++ out32 m.paceRate

end Sys2Proof.Machine
end

