-- ==== Sys2Proof/Safety.lean ====
section
/-! DEFINITION. What a safe state of the part is, in the terms the statements use: the bounds of its queues and counts, the law
of the replay store, the laws that tie the blocks' states to one another, and the names by which the statements speak of
requests, arrivals and settings. Every name here is a view of State or of a command. -/

namespace Sys2Proof.Machine

/-! ## Bounds -/

/-- The control link's queues, the delivery queue and the probe tables stay within their places (R36, R173, R176, section 6.2). -/
abbrev QueuesBounded (s : State) : Prop :=
  s.link.inbound.length ≤ 4 ∧ s.link.outbound.length ≤ 8 ∧ s.home.delivery.length ≤ 64
    ∧ s.fibreJudge.table.length ≤ 4 ∧ s.radioJudge.table.length ≤ 4

/-- A lane holds no more frames than its limit, which is at least 1 (R27, R30). -/
abbrev LaneState.Bounded (l : LaneState) : Prop := 1 ≤ l.profile.limit ∧ l.queue.length ≤ l.profile.limit

/-- The four lanes stay within their limits, and the limits within the 512 slots (R27, R28, R30). -/
abbrev LanesBounded (u : Lanes) : Prop :=
  u.voice.Bounded ∧ u.signal.Bounded ∧ u.priority.Bounded ∧ u.bulk.Bounded
    ∧ u.voice.profile.limit + u.signal.profile.limit + u.priority.profile.limit + u.bulk.profile.limit ≤ 512

/-- Every count of a group is at most 4,294,967,295 (R182). -/
abbrev GroupBounded (c : Counts) (g : CountGroup) : Prop := ∀ n ∈ c.inOrder g, n ≤ 4294967295

/-- Every count stays within its bound (R182). -/
abbrev CountsBounded (c : Counts) : Prop :=
  GroupBounded c .lane ∧ GroupBounded c .carry ∧ GroupBounded c .probe ∧ GroupBounded c .module ∧ GroupBounded c .link

/-! ## The replay store (R44, R45, R95) -/

/-- The numbers of the records: consecutive, the newest just before N (R45). -/
def storeNumbers (n : Seq) (length : Nat) : List Seq :=
  (List.range length).map (fun i => n - BitVec.ofNat 16 length + BitVec.ofNat 16 i)

/-- The store holds at most 1,024 records and 2,048 cells, numbered consecutively up to N, and the pass's cursor stands at a
record that is held. -/
abbrev StoreLaw (t : Sender) : Prop :=
  t.store.length ≤ 1024 ∧ storeCells t.store ≤ 2048
    ∧ t.store.map StoreRecord.seq = storeNumbers t.n t.store.length
    ∧ ∀ c ∈ t.cursor, c ∈ t.store.map StoreRecord.seq

/-! ## ATTN (R181) -/

/-- ATTN is asserted exactly while RESET_N is not held and, in LATCH mode, some flag is set and unmasked; in FOLLOW mode, some
condition holds whose related flag is unmasked: flags 2, 4, 5, 8, 12 and 16 for the conditions 0 to 5 (R179, R181). -/
abbrev AttnLaw (s : State) : Prop :=
  s.events.attn = true ↔
    s.resetHeld = false ∧
      ((s.events.mode = .latch ∧ ∃ k : Fin 19, s.events.flags.getLsbD k.val = true ∧ s.events.mask.getLsbD k.val = false)
        ∨ (s.events.mode = .follow ∧
          ((s.fibreJudge.verdict = .down ∧ s.events.mask.getLsbD 2 = false)
            ∨ (s.radioJudge.verdict = .down ∧ s.events.mask.getLsbD 4 = false)
            ∨ (s.fibreJudge.suppressed = true ∧ s.events.mask.getLsbD 5 = false)
            ∨ (s.selector.status = .outage ∧ s.events.mask.getLsbD 8 = false)
            ∨ (s.receiver.discard = true ∧ s.events.mask.getLsbD 12 = false)
            ∨ (s.radio.status = .resting ∧ s.events.mask.getLsbD 16 = false))))

/-- A message is not a notice whose conditions have not been read. -/
def OutMessage.whole : OutMessage → Bool
  | .reply _ _ _ => true
  | .notice _ _ _ conds => conds.isSome

/-- Every notice that waits has its conditions, which are read at the end of its own event (R178). -/
abbrev NoticesRead (s : State) : Prop := ∀ m ∈ s.link.outbound, m.whole = true

/-! ## The pause reasons and the session (R12, R15, R16, R31) -/

/-- Each pause reason stands exactly while the state that raises it does; a take-up raises the stream's reason before its
stream starts, and an announce is pending in WAITING alone (R31, R96, R140). -/
abbrev PauseLaw (s : State) : Prop :=
  (s.pause.session = true ↔ s.session.status ≠ .opened)
    ∧ (s.pause.selector = true ↔ s.selector.status ≠ .on .fibre ∧ s.selector.status ≠ .on .radio)
    ∧ (s.pause.pass = true ↔ s.sender.pass ≠ .none)
    ∧ (s.sender.announcePending = true → s.sender.pass = .waiting)
    ∧ (s.sender.stream.isSome = true → s.pause.stream = true)
    ∧ (s.pause.stream = true → s.sender.stream.isSome = true ∨ s.sender.rewindPending = true)

/-- Outside OPEN nothing is numbered: N and E are 1, the store is empty and the discard state is CLEAR; the epoch is not 0 once a
session has opened, and the retry timer runs in OPENING alone, with an active bearer (R12, R15, R16). -/
abbrev SessionLaw (s : State) : Prop :=
  (s.session.status ≠ .opened → s.sender.n = 1 ∧ s.receiver.e = 1 ∧ s.sender.store = [] ∧ s.receiver.discard = false)
    ∧ (s.session.status ≠ .closed → s.session.epoch ≠ 0)
    ∧ (s.session.retry.isSome = true → s.session.status = .opening ∧ s.active.isSome = true)
    ∧ (s.receiver.rewindTimer.isSome = true → s.active.isSome = true)
    ∧ (s.sender.tallyTimer.isSome = true → s.sender.tallyOwed = true)
    ∧ (s.sender.tallyOwed = true → s.active.isSome = true ∧ s.session.status = .opened)

/-! ## The judges (R106, R124, R126) -/

/-- The fibre is judged outside STOPPED, the radio outside STOPPED while the module is READY; the decay clocks run outside
STOPPED; an UP verdict belongs to a judged bearer; a penalty is at most its ceiling. -/
abbrev JudgingLaw (s : State) : Prop :=
  (s.fibreJudge.timer.isSome = true ↔ s.selector.status ≠ .stopped)
    ∧ (s.radioJudge.timer.isSome = true ↔ s.selector.status ≠ .stopped ∧ s.radio.status = .ready)
    ∧ (s.fibreJudge.decay.isSome = true ↔ s.selector.status ≠ .stopped)
    ∧ (s.radioJudge.decay.isSome = true ↔ s.selector.status ≠ .stopped)
    ∧ (s.fibreJudge.verdict = .up → s.fibreJudge.timer.isSome = true)
    ∧ (s.radioJudge.verdict = .up → s.radioJudge.timer.isSome = true)
    ∧ s.fibreJudge.penalty ≤ s.fibreJudge.damping.ceiling
    ∧ s.radioJudge.penalty ≤ s.radioJudge.damping.ceiling

/-! ## The path selector (R121, R136, R137, R141, R145, R148, R155) -/

/-- The eligibility that a judge last handed over is the bearer's eligibility (R121). -/
abbrev HandedLaw (s : State) : Prop :=
  s.fibreJudge.handed = s.eligible .fibre ∧ s.radioJudge.handed = s.eligible .radio

/-- A bearer is active only while it is eligible and permitted; a drain's source is eligible, and its target may be taken; in
OUTAGE no bearer may be taken (R137, R141, R150, R151). -/
abbrev ActiveLaw (s : State) : Prop :=
  (s.selector.status = .on .fibre → s.mayTake .fibre = true)
    ∧ (s.selector.status = .on .radio → s.mayTake .radio = true)
    ∧ (s.selector.status = .draining .fibre → s.eligible .fibre = true ∧ s.mayTake .radio = true)
    ∧ (s.selector.status = .draining .radio → s.eligible .radio = true ∧ s.mayTake .fibre = true)
    ∧ (s.selector.status = .outage → s.mayTake .fibre = false ∧ s.mayTake .radio = false)

/-- The drain timer runs in DRAINING, the return hold while its three conditions hold, and the wanted level is the one that
R155 gives and the module controller holds (R145, R148, R155). -/
abbrev SelectorTimersLaw (s : State) : Prop :=
  (s.selector.drainTimer.isSome = true ↔ s.draining = true)
    ∧ (s.selector.holdTimer.isSome = true ↔ holdWanted s = true)
    ∧ s.selector.wanted = wantedLevel s
    ∧ s.radio.wantedHeld = s.selector.wanted

/-! ## The module (R157, R161, R163, R164) -/

/-- The commands that may be outstanding in a module state (R157). -/
def ModuleStatus.mayAwait : ModuleStatus → Option ModuleCommand → Bool
  | .off, c => c.isNone
  | .waking, c => c == some .powerUp
  | .searching, c => c == some .attach
  | .ready, c => c == none || c == some .signal
  | .releasing, c => c == some .detach || c == some .powerOff
  | .resting, c => c.isNone

/-- MOD_PWR is high in a module state (R157). -/
def ModuleStatus.powered : ModuleStatus → Bool
  | .off => false
  | .resting => false
  | .waking => true
  | .searching => true
  | .ready => true
  | .releasing => true

/-- What a module state fixes: MOD_PWR, the outstanding command, and the timers that may run (R157). -/
abbrev ModuleLaw (s : State) : Prop :=
  s.radio.modPwr = s.radio.status.powered
    ∧ s.radio.status.mayAwait (s.radio.outstanding.map Outstanding.command) = true
    ∧ (s.radio.linger.isSome = true → s.radio.status = .ready ∧ s.radio.releaseDue = false)
    ∧ (s.radio.rest.isSome = true ↔ s.radio.status = .resting)
    ∧ (s.radio.cause.isSome = true ↔ s.radio.status = .releasing)
    ∧ (s.radio.releaseDue = true → s.radio.status = .ready ∧ s.radio.outstanding.isSome = true)

/-! ## The laws together -/

/-- The laws that tie the blocks to one another. -/
structure Lawful (s : State) : Prop where
  pause : PauseLaw s
  session : SessionLaw s
  judging : JudgingLaw s
  handed : HandedLaw s
  active : ActiveLaw s
  timers : SelectorTimersLaw s
  module : ModuleLaw s

/-! ## Requests, arrivals and settings, as the statements name them -/

/-- A request is at the head of the inbound queue and can be taken: RESET_N is not held, no RESET has been taken, and the
outbound queue has a place for the reply (R173, R181, R185). -/
abbrev Takes (s : State) (kind tag : Byte) (body : List Byte) : Prop :=
  s.resetHeld = false ∧ s.link.resetTaken = false ∧ s.link.outbound.length < 8 ∧ s.link.inbound.head? = some ⟨kind, tag, body⟩

/-- The head of the inbound queue has left it, and a reply with a body has joined the outbound queue (R173, R174). -/
def State.replied (kind tag : Byte) (body : List Byte) (s : State) : State :=
  { s with link := { s.link with
      inbound := s.link.inbound.drop 1
      outbound := s.link.outbound ++ [.reply (kind + 0x80) tag body] } }

/-- The requests whose event ends at the event unit alone, each with its kind and its body length (R175). -/
def quietRequests : List (Instr × Byte × Nat) :=
  [(.identify, 0x01, 0), (.getStatus, 0x02, 0), (.getLane, 0x04, 1), (.setClass, 0x05, 6), (.getClass, 0x06, 1),
    (.setJudge, 0x07, 10), (.getJudge, 0x08, 1), (.setCarry, 0x0A, 19), (.setModule, 0x0B, 17), (.readEvents, 0x11, 0),
    (.clearEvents, 0x12, 3), (.setAlert, 0x13, 4), (.readCounts, 0x14, 2), (.reset, 0x15, 0)]

/-- The requests whose event ends with both ports served, each with its kind and its body length (R175). -/
def actingRequests : List (Instr × Byte × Nat) :=
  [(.setLane, 0x03, 9), (.setDamping, 0x09, 12), (.setSupply, 0x0C, 1), (.start, 0x0D, 0), (.haltImmediate, 0x0E, 1),
    (.haltAtBoundary, 0x0E, 1), (.pin, 0x0F, 1), (.handoverNow, 0x10, 0)]

/-- What an arrival at a data port hands to the carry receiver: the bearer with a frame, or with none for a check failure; and
nothing at all for what the port discards (R21, R64, R170). -/
def handsOver (i : Instr) (s : State) : Option (Bearer × Option CarryFrame) :=
  match i with
  | .fibreFrameArrival bytes =>
    if s.fibre.linkUp = true ∧ bytes.length ≤ 1600 then
      match ethernetBody bytes with
      | none => none
      | some body =>
        if 14 ≤ body.length ∧ word16At body 12 = s.carry.frameType
            ∧ (s.carry.address = 0xFFFFFFFFFFFF#48 ∨ addressAt body 6 = s.carry.address) then
          some (.fibre, readCarry false (body.drop 14))
        else none
    else none
  | .moduleUnitArrival bytes => if s.radio.status = .ready then some (.radio, readCarry true bytes) else none
  | _ => none

/-- An arrival hands a frame of a kind to the receiver, RESET_N not being held, and the frame passes every screen (R2, R13). -/
abbrev Receives (i : Instr) (s : State) (b : Bearer) (k : FrameKind) (f : CarryFrame) : Prop :=
  s.resetHeld = false ∧ handsOver i s = some (b, some f) ∧ kindOfCode f.kind = some k ∧ fieldsOk f = true
    ∧ sessionOk k f s.session = true

/-- A frame has started to leave a bearer's port between two states: the frame and its bytes stand in the port; on the module
port its hand-over has begun, under READY_WAIT or with the pacing gap of its bytes (R54, R168, R170; log entry 19); and on the
active bearer the tally owed is clear and its timer stopped (R59). -/
abbrev FrameStarts (b : Bearer) (f : CarryFrame) (s t : State) : Prop :=
  t.leaving b = some ⟨f, wireOf b f s, false⟩
    ∧ (b = .radio → t.radio.held = none
      ∧ t.radio.handshake = .handing (match s.radio.settings.mode with
        | .readyWait => .readyWait
        | .paced => .paced (pacingGap (encodeCarry f).length s.radio.settings.paceRate)))
    ∧ (s.active = some b → t.sender.tallyOwed = false ∧ t.sender.tallyTimer = none)

/-- An OPEN of the session's epoch waits on a bearer, or is leaving it (R14, R15). -/
abbrev OpenDueOn (b : Bearer) (t : State) : Prop :=
  .opening t.session.epoch ∈ t.waiting b ∨ ∃ l ∈ t.leaving b, l.frame.kind = 1 ∧ l.frame.epoch = t.session.epoch

/-- A REWIND stream is asked for, with its pause reason, or is in progress on a bearer (R82, R102). -/
abbrev RewindDueOn (b : Bearer) (t : State) : Prop :=
  t.pause.stream = true ∧ (t.sender.rewindPending = true ∨ ∃ m ∈ t.sender.stream, m.kind = .rewind ∧ m.bearer = b)

/-- A PROBE with a tag, made for an interval, waits on a bearer, or is leaving it; its epoch is the counter, or 1 while the counter
is 0 (R12, R109). -/
abbrev ProbeDueOn (b : Bearer) (tag : Byte) (interval : Nat) (t : State) : Prop :=
  let epoch := if t.session.epoch = 0 then 1 else t.session.epoch
  .probe tag epoch interval ∈ t.waiting b
    ∨ ∃ l ∈ t.leaving b, l.frame.kind = 7 ∧ l.frame.tag = tag ∧ l.frame.epoch = epoch

/-- A bearer has been taken from OUTAGE: it is active, by a forced change from none that is done, with HANDOVER and OUTAGE_END
(R140, R141). -/
abbrev TakenFromOutage (b : Bearer) (t : State) : Prop :=
  t.selector.status = .on b ∧ t.pause.selector = false ∧ t.selector.record = some ⟨none, b, .forced, t.ms, some .done⟩
    ∧ t.events.flags.getLsbD 7 = true ∧ t.events.flags.getLsbD 9 = true

/-- An active bearer that stopped being eligible has been left: for the other bearer, by a forced change that is done, where that
one may be taken, and else for OUTAGE (R142, R143). -/
abbrev ActiveLeft (b : Bearer) (s t : State) : Prop :=
  (s.mayTake b.other = true → t.selector.status = .on b.other ∧ t.events.flags.getLsbD 7 = true
      ∧ t.selector.record = some ⟨some b, b.other, .forced, t.ms, some .done⟩)
    ∧ (s.mayTake b.other = false → t.selector.status = .outage ∧ t.events.flags.getLsbD 8 = true)

/-- The two states hold the same settings, levels of the two Ethernet links, and waiting commands. -/
abbrev SettingsKept (s t : State) : Prop :=
  t.classMap = s.classMap
    ∧ t.lanes.voice.profile = s.lanes.voice.profile ∧ t.lanes.signal.profile = s.lanes.signal.profile
    ∧ t.lanes.priority.profile = s.lanes.priority.profile ∧ t.lanes.bulk.profile = s.lanes.bulk.profile
    ∧ t.lanes.supply = s.lanes.supply ∧ t.carry = s.carry
    ∧ t.fibreJudge.settings = s.fibreJudge.settings ∧ t.radioJudge.settings = s.radioJudge.settings
    ∧ t.fibreJudge.damping = s.fibreJudge.damping ∧ t.radioJudge.damping = s.radioJudge.damping
    ∧ t.radio.settings = s.radio.settings ∧ t.selector.pin = s.selector.pin
    ∧ t.events.mask = s.events.mask ∧ t.events.mode = s.events.mode
    ∧ t.home.linkUp = s.home.linkUp ∧ t.fibre.linkUp = s.fibre.linkUp
    ∧ t.pending = s.pending ∧ t.resetHeld = s.resetHeld

/-- The commands that change a setting, a link's level, or whether RESET_N is held; MESSAGE_SENT may be a soft reset. -/
def changesSettings : Instr → Bool
  | .powerOn | .resetNAsserted | .messageSent | .setLane | .setClass | .setJudge | .setDamping | .setCarry | .setModule
  | .setSupply | .pin | .setAlert | .homeLinkChange _ | .fibreLinkDown | .fibreLinkUp => true
  | _ => false

/-- The commands that may change the delivery queue (R36, R37, R38). -/
def changesDelivery : Instr → Bool
  | .powerOn | .messageSent | .deliveryComplete | .fibreFrameArrival _ | .moduleUnitArrival _ => true
  | _ => false

/-- The commands that may change E, the next sequence number expected (section 4.1, R18, R68). -/
def changesExpected : Instr → Bool
  | .powerOn | .messageSent | .fibreFrameArrival _ | .moduleUnitArrival _ => true
  | _ => false

/-- The commands that bring the envelope parser bytes or a gap (R172). -/
def changesParser : Instr → Bool
  | .powerOn | .messageSent | .controlMessageReceived _ | .interByteTimeout => true
  | _ => false

/-- The commands that are taken requests (R173). -/
def takesRequest : Instr → Bool
  | .unknownRequest | .identify | .getStatus | .setLane | .getLane | .setClass | .getClass | .setJudge | .getJudge | .setDamping
  | .setCarry | .setModule | .setSupply | .start | .haltImmediate | .haltAtBoundary | .pin | .handoverNow | .readEvents
  | .clearEvents | .setAlert | .readCounts | .reset => true
  | _ => false

/-- No port can start a frame: neither data port is free. -/
abbrev PortsBusy (s : State) : Prop := s.portFree .fibre = false ∧ s.portFree .radio = false

end Sys2Proof.Machine
end

