-- ==== Sys2Proof/Certificates/Slice0/Obligations.lean ====
section
/-! DEFINITION. The statements for the provers, each a Prop over the model's own definitions. -/

open Sys2Proof Sys2Proof.Machine

/-! ## The queue of commands, and the resets -/

/-- The model's queue of commands (log entry 3): a step of a state with a command at the front is that command's effect on the
state with the queue's rest; with no command waiting one unit of the timebase passes, unless RESET_N is held (log entry 7). -/
def Obligations.StepRunsTheFrontCommand : Prop :=
  ∀ (c : Instr) (rest : List Instr) (s : State),
    step { s with pending := c :: rest } = exec c { s with pending := rest }
      ∧ (s.resetHeld = false → step { s with pending := [] } = .next { s with pending := [], clock := s.clock + 100 })
      ∧ (s.resetHeld = true → step { s with pending := [] } = .next { s with pending := [] })

/-- The spec stops the part nowhere: every command on every state answers a next state, and, but for RESET_N itself, leaves it
held or not. That every command, POWER_ON and the soft reset among them, keeps the commands that wait is the model's choice (log
entry 8). -/
def Obligations.EveryCommandCompletes : Prop :=
  ∀ (c : Instr) (s : State),
    ∃ t, exec c s = .next t ∧ t.pending = s.pending ∧ (c ≠ .powerOn → c ≠ .resetNAsserted → t.resetHeld = s.resetHeld)

/-- The model's choices of log entries 6 and 7: while RESET_N is held every command but its release (R184) changes nothing beyond
the levels of the two Ethernet links, which the release keeps. RESET_N_ASSERTED itself drives ATTN high (R181) and abandons the
frame leaving each data port (R62); the handshake it leaves as it is (log entry 11). -/
def Obligations.HeldResetStopsThePart : Prop :=
  ∀ (c : Instr) (s : State) (up : Bool),
    (s.resetHeld = true → c ≠ .powerOn → c ≠ .resetNAsserted → c ≠ .homeLinkChange true → c ≠ .homeLinkChange false →
        c ≠ .fibreLinkDown → c ≠ .fibreLinkUp → exec c s = .next s)
      ∧ (s.resetHeld = true → exec (.homeLinkChange up) s = .next { s with home := { s.home with linkUp := up } }
          ∧ exec .fibreLinkDown s = .next { s with fibre := { s.fibre with linkUp := false } }
          ∧ exec .fibreLinkUp s = .next { s with fibre := { s.fibre with linkUp := true } })
      ∧ exec .resetNAsserted s = .next { s with
          resetHeld := true
          fibre := { s.fibre with leaving := none }
          radio := { s.radio with leaving := none }
          events := { s.events with attn := false } }
      ∧ ∃ t, exec .powerOn s = .next t ∧ t.home.linkUp = s.home.linkUp ∧ t.fibre.linkUp = s.fibre.linkUp

/-- R184, with the power-on values of R12, R26, R27, R38, R51, R62, R81, R104, R105, R107, R108, R116, R124, R133, R134, R136,
R156, R157, R171, R182 and section 7.1: the release of RESET_N puts every block in its power-on values; STARTED alone is set, its
notice is number 0 with timestamp 0 and the conditions 0 and 1, and it is the one message that waits; ATTN is asserted. The
model's own: the clock at 0 (log entry 3), the fibre judge's signal floor field, which nothing reads (log entry 37), and the
record of what the UART sent last, which stays (log entry 40). -/
def Obligations.PowerOnLeaves : Prop :=
  ∀ s : State,
    let unused : ClassEntry := ⟨false, .any, .any, .bulk⟩
    let none6 : LaneCounts := ⟨0, 0, 0, 0, 0, 0⟩
    let judge : JudgeSettings → Damping → Judge := fun settings damping =>
      { settings := settings, damping := damping, timer := none, count := 0, goodRun := 0, badRun := 0, tally := 0, position := 0
        noWindow := false, cleanRun := 0, verdict := .down, answered := false, linkHeld := false, reading := none, srtt := none
        tag := 0, table := [], handed := false, penalty := 0, suppressed := false, decay := none }
    ∃ t, exec .powerOn s = .next t
      ∧ t.events = { flags := 1, mask := 0, mode := .latch, noticeNumber := 1, attn := true }
      ∧ t.link = { rx := [], rxTimer := none, inbound := [], outbound := [.notice 0 .started 0 (some 0b000011)]
                   resetTaken := false, sent := s.link.sent }
      ∧ t.resetHeld = false ∧ t.clock = 0
      ∧ t.counts = { lane := ⟨none6, none6, none6, none6⟩, carry := ⟨0, 0, 0, 0, 0, 0, 0, 0, 0, 0, 0, 0, 0, 0, 0, 0, 0, 0⟩
                     probeFibre := ⟨0, 0, 0, 0, 0⟩, probeRadio := ⟨0, 0, 0, 0, 0⟩, module := ⟨0, 0, 0, 0⟩, link := ⟨0, 0, 0⟩ }
      ∧ t.selector = { status := .stopped, pin := .auto, drainTimer := none, holdTimer := none, record := none, wanted := .none }
      ∧ t.session = { status := .closed, epoch := 0, retry := none }
      ∧ t.radio = { status := .off, modPwr := false, outstanding := none, rounds := 0, linger := none, rest := none, cause := none
                    releaseDue := false, wantedHeld := .none, lastReading := none, leaving := none, held := none
                    handshake := .free, stallCount := 0
                    settings := { standby := .cold, wakeLimit := 20, searchRound := 30, searchRounds := 4, rest := 120, linger := 300
                                  mode := .readyWait, pollStart := 50, readyLimit := 20, stallLimit := 3, paceRate := 8000 } }
      ∧ t.lanes = { voice := ⟨⟨true, 24, .dropOld, 80, false, false⟩, []⟩, signal := ⟨⟨true, 64, .dropNew, 0, false, false⟩, []⟩
                    priority := ⟨⟨true, 128, .dropNew, 2000, false, false⟩, []⟩
                    bulk := ⟨⟨false, 296, .dropNew, 3000, false, true⟩, []⟩, supply := .mains }
      ∧ t.classMap = #v[⟨true, .any, .level 5, .voice⟩, ⟨true, .any, .level 6, .signal⟩, ⟨true, .any, .level 7, .signal⟩,
          ⟨true, .any, .level 4, .priority⟩, unused, unused, unused, unused, unused, unused, unused, unused, unused, unused, unused,
          unused]
      ∧ t.pause = { session := true, selector := true, pass := false, stream := false }
      ∧ t.sender = { n := 1, store := [], tallyOwed := false, tallyTimer := none, waitingFibre := [], waitingRadio := []
                     stream := none, rewindPending := false, announcePending := false, pass := .none, cursor := none
                     passStopping := false, passOwed := false }
      ∧ t.receiver = { e := 1, discard := false, attempts := 0, rewindTimer := none, marksFibre := ⟨0, 0⟩, marksRadio := ⟨0, 0⟩ }
      ∧ t.carry = { address := 0xFFFFFFFFFFFF, frameType := 0x88B5, nTx := 16, mRx := 6, rewindLimit := 4, resendLimit := 8
                    tallyDelay := 5, rewindMargin := 20, drainMargin := 100, returnHold := 60 }
      ∧ t.fibreJudge = judge ⟨100, 10, 0, 30, 10, 3, -113⟩ ⟨1000, 12000, 3000, 1500, 32, 10⟩
      ∧ t.radioJudge = judge ⟨1000, 5, 1, 1, 10, 3, -113⟩ ⟨0, 12000, 3000, 1500, 32, 10⟩
      ∧ t.home.delivery = [] ∧ t.fibre.leaving = none

/-- R22, R174, R176, R178, R185, R108, R120: the head of the outbound queue leaves it, in its envelope: a reply under its kind and
tag, a notice under the kind 0x60 with its number as the tag and its flag, timestamp and conditions as the body. When it is the OK
reply to a RESET that was taken the soft reset follows, which keeps the epoch counter and the LINK counts and puts everything else
where power-on puts it. A judge that it finds UP is reported, which counts LINK notice-lost where the notice finds the queue full.
The model's own: with no message waiting nothing changes (log entry 2), and the links' levels, the waiting commands, the free
choice's counter and the record of what was sent are not the part's (log entries 6, 8, 23, 40). -/
def Obligations.MessageSent : Prop :=
  ∀ (s : State) (m : OutMessage) (rest : List OutMessage) (tag : Byte),
    let envelope : Byte → Byte → List Byte → List Byte := fun kind tag body =>
      let inner := bytesOf16 (BitVec.ofNat 16 body.length) ++ [kind, tag] ++ body
      [0xA5#8] ++ inner ++ bytesOf16 (crc16Of inner)
    let bytes := match m with
      | .reply kind tag body => envelope kind tag body
      | .notice number flag ms conds =>
        envelope 0x60 number ([BitVec.ofNat 8 flag.number] ++ bytesOf32 ms ++ [(conds.getD 0).setWidth 8])
    let offers : Judge → Nat → Nat := fun j k =>
      if j.verdict = .up ∧ s.events.flags.getLsbD k = false ∧ s.events.mask.getLsbD k = false then 1 else 0
    let lost := offers s.fibreJudge 2 + offers s.radioJudge 4 - (8 - rest.length)
    let noticeLost := if lost = 0 then s.counts.link.noticeLost else min (s.counts.link.noticeLost + lost) 4294967295
    s.resetHeld = false →
      (s.link.outbound = [] → exec .messageSent s = .next (closeEvent s))
        ∧ (s.link.outbound = m :: rest → m.whole = true → (s.link.resetTaken = false ∨ m.answersReset = false) →
            exec .messageSent s = .next (closeEvent { s with link := { s.link with outbound := rest, sent := bytes } }))
        ∧ (s.link.outbound = .reply 0x95 tag [0] :: rest → s.link.resetTaken = true →
            exec .messageSent s = .next { State.reset with
              pending := s.pending
              ties := s.ties
              home := ⟨s.home.linkUp, [], s.home.sent⟩
              fibre := ⟨s.fibre.linkUp, none⟩
              session := ⟨.closed, s.session.epoch, none⟩
              link := { State.reset.link with sent := envelope 0x95 tag [0] }
              counts := { Counts.zero with link := { s.counts.link with noticeLost := noticeLost } } })

/-! ## The control link -/

/-- R22, R172: the parser, hunting through any run of well-formed messages in their envelopes, finds every request, in order, with
nothing dropped and no byte left over. -/
def Obligations.EnvelopesRoundTrip : Prop :=
  ∀ (rs : List Request) (fuel : Nat),
    (∀ r ∈ rs, r.kind.toNat < 128 ∧ r.body.length ≤ 512) →
      (rs.flatMap fun r => envelopeOf r.kind r.tag r.body).length ≤ fuel →
        huntMessages fuel (rs.flatMap fun r => envelopeOf r.kind r.tag r.body) = (rs.map some, [])

/-- R172, R173: bytes of the host complete, begin or spoil a message. A request that is complete is offered to the inbound queue,
which takes it while it holds fewer than 4 and otherwise drops it, counts LINK request-lost and reports REQUEST_LOST. Bytes that
do not end the message wait for the rest for 20 ms, which no byte at all leaves running. A message with another CRC-16, with a
kind of 0x80 or above, or with a length above 512 is dropped and counted LINK bad, and so is a message in progress whose next byte
is late: the clock is then at that moment or past it (log entry 4), and the hunt goes on from the byte after its SYNC (log entry
21), here through bytes without another SYNC. A gap that does not run changes nothing (log entry 2). -/
def Obligations.HostMessageArrives : Prop :=
  ∀ (s : State) (bytes missing inner : List Byte) (r : Request) (crc : BitVec 16) (high low : Byte) (late : Nat),
    s.resetHeld = false → r.body.length ≤ 512 →
      let takes : ControlLink → State := fun link => { s with link := link }
      let bad : Nat → Host.Outcome State Fault Refusal := fun clock => .next (closeEvent { s with
        clock := clock
        link := { s.link with rx := [], rxTimer := none }
        counts := { s.counts with link := { s.counts.link with bad := min (s.counts.link.bad + 1) 4294967295 } } })
      (r.kind.toNat < 128 → s.link.rx ++ bytes = envelopeOf r.kind r.tag r.body → bytes ≠ [] →
          (s.link.inbound.length < 4 →
              exec (.controlMessageReceived bytes) s =
                .next (closeEvent (takes { s.link with rx := [], rxTimer := none, inbound := s.link.inbound ++ [r] })))
            ∧ (4 ≤ s.link.inbound.length →
              exec (.controlMessageReceived bytes) s =
                .next (closeEvent (report .requestLost { takes { s.link with rx := [], rxTimer := none } with
                  counts := { s.counts with link := { s.counts.link with
                    requestLost := min (s.counts.link.requestLost + 1) 4294967295 } } }))))
        ∧ (s.link.rx ++ bytes ++ missing = envelopeOf r.kind r.tag r.body → missing ≠ [] → bytes ≠ [] →
          exec (.controlMessageReceived bytes) s =
            .next (closeEvent (takes { s.link with rx := s.link.rx ++ bytes, rxTimer := some (s.clock + 20000) })))
        ∧ exec (.controlMessageReceived []) s = .next (closeEvent s)
        ∧ (inner = bytesOf16 (BitVec.ofNat 16 r.body.length) ++ [r.kind, r.tag] ++ r.body →
          crc ≠ crc16Of inner ∨ 128 ≤ r.kind.toNat → (∀ x ∈ inner ++ bytesOf16 crc, x ≠ 0xA5#8) →
          s.link.rx ++ bytes = [0xA5#8] ++ inner ++ bytesOf16 crc → bytes ≠ [] →
          exec (.controlMessageReceived bytes) s = bad s.clock)
        ∧ (512 < (high ++ low).toNat → high ≠ 0xA5#8 → low ≠ 0xA5#8 → s.link.rx ++ bytes = [0xA5#8, high, low] → bytes ≠ [] →
          exec (.controlMessageReceived bytes) s = bad s.clock)
        ∧ (s.link.rxTimer = some late → (∀ x ∈ s.link.rx.drop 1, x ≠ 0xA5#8) →
          exec .interByteTimeout s = bad (max s.clock late))
        ∧ (s.link.rxTimer = none → exec .interByteTimeout s = .next (closeEvent s))

/-! ## Requests: waiting, and the refusals that every request shares -/

/-- R173, R174, R185: no request is taken while the outbound queue is full or after a RESET was taken; a request of an unknown
kind is refused with UNKNOWN, and one of a wrong length with BAD_LENGTH, and neither changes anything but the two queues. The
model's own: each row takes a head of its own kind alone, UNKNOWN_REQUEST none of a known kind (log entry 1); a row that finds no
request to take changes nothing (log entry 2); and either HALT row takes a HALT of a wrong length, and none of the other mode (log
entry 27). -/
def Obligations.RequestsWaitOrAreRefused : Prop :=
  ∀ (s : State) (row : Instr × Byte × Nat) (kind tag : Byte) (body : List Byte),
    (s.resetHeld = false → (8 ≤ s.link.outbound.length ∨ s.link.resetTaken = true ∨ s.link.inbound = []) →
        (row ∈ quietRequests ∨ row.1 = .unknownRequest → exec row.1 s = .next (closeEvent s))
          ∧ (row ∈ actingRequests → exec row.1 s = .next (finish false s s)))
      ∧ (Takes s kind tag body → kind ≠ row.2.1 →
        (row ∈ quietRequests → exec row.1 s = .next (closeEvent s))
          ∧ (row ∈ actingRequests → exec row.1 s = .next (finish false s s)))
      ∧ (Takes s 0x0E tag [1] → exec .haltImmediate s = .next (finish false s s))
      ∧ (Takes s 0x0E tag [0] → exec .haltAtBoundary s = .next (finish false s s))
      ∧ (Takes s kind tag body →
        (kind.toNat = 0 ∨ 0x16 ≤ kind.toNat → exec .unknownRequest s = .next (closeEvent (s.replied kind tag [4])))
          ∧ (1 ≤ kind.toNat → kind.toNat ≤ 0x15 → exec .unknownRequest s = .next (closeEvent s))
          ∧ (row ∈ quietRequests → kind = row.2.1 → body.length ≠ row.2.2 →
              exec row.1 s = .next (closeEvent (s.replied kind tag [3])))
          ∧ (row ∈ actingRequests → kind = row.2.1 → body.length ≠ row.2.2 →
              exec row.1 s = .next (finish false s (s.replied kind tag [3]))))

/-! ## Requests that read -/

/-- R26, R28, R122, R174, R175, R180, R182: the requests that read are answered with the fields of R175 as they stand, and change
nothing but the two queues; a lane, index, bearer or group outside its range is refused with BAD_VALUE. READ_COUNTS returns every
count of the named group, 4 bytes each, most significant first; with clear YES the group becomes 0 in the same event, and the
other groups stay. -/
def Obligations.ReadingRequestsAnswer : Prop :=
  ∀ (s : State) (tag c code clear : Byte) (l : Lane) (i : Fin 16) (b : Bearer) (g : CountGroup),
    (Takes s 0x01 tag [] → exec .identify s = .next (closeEvent (s.replied 0x01 tag [0, 0x53, 0xA4, 0x01, 0xA1, 1, 1])))
      ∧ (Takes s 0x02 tag [] → exec .getStatus s = .next (closeEvent (s.replied 0x02 tag (0 :: statusResult s))))
      ∧ (Takes s 0x04 tag [codeOfLane l] →
          exec .getLane s = .next (closeEvent (s.replied 0x04 tag
            (0 :: (laneBody l (s.lanes.get l).profile).drop 1 ++ out16 (s.lanes.get l).queue.length))))
      ∧ (Takes s 0x04 tag [c] → 4 ≤ c.toNat → exec .getLane s = .next (closeEvent (s.replied 0x04 tag [2])))
      ∧ (Takes s 0x06 tag [BitVec.ofNat 8 i.val] →
          exec .getClass s = .next (closeEvent (s.replied 0x06 tag (0 :: classResult i (s.classMap.get i)))))
      ∧ (Takes s 0x06 tag [c] → 16 ≤ c.toNat → exec .getClass s = .next (closeEvent (s.replied 0x06 tag [2])))
      ∧ (Takes s 0x08 tag [codeOfBearer (some b)] →
          exec .getJudge s = .next (closeEvent (s.replied 0x08 tag (0 :: judgeResult b (s.judge b).settings))))
      ∧ (Takes s 0x08 tag [c] → c ≠ 1 → c ≠ 2 → exec .getJudge s = .next (closeEvent (s.replied 0x08 tag [2])))
      ∧ (Takes s 0x11 tag [] → exec .readEvents s = .next (closeEvent (s.replied 0x11 tag (0 :: eventsResult s))))
      ∧ (Takes s 0x14 tag [code, clear] →
        (code = (match g with
            | .lane => 0
            | .carry => 1
            | .probe => 2
            | .module => 3
            | .link => 4) → (clear = 0 ∨ clear = 1) →
            exec .readCounts s = .next (closeEvent { s.replied 0x14 tag (0 :: (s.counts.inOrder g).flatMap fun n =>
                bytesOf32 (BitVec.ofNat 32 n)) with
              counts := if clear = 0 then s.counts else
                match g with
                | .lane => { s.counts with lane := .zero }
                | .carry => { s.counts with carry := .zero }
                | .probe => { s.counts with probeFibre := .zero, probeRadio := .zero }
                | .module => { s.counts with module := .zero }
                | .link => { s.counts with link := .zero } }))
          ∧ (5 ≤ code.toNat ∨ 2 ≤ clear.toNat → exec .readCounts s = .next (closeEvent (s.replied 0x14 tag [2]))))

/-- R175, R136, R177, R179, R182: the fields of GET_STATUS stand at these places, in 38 bytes; those of READ_EVENTS, in 8 bytes:
the flags, the six conditions, the mask and the attention mode; the counts of each group in the reply order of R182; and the
number of each flag is its place in the table of R177. -/
def Obligations.ReplyFieldsStandInOrder : Prop :=
  ∀ s : State,
    let r := statusResult s
    let events := eventsResult s
    let lane : LaneCounts → List Nat := fun c => [c.accepted, c.sent, c.barred, c.overflow, c.aged, c.delivered]
    let carry := s.counts.carry
    let probe : ProbeCounts → List Nat := fun c => [c.sent, c.answered, c.late, c.stray, c.lost]
    r.length = 38
      ∧ byteAt r 0 = (match s.selector.status with
          | .stopped => 0
          | .outage => 1
          | .on .fibre => 2
          | .on .radio => 3
          | .draining _ => 4)
      ∧ byteAt r 1 = (match s.selector.pin with
          | .auto => 0
          | .only .fibre => 1
          | .only .radio => 2)
      ∧ byteAt r 2 = (match s.active with
          | none => 0
          | some .fibre => 1
          | some .radio => 2)
      ∧ byteAt r 3 = (match s.session.status with
          | .closed => 0
          | .opening => 1
          | .opened => 2)
      ∧ word16At r 4 = s.session.epoch ∧ word16At r 6 = s.sender.n ∧ word16At r 8 = s.receiver.e
      ∧ byteAt r 10 = (if s.receiver.discard then 1 else 0)
      ∧ word16At r 11 = BitVec.ofNat 16 s.sender.store.length
      ∧ word16At r 13 = BitVec.ofNat 16 (2048 - storeCells s.sender.store)
      ∧ byteAt r 15 = (match s.radio.status with
          | .off => 0
          | .waking => 1
          | .searching => 2
          | .ready => 3
          | .releasing => 4
          | .resting => 5)
      ∧ byteAt r 16 = (match s.radio.lastReading with
          | none => 0
          | some level => BitVec.ofNat 8 level.natAbs)
      ∧ byteAt r 17 = (if s.fibreJudge.verdict = .up then 1 else 0) ∧ byteAt r 18 = (if s.radioJudge.verdict = .up then 1 else 0)
      ∧ byteAt r 19 = (if s.fibreJudge.suppressed then 1 else 0) ∧ byteAt r 20 = (if s.radioJudge.suppressed then 1 else 0)
      ∧ word16At r 21 = BitVec.ofNat 16 s.fibreJudge.penalty ∧ word16At r 23 = BitVec.ofNat 16 s.radioJudge.penalty
      ∧ word16At r 25 = (match s.fibreJudge.srtt with
          | none => 0xFFFF
          | some t => BitVec.ofNat 16 t)
      ∧ word16At r 27 = (match s.radioJudge.srtt with
          | none => 0xFFFF
          | some t => BitVec.ofNat 16 t)
      ∧ byteAt r 29 = (if s.selector.record.isSome then 1 else 0)
      ∧ (s.selector.record = none → r.drop 30 = List.replicate 8 0)
      ∧ (∀ h : HandoverRecord, s.selector.record = some h →
          byteAt r 30 = (match h.source with
              | none => 0
              | some .fibre => 1
              | some .radio => 2)
            ∧ byteAt r 31 = (match h.target with
              | .fibre => 1
              | .radio => 2)
            ∧ byteAt r 32 = (match h.kind with
              | .forced => 0
              | .planned => 1)
            ∧ word32At r 33 = h.start
            ∧ byteAt r 37 = (match h.outcome with
              | none => 0
              | some .done => 1
              | some .emptied => 2
              | some .expired => 3
              | some .sourceLost => 4
              | some .targetLost => 5
              | some .pinBack => 6
              | some .halted => 7))
      ∧ events.length = 8 ∧ word24At events 0 = s.events.flags.setWidth 24 ∧ word24At events 4 = s.events.mask.setWidth 24
      ∧ (byteAt events 3).getLsbD 0 = (s.fibreJudge.verdict == .down)
      ∧ (byteAt events 3).getLsbD 1 = (s.radioJudge.verdict == .down)
      ∧ (byteAt events 3).getLsbD 2 = s.fibreJudge.suppressed ∧ (byteAt events 3).getLsbD 3 = (s.selector.status == .outage)
      ∧ (byteAt events 3).getLsbD 4 = s.receiver.discard ∧ (byteAt events 3).getLsbD 5 = (s.radio.status == .resting)
      ∧ (byteAt events 3).getLsbD 6 = false ∧ (byteAt events 3).getLsbD 7 = false
      ∧ byteAt events 7 = (match s.events.mode with
          | .latch => 0
          | .follow => 1)
      ∧ s.counts.inOrder .lane = lane s.counts.lane.voice ++ lane s.counts.lane.signal ++ lane s.counts.lane.priority
          ++ lane s.counts.lane.bulk
      ∧ s.counts.inOrder .carry = [carry.sent, carry.resent, carry.voided, carry.tally, carry.received, carry.checkFailActive,
          carry.checkFailOther, carry.duplicate, carry.gap, carry.discarded, carry.staleEpoch, carry.ackInvalid,
          carry.rewindStreams, carry.replayPasses, carry.rewindFailures, carry.lostOnRestart, carry.homeOverflow,
          carry.stoppedDrop]
      ∧ s.counts.inOrder .probe = probe s.counts.probeFibre ++ probe s.counts.probeRadio
      ∧ s.counts.inOrder .module = [s.counts.module.stalls, s.counts.module.timeouts, s.counts.module.searchRounds,
          s.counts.module.faults]
      ∧ s.counts.inOrder .link = [s.counts.link.bad, s.counts.link.requestLost, s.counts.link.noticeLost]
      ∧ [EventFlag.started, .fibreUp, .fibreDown, .radioUp, .radioDown, .fibreSuppressed, .fibreReleased, .handover, .outageBegin,
          .outageEnd, .sessionOpen, .peerRestart, .receiveError, .rewindFailed, .staleVoided, .laneDrop, .moduleFault,
          .searchFailed, .requestLost].map EventFlag.number = List.range 19

/-! ## Bodies of the settings requests -/

/-- R21, R26, R27, R51, R104, R107, R115, R116, R122, R130, R171, R175: of the bodies of the six settings requests exactly those
are read whose every field lies in its range (R133, R134, R156 and section 7.1 among the ranges), each as the settings that write
it; the thresholds of SET_DAMPING are in order, and a concentrator address is an individual one or all ones. The fibre's signal
floor field is neither read nor tested, and the field that the model holds for it stays as it was (log entry 37). The result
fields of GET_CLASS are a body of SET_CLASS. -/
def Obligations.SettingsBodiesRoundTrip : Prop :=
  ∀ (body : List Byte) (l : Lane) (p : LaneProfile) (i : Fin 16) (e : ClassEntry) (old : Bearer → JudgeSettings)
    (v : JudgeSettings) (b : Bearer) (d : Damping) (w : CarrySettings) (m : ModuleSettings),
    (body.length = 9 →
        (readLaneBody body = some (l, p) ↔ body = laneBody l p ∧ 1 ≤ p.limit ∧ p.limit ≤ 512 ∧ p.maxAge ≤ 60000))
      ∧ (body.length = 6 → (readClassBody body = some (i, e) ↔ body = classResult i e))
      ∧ (body.length = 10 →
        (readJudgeBody old body = some (.radio, v) ↔
          body = judgeResult .radio v ∧ 200 ≤ v.interval ∧ v.interval ≤ 5000 ∧ 1 ≤ v.window ∧ v.window ≤ 64
            ∧ v.tolerance ≤ v.window ∧ v.riseWindows ≤ 255 ∧ 1 ≤ v.riseRun ∧ v.riseRun ≤ 1000 ∧ 1 ≤ v.fallRun ∧ v.fallRun ≤ 255
            ∧ -140 ≤ v.floor ∧ v.floor ≤ -44)
          ∧ (readJudgeBody old body = some (.fibre, v) ↔
            body.take 9 = (judgeResult .fibre v).take 9 ∧ 10 ≤ v.interval ∧ v.interval ≤ 1000 ∧ 1 ≤ v.window ∧ v.window ≤ 64
              ∧ v.tolerance ≤ v.window ∧ v.riseWindows ≤ 255 ∧ 1 ≤ v.riseRun ∧ v.riseRun ≤ 1000 ∧ 1 ≤ v.fallRun
              ∧ v.fallRun ≤ 255 ∧ v.floor = (old .fibre).floor))
      ∧ (body.length = 12 →
        (readDampingBody body = some (b, d) ↔
          body = dampingBody b d ∧ d.step ≤ 8000 ∧ 1000 ≤ d.ceiling ∧ d.ceiling ≤ 20000 ∧ 1 ≤ d.suppress
            ∧ d.suppress ≤ d.ceiling ∧ d.reuse < d.suppress ∧ 1 ≤ d.factor ∧ d.factor ≤ 255 ∧ 1 ≤ d.period ∧ d.period ≤ 600))
      ∧ (body.length = 19 →
        (readCarryBody body = some w ↔
          body = carryBody w ∧ (w.address = 0xFFFFFFFFFFFF#48 ∨ w.address.getLsbD 40 = false) ∧ 0x0600 ≤ w.frameType.toNat
            ∧ 1 ≤ w.nTx ∧ w.nTx ≤ 63 ∧ 1 ≤ w.mRx ∧ w.mRx ≤ 31 ∧ 1 ≤ w.rewindLimit ∧ w.rewindLimit ≤ 15
            ∧ 1 ≤ w.resendLimit ∧ w.resendLimit ≤ 255 ∧ 1 ≤ w.tallyDelay ∧ w.tallyDelay ≤ 100 ∧ w.rewindMargin ≤ 1000
            ∧ w.drainMargin ≤ 5000 ∧ w.returnHold ≤ 3600))
      ∧ (body.length = 17 →
        (readModuleBody body = some m ↔
          body = moduleBody m ∧ 2 ≤ m.wakeLimit ∧ m.wakeLimit ≤ 60 ∧ 5 ≤ m.searchRound ∧ m.searchRound ≤ 120
            ∧ 1 ≤ m.searchRounds ∧ m.searchRounds ≤ 15 ∧ 10 ≤ m.rest ∧ m.rest ≤ 3600 ∧ m.linger ≤ 3600 ∧ m.pollStart ≤ 1000
            ∧ 1 ≤ m.readyLimit ∧ m.readyLimit ≤ 200 ∧ 1 ≤ m.stallLimit ∧ m.stallLimit ≤ 15 ∧ 64 ≤ m.paceRate
            ∧ m.paceRate ≤ 100000))

/-! ## Requests that write settings -/

/-- R28: SET_LANE is refused with BUSY while DRAINING, then with BAD_VALUE, then with LIMIT when the four limits would sum above
512; else it replaces the profile at once and trims the lane to a limit below its occupancy: DROP_NEW keeps the oldest frames,
DROP_OLD the newest, each frame given up counts LANE overflow, and LANE_DROP is reported. An accepted one is a dispatch
opportunity (R32), so its event ends with both ports served. That the reply takes its place before the notice of LANE_DROP is the
model's choice (log entry 9), and LANE_DROP is reported once for all of them (log entry 36). -/
def Obligations.SetLaneWritesAndTrims : Prop :=
  ∀ (s : State) (tag : Byte) (body : List Byte) (l : Lane) (p : LaneProfile),
    Takes s 0x03 tag body → body.length = 9 →
      (s.draining = true → exec .setLane s = .next (finish false s (s.replied 0x03 tag [1])))
        ∧ (s.draining = false → readLaneBody body = none → exec .setLane s = .next (finish false s (s.replied 0x03 tag [2])))
        ∧ (s.draining = false → readLaneBody body = some (l, p) →
            let others := (match l with
              | .voice => s.lanes.signal.profile.limit + s.lanes.priority.profile.limit + s.lanes.bulk.profile.limit
              | .signal => s.lanes.voice.profile.limit + s.lanes.priority.profile.limit + s.lanes.bulk.profile.limit
              | .priority => s.lanes.voice.profile.limit + s.lanes.signal.profile.limit + s.lanes.bulk.profile.limit
              | .bulk => s.lanes.voice.profile.limit + s.lanes.signal.profile.limit + s.lanes.priority.profile.limit)
            let queue := (s.lanes.get l).queue
            let given := queue.length - p.limit
            let kept := (match p.policy with
              | .dropNew => queue.take p.limit
              | .dropOld => queue.drop given)
            let replied := s.replied 0x03 tag [0]
            let written := State.countLane l (fun c => { c with overflow := min (c.overflow + given) 4294967295 })
              { replied with lanes := s.lanes.set l ⟨p, kept⟩ }
            (512 < others + p.limit → exec .setLane s = .next (finish false s (s.replied 0x03 tag [7])))
              ∧ (others + p.limit ≤ 512 →
                exec .setLane s = .next (finish true s (if given = 0 then written else report .laneDrop written))))

/-- R26, R51, R90, R122, R171, R180, R185: SET_CLASS writes one entry; SET_JUDGE one bearer's settings, a changed W putting the
running interval outside every window; SET_CARRY and SET_MODULE, in STOPPED alone, all their settings, SET_CARRY clearing the four
mark counters. A body out of range is refused with BAD_VALUE, after BUSY for SET_JUDGE and WRONG_STATE for the other two.
CLEAR_EVENTS clears the flags of its set, SET_ALERT replaces the mask and the attention mode, the numbers 19 to 23 of a set being
ignored; RESET closes the request handler. -/
def Obligations.SettingsAndEventRequestsWrite : Prop :=
  ∀ (s : State) (tag x y z mode : Byte) (body : List Byte) (i : Fin 16) (e : ClassEntry) (b : Bearer) (j : JudgeSettings)
    (v : CarrySettings) (m : ModuleSettings),
    (Takes s 0x05 tag body → body.length = 6 →
        (readClassBody body = none → exec .setClass s = .next (closeEvent (s.replied 0x05 tag [2])))
          ∧ (readClassBody body = some (i, e) →
            exec .setClass s = .next (closeEvent { s.replied 0x05 tag [0] with classMap := s.classMap.set i.val e })))
      ∧ (Takes s 0x07 tag body → body.length = 10 →
        (s.draining = true → exec .setJudge s = .next (closeEvent (s.replied 0x07 tag [1])))
          ∧ (s.draining = false → readJudgeBody (fun b => (s.judge b).settings) body = none →
            exec .setJudge s = .next (closeEvent (s.replied 0x07 tag [2])))
          ∧ (s.draining = false → readJudgeBody (fun b => (s.judge b).settings) body = some (b, j) →
            exec .setJudge s = .next (closeEvent ((s.replied 0x07 tag [0]).mapJudge b fun k =>
              if j.window = k.settings.window then { k with settings := j }
              else { k with settings := j, tally := 0, position := 0, noWindow := k.timer.isSome }))))
      ∧ (Takes s 0x0A tag body → body.length = 19 →
        (s.selector.status ≠ .stopped → exec .setCarry s = .next (closeEvent (s.replied 0x0A tag [6])))
          ∧ (s.selector.status = .stopped → readCarryBody body = none →
            exec .setCarry s = .next (closeEvent (s.replied 0x0A tag [2])))
          ∧ (s.selector.status = .stopped → readCarryBody body = some v →
            exec .setCarry s = .next (closeEvent { s.replied 0x0A tag [0] with
              carry := v
              receiver := { s.receiver with marksFibre := ⟨0, 0⟩, marksRadio := ⟨0, 0⟩ } })))
      ∧ (Takes s 0x0B tag body → body.length = 17 →
        (s.selector.status ≠ .stopped → exec .setModule s = .next (closeEvent (s.replied 0x0B tag [6])))
          ∧ (s.selector.status = .stopped → readModuleBody body = none →
            exec .setModule s = .next (closeEvent (s.replied 0x0B tag [2])))
          ∧ (s.selector.status = .stopped → readModuleBody body = some m →
            exec .setModule s = .next (closeEvent { s.replied 0x0B tag [0] with
              radio := { s.radio with settings := m } })))
      ∧ (Takes s 0x12 tag [x, y, z] →
        exec .clearEvents s = .next (closeEvent { s.replied 0x12 tag [0] with
          events := { s.events with flags := s.events.flags &&& ~~~((x ++ y ++ z).extractLsb' 0 19) } }))
      ∧ (Takes s 0x13 tag [x, y, z, mode] →
        (2 ≤ mode.toNat → exec .setAlert s = .next (closeEvent (s.replied 0x13 tag [2])))
          ∧ (mode.toNat ≤ 1 → exec .setAlert s = .next (closeEvent { s.replied 0x13 tag [0] with
            events := { s.events with
              mask := (x ++ y ++ z).extractLsb' 0 19
              mode := if mode = 0 then .latch else .follow } })))
      ∧ (Takes s 0x15 tag [] →
        exec .reset s = .next (closeEvent { s.replied 0x15 tag [0] with
          link := { (s.replied 0x15 tag [0]).link with resetTaken := true } }))

/-- R130, R128: SET_DAMPING is refused with BUSY while DRAINING, then with BAD_VALUE; else it replaces the bearer's parameters,
clamps P to the new ceiling, tests suppression against the new levels, and restarts a running decay clock when the decay period
changes. Where the suppression state stays, nothing else changes. Of a lawful state, a bearer that is UP and whose eligibility so
changes, as the fibre's does not under a pin of FIBRE, goes to the selector (R121, R128): released in OUTAGE it is taken where the
pin permits it (R141), suppressed while active it is left (R142, R143), and a suppressed fibre stops the return hold (R145), whose
start is left to ReturnHoldStarts. Otherwise the selector stays as it is. -/
def Obligations.SetDampingWrites : Prop :=
  ∀ (s : State) (tag : Byte) (body : List Byte) (b : Bearer) (d : Damping),
    Takes s 0x09 tag body → body.length = 12 →
      (s.draining = true → exec .setDamping s = .next (finish false s (s.replied 0x09 tag [1])))
        ∧ (s.draining = false → readDampingBody body = none →
          exec .setDamping s = .next (finish false s (s.replied 0x09 tag [2])))
        ∧ (s.draining = false → readDampingBody body = some (b, d) →
          let p := min (s.judge b).penalty d.ceiling
          let held := if (s.judge b).suppressed then decide (d.reuse < p) else decide (d.suppress ≤ p)
          let clock := if d.period = (s.judge b).damping.period then (s.judge b).decay
            else (s.judge b).decay.map fun _ => s.clock + d.period * 1000000
          (held = (s.judge b).suppressed →
              exec .setDamping s = .next (finish false s ((s.replied 0x09 tag [0]).mapJudge b fun j =>
                { j with damping := d, penalty := p, decay := clock })))
            ∧ ∃ t, exec .setDamping s = .next t ∧ (t.judge b).damping = d ∧ (t.judge b).penalty = p
              ∧ (t.judge b).suppressed = held ∧ (t.judge b).decay = clock
              ∧ (t.judge b.other).damping = (s.judge b.other).damping
              ∧ (t.judge b.other).suppressed = (s.judge b.other).suppressed
              ∧ (held = true → (s.judge .fibre).suppressed = false → b = .fibre → t.events.flags.getLsbD 5 = true)
              ∧ (held = false → (s.judge .fibre).suppressed = true → b = .fibre → t.events.flags.getLsbD 6 = true)
              ∧ (Lawful s →
                let changes : Prop := held ≠ (s.judge b).suppressed ∧ (s.judge b).verdict = .up
                  ∧ ¬(b = .fibre ∧ s.selector.pin = .only .fibre)
                let taken : Prop := changes ∧ held = false ∧ s.selector.status = .outage ∧ s.selector.pin.permits b = true
                let left : Prop := changes ∧ held = true ∧ s.selector.status = .on b
                let hold : Prop := changes ∧ b = .fibre ∧ s.selector.status = .on .radio ∧ s.selector.pin = .auto
                (taken → TakenFromOutage b t) ∧ (left → ActiveLeft b s t)
                  ∧ (hold → held = true → t.selector = { s.selector with holdTimer := none })
                  ∧ (¬taken → ¬left → ¬hold → t.selector = s.selector)))

/-- R35, R155, R160, R161, R162, R164: SET_SUPPLY sets the supply, which the battery bars read at once, and works the wanted level
out: on the fibre it is ACTIVE exactly under a standby of HOT on MAINS. Where the wanted level stays, nothing else changes. A
changed level is handed to the module controller: ACTIVE wakes a module that is OFF; in READY with no command outstanding ACTIVE
stops the linger timer, and NONE starts one that does not run, while no release is due, or with a linger of 0 s releases the module
at once; and in every other case the level is held, and the module goes on as it was. -/
def Obligations.SetSupplyWrites : Prop :=
  ∀ (s : State) (tag c : Byte),
    Takes s 0x0C tag [c] →
      (2 ≤ c.toNat → exec .setSupply s = .next (finish false s (s.replied 0x0C tag [2])))
        ∧ (c.toNat ≤ 1 →
          let supply := if c = 0 then Supply.mains else Supply.battery
          let level := match s.selector.status with
            | .stopped => WantedLevel.none
            | .outage => if s.selector.pin = .only .fibre then WantedLevel.none else .active
            | .on .fibre => if s.radio.settings.standby = .hot ∧ c = 0 then .active else .none
            | .on .radio => .active
            | .draining _ => .active
          (s.selector.wanted = level →
              exec .setSupply s =
                .next (finish false s { s.replied 0x0C tag [0] with lanes := { s.lanes with supply := supply } }))
            ∧ ∃ t, exec .setSupply s = .next t ∧ t.lanes.supply = supply ∧ t.selector.wanted = level
              ∧ (s.selector.wanted ≠ level →
                let held : Radio := { s.radio with wantedHeld := level }
                let module : Radio := { t.radio with
                  leaving := s.radio.leaving
                  held := s.radio.held
                  handshake := s.radio.handshake }
                let wakes : Prop := s.radio.status = .off ∧ level = .active
                let acts : Prop := s.radio.status = .ready ∧ s.radio.outstanding = none
                let starts : Prop := acts ∧ level = .none ∧ s.radio.linger = none ∧ s.radio.releaseDue = false
                t.radio.wantedHeld = level
                  ∧ (wakes → module = { held with
                      status := .waking
                      modPwr := true
                      outstanding := some ⟨.powerUp, s.clock + s.radio.settings.wakeLimit * 1000000⟩ })
                  ∧ (acts → level = .active → module = { held with linger := none })
                  ∧ (starts → s.radio.settings.linger ≠ 0 →
                    module = { held with linger := some (s.clock + s.radio.settings.linger * 1000000) })
                  ∧ (starts → s.radio.settings.linger = 0 →
                    t.radio.status = .releasing ∧ t.radio.cause = some .linger
                      ∧ t.radio.outstanding = some ⟨.detach, s.clock + 2000000⟩ ∧ t.radio.linger = none ∧ t.radio.held = none
                      ∧ t.radioJudge.timer = none ∧ t.radioJudge.verdict = .down ∧ t.sender.waitingRadio = [])
                  ∧ (¬wakes → ¬(acts ∧ level = .active) → ¬starts → module = held))
              ∧ t.selector.status = s.selector.status ∧ t.selector.record = s.selector.record ∧ t.session = s.session
              ∧ t.receiver = s.receiver ∧ t.home = s.home)

/-! ## Requests that act on the path selector, and the selector's timers -/

/-- R138, R107, R109, R126, R155, R160: START outside STOPPED is refused with WRONG_STATE; in STOPPED it enters OUTAGE, begins
judging the fibre, and the radio when the module is READY, starts both decay clocks, reports OUTAGE_BEGIN, and makes the radio
wanted unless the pin is FIBRE, which wakes a module that is OFF. Each interval that starts has its PROBE leaving or waiting. That a
READY module's first SIGNAL goes out before the wanted level is handed over, so that a linger timer runs on until that SIGNAL
completes, is the model's reading (log entry 41). -/
def Obligations.StartBeginsCarrying : Prop :=
  ∀ (s : State) (tag : Byte),
    Takes s 0x0D tag [] →
      (s.selector.status ≠ .stopped → exec .start s = .next (finish false s (s.replied 0x0D tag [6])))
        ∧ (s.selector.status = .stopped → s.selector.wanted = .none →
          let level := if s.selector.pin = .only .fibre then WantedLevel.none else .active
          ∃ t, exec .start s = .next t
            ∧ t.selector = { s.selector with status := .outage, wanted := level }
            ∧ t.events.flags.getLsbD 8 = true
            ∧ t.fibreJudge.timer = some (s.clock + s.fibreJudge.settings.interval * 1000) ∧ t.fibreJudge.count = 1
            ∧ t.fibreJudge.verdict = .down ∧ t.fibreJudge.srtt = none
            ∧ t.fibreJudge.tag = (if s.fibre.linkUp then s.fibreJudge.tag + 1 else s.fibreJudge.tag)
            ∧ (s.fibre.linkUp = true → ProbeDueOn .fibre s.fibreJudge.tag 1 t)
            ∧ t.fibreJudge.penalty = s.fibreJudge.penalty ∧ t.fibreJudge.suppressed = s.fibreJudge.suppressed
            ∧ t.fibreJudge.decay = some (s.clock + s.fibreJudge.damping.period * 1000000)
            ∧ t.radioJudge.decay = some (s.clock + s.radioJudge.damping.period * 1000000)
            ∧ (s.radio.status = .ready →
              t.radioJudge.timer = some (s.clock + s.radioJudge.settings.interval * 1000) ∧ t.radioJudge.count = 1
                ∧ t.radioJudge.verdict = .down ∧ t.radioJudge.tag = s.radioJudge.tag + 1
                ∧ ProbeDueOn .radio s.radioJudge.tag 1 t
                ∧ (s.radio.outstanding = none →
                  t.radio.outstanding = some ⟨.signal, s.clock + 2000000⟩ ∧ t.radio.linger = s.radio.linger))
            ∧ (s.radio.status ≠ .ready → t.radioJudge.timer = s.radioJudge.timer ∧ t.radioJudge.count = s.radioJudge.count)
            ∧ (s.radio.status = .off → level = .active →
              t.radio.status = .waking ∧ t.radio.modPwr = true
                ∧ t.radio.outstanding = some ⟨.powerUp, s.clock + s.radio.settings.wakeLimit * 1000000⟩)
            ∧ t.session = s.session ∧ t.receiver = s.receiver ∧ t.home = s.home ∧ t.lanes = s.lanes
            ∧ t.sender.n = s.sender.n ∧ t.sender.store = s.sender.store)

/-- R139, R63, R85, R94, R101, R108, R126: HALT in STOPPED changes nothing, and another mode is BAD_VALUE; in any other state the
selector enters STOPPED, a drain's record takes HALTED, judging ends and both judges are reset, the penalties and suppressions
stay, and the pass, the pending streams and the timers end; the session, the store, E, N, the discard state, the lanes and the pin
stay. IMMEDIATE cuts the mark stream and a frame that is leaving; AT_BOUNDARY lets both complete. The waiting OPEN, PROBE and TALLY
of both bearers are abandoned and a waiting ECHO stays: behind a port that is not free, or a stream, it waits on, and a free port
starts it at the end of the event (R55; its bearer field is the PROBE's, log entry 24). Both modes keep the data handshake (R171),
which only an ECHO or a mark that then starts at a free module port, or a linger of 0 s that releases the module, moves on. That
either row takes a HALT of another mode is log entry 27. -/
def Obligations.HaltStopsCarrying : Prop :=
  ∀ (s : State) (tag mode : Byte) (c : Instr),
    let cut : State := if mode = 0 then { s with
        fibre := { s.fibre with leaving := none }
        radio := { s.radio with leaving := none }
        sender := { s.sender with stream := none } } else s
    Takes s 0x0E tag [mode] → (c = .haltImmediate ∧ mode ≠ 1) ∨ (c = .haltAtBoundary ∧ mode ≠ 0) →
      (2 ≤ mode.toNat → exec c s = .next (finish false s (s.replied 0x0E tag [2])))
        ∧ (mode.toNat ≤ 1 → s.selector.status = .stopped → exec c s = .next (finish false s (s.replied 0x0E tag [0])))
        ∧ (mode.toNat ≤ 1 → s.selector.status ≠ .stopped →
          ∃ t, exec c s = .next t
            ∧ t.selector = { status := .stopped, pin := s.selector.pin, drainTimer := none, holdTimer := none, wanted := .none
                             record := if s.draining then s.selector.record.map (fun r => { r with outcome := some .halted })
                               else s.selector.record }
            ∧ t.pause.selector = true ∧ t.pause.pass = false
            ∧ t.fibreJudge.timer = none ∧ t.fibreJudge.verdict = .down ∧ t.fibreJudge.decay = none
            ∧ t.fibreJudge.table = [] ∧ t.fibreJudge.srtt = none
            ∧ t.fibreJudge.penalty = s.fibreJudge.penalty ∧ t.fibreJudge.suppressed = s.fibreJudge.suppressed
            ∧ t.radioJudge.timer = none ∧ t.radioJudge.verdict = .down ∧ t.radioJudge.decay = none
            ∧ t.radioJudge.table = [] ∧ t.radioJudge.srtt = none
            ∧ t.radioJudge.penalty = s.radioJudge.penalty ∧ t.radioJudge.suppressed = s.radioJudge.suppressed
            ∧ (s.fibreJudge.verdict = .up → t.events.flags.getLsbD 2 = true)
            ∧ (s.radioJudge.verdict = .up → t.events.flags.getLsbD 4 = true)
            ∧ t.session = { s.session with retry := none } ∧ t.receiver = { s.receiver with rewindTimer := none }
            ∧ t.sender.n = s.sender.n ∧ t.sender.store = s.sender.store ∧ t.sender.pass = .none ∧ t.sender.cursor = none
            ∧ t.sender.rewindPending = false ∧ t.sender.announcePending = false ∧ t.sender.passOwed = false
            ∧ t.sender.tallyOwed = false ∧ t.sender.tallyTimer = none
            ∧ t.lanes = s.lanes ∧ t.home = s.home ∧ t.clock = s.clock
            ∧ (s.radio.settings.linger ≠ 0 →
                s.radio.handshake ≠ .free ∨ (s.sender.waitingRadio.any WaitingFrame.isEcho = false
                  ∧ (mode = 0 ∨ ∀ m ∈ s.sender.stream, m.bearer = .fibre)) →
                t.radio.handshake = s.radio.handshake ∧ t.radio.held = s.radio.held ∧ t.radio.stallCount = s.radio.stallCount)
            ∧ (∀ b : Bearer, b = .fibre ∨ s.radio.settings.linger ≠ 0 →
                let echoes := (s.waiting b).filter WaitingFrame.isEcho
                (cut.portFree b = false ∨ (∃ m ∈ cut.sender.stream, m.bearer = b ∧ m.stopping = false) → t.waiting b = echoes)
                  ∧ (cut.portFree b = true → (∀ m ∈ cut.sender.stream, m.bearer ≠ b) →
                    t.waiting b = echoes.drop 1
                      ∧ (match echoes.head? with
                        | some (.echo probeTag bearer epoch) =>
                          FrameStarts b ⟨1, 8, 0, false, false, false, bearer, probeTag, epoch, 0, s.receiver.e, 0, []⟩ s t
                        | _ => t.leaving b = none)))
            ∧ (mode = 0 → t.sender.stream = none
                ∧ (s.sender.waitingFibre.any WaitingFrame.isEcho = false → t.fibre.leaving = none)
                ∧ (s.sender.waitingRadio.any WaitingFrame.isEcho = false → t.radio.leaving = none))
            ∧ (mode = 1 → (s.radio.settings.linger ≠ 0 ∨ (∀ m ∈ s.sender.stream, m.bearer = .fibre) →
                  t.sender.stream = s.sender.stream)
                ∧ (s.fibre.leaving.isSome = true → t.fibre.leaving = s.fibre.leaving)
                ∧ (s.radio.leaving.isSome = true → t.radio.leaving = s.radio.leaving)))

/-- R146, R121, R137, R141, R142, R148, R150, R152: PIN with another value is BAD_VALUE, and with the target of a drain BUSY. Of a
lawful state: the pin is set, the fibre's eligibility is worked out afresh, for under a pin of FIBRE a suppressed fibre that is UP
is eligible and under the others it is not, and the selector goes where the table of R146 says. A fibre that stops being eligible
while it is active is left at once, and a drain to it ends with TARGET_LOST; a drain ends with PIN_BACK when the pin names its
source, before the fibre's eligibility is worked out (log entry 33). A return hold of 0 s that a PIN of AUTO in
ON_RADIO starts, and with it a drain, is left to ReturnHoldStarts. -/
def Obligations.PinMovesTheSelector : Prop :=
  ∀ (s : State) (tag c : Byte) (p : PinValue) (b : Bearer),
    Takes s 0x0F tag [c] →
      (3 ≤ c.toNat → exec .pin s = .next (finish false s (s.replied 0x0F tag [2])))
        ∧ (pinOfCode c = some (.only b.other) → s.selector.status = .draining b →
          exec .pin s = .next (finish false s (s.replied 0x0F tag [1])))
        ∧ (pinOfCode c = some p → Lawful s →
          let fibreUp : Bool := s.fibreJudge.verdict == .up && (!s.fibreJudge.suppressed || p == .only .fibre)
          let radioUp : Bool := s.radioJudge.verdict == .up && !s.radioJudge.suppressed
          let up : Bearer → Bool := fun d => if d = .fibre then fibreUp else radioUp
          (s.selector.status = .stopped →
              exec .pin s = .next (finish false s { s.replied 0x0F tag [0] with selector := { s.selector with pin := p } }))
            ∧ (s.selector.status = .on .fibre → fibreUp = false →
              ∃ t, exec .pin s = .next t ∧ t.selector.pin = p ∧ t.fibreJudge.handed = false
                ∧ (radioUp = true → t.selector.status = .on .radio ∧ t.selector.holdTimer = none
                  ∧ t.selector.record = some ⟨some .fibre, .radio, .forced, s.ms, some .done⟩ ∧ t.events.flags.getLsbD 7 = true)
                ∧ (radioUp = false → t.selector.status = .outage ∧ t.events.flags.getLsbD 8 = true))
            ∧ (p = .only b.other → s.selector.status = .on b → b = .radio ∨ fibreUp = true →
              ∃ t, exec .pin s = .next t ∧ t.selector.pin = p ∧ t.fibreJudge.handed = fibreUp
                ∧ (up b.other = false → t.selector.status = .outage ∧ t.events.flags.getLsbD 8 = true)
                ∧ (up b.other = true → s.sender.store ≠ [] →
                  t.selector.status = .draining b
                    ∧ t.selector.record = some ⟨some b, b.other, .planned, s.ms, none⟩)
                ∧ (up b.other = true → s.sender.store = [] →
                  t.selector.status = .on b.other
                    ∧ t.selector.record = some ⟨some b, b.other, .planned, s.ms, some .emptied⟩))
            ∧ (s.selector.status = .on b → (p = .auto ∨ p = .only b) → b = .radio ∨ fibreUp = true →
              s.carry.returnHold ≠ 0 ∨ s.selector.holdTimer.isSome = true ∨ b = .fibre ∨ p ≠ .auto ∨ fibreUp = false →
              ∃ t, exec .pin s = .next t ∧ t.selector.pin = p ∧ t.selector.status = .on b
                ∧ t.selector.record = s.selector.record ∧ t.fibreJudge.handed = fibreUp
                ∧ t.selector.holdTimer = (if b = .radio ∧ p = .auto ∧ fibreUp = true then
                    (if s.selector.holdTimer.isSome then s.selector.holdTimer
                      else some (s.clock + s.carry.returnHold * 1000000))
                  else none))
            ∧ (s.selector.status = .outage →
              let takes : Bearer → Bool := fun d => up d && (p == .auto || p == .only d)
              ∃ t, exec .pin s = .next t ∧ t.selector.pin = p ∧ t.fibreJudge.handed = fibreUp
                ∧ (takes .fibre = true → t.selector.status = .on .fibre
                  ∧ t.selector.record = some ⟨none, .fibre, .forced, s.ms, some .done⟩)
                ∧ (takes .fibre = false → takes .radio = true → t.selector.status = .on .radio
                  ∧ t.selector.record = some ⟨none, .radio, .forced, s.ms, some .done⟩)
                ∧ (takes .fibre = false → takes .radio = false → t.selector.status = .outage))
            ∧ (s.selector.status = .draining b → p ≠ .only b.other →
              ∃ t, exec .pin s = .next t ∧ t.selector.pin = p ∧ t.fibreJudge.handed = fibreUp
                ∧ (p = .auto → fibreUp = true → t.selector.status = .draining b ∧ t.selector.drainTimer = s.selector.drainTimer
                  ∧ t.selector.record = s.selector.record)
                ∧ (p = .auto → fibreUp = false → t.selector.status = .on b ∧ t.selector.drainTimer = none
                  ∧ t.selector.record = s.selector.record.map (fun r => { r with outcome := some .targetLost }))
                ∧ (p = .only b → t.selector.status = .on b ∧ t.selector.drainTimer = none
                  ∧ t.selector.record = s.selector.record.map (fun r => { r with outcome := some .pinBack }))))

/-- R147, R148, R149, R145, R134: HANDOVER_NOW is refused with BUSY while DRAINING, WRONG_STATE outside ON_FIBRE and ON_RADIO, and
NOT_ELIGIBLE when the other bearer may not be taken; accepted, and at the expiry of the return hold on the radio, a drain starts
with its record, its limit and the lanes paused, and switches at once with EMPTIED when the store is empty. At an expiry the clock
is at the moment it fell due or past it (log entry 4), and an expiry of a stopped hold changes nothing (log entry 2). A return
hold of 0 s, which under a pin of AUTO turns back from the radio, is left to ReturnHoldStarts. -/
def Obligations.PlannedHandoverStarts : Prop :=
  ∀ (s : State) (tag : Byte) (b : Bearer) (c : Instr) (due : Nat),
    (Takes s 0x10 tag [] →
        (s.draining = true → exec .handoverNow s = .next (finish false s (s.replied 0x10 tag [1])))
          ∧ (s.selector.status = .stopped ∨ s.selector.status = .outage →
            exec .handoverNow s = .next (finish false s (s.replied 0x10 tag [6])))
          ∧ (s.selector.status = .on b → s.mayTake b.other = false →
            exec .handoverNow s = .next (finish false s (s.replied 0x10 tag [5]))))
      ∧ (s.resetHeld = false → s.selector.holdTimer = none → exec .returnHoldExpiry s = .next (finish false s s))
      ∧ ((c = .handoverNow ∧ Takes s 0x10 tag [] ∧ s.selector.status = .on b ∧ s.mayTake b.other = true ∧ due = s.clock)
          ∨ (c = .returnHoldExpiry ∧ s.resetHeld = false ∧ s.selector.status = .on .radio ∧ b = .radio
            ∧ s.selector.holdTimer = some due) →
        (s.sender.store ≠ [] →
            ∃ t, exec c s = .next t
              ∧ t.selector = { s.selector with
                  status := .draining b
                  holdTimer := none
                  drainTimer := some (max s.clock due + drainLimit (s.judge b).srtt s.carry.drainMargin * 1000)
                  record := some ⟨some b, b.other, .planned, BitVec.ofNat 32 (max s.clock due / 1000), none⟩
                  wanted := .active }
              ∧ t.pause.selector = true ∧ t.lanes = s.lanes ∧ t.sender.n = s.sender.n
              ∧ t.sender.store.length = s.sender.store.length ∧ t.session = s.session ∧ t.receiver = s.receiver
              ∧ t.home = s.home)
          ∧ (s.sender.store = [] → s.carry.returnHold ≠ 0 ∨ b = .radio ∨ s.selector.pin ≠ .auto →
            ∃ t, exec c s = .next t
              ∧ t.selector.status = .on b.other ∧ t.selector.pin = s.selector.pin ∧ t.selector.drainTimer = none
              ∧ t.selector.record =
                some ⟨some b, b.other, .planned, BitVec.ofNat 32 (max s.clock due / 1000), some .emptied⟩
              ∧ t.pause.selector = false ∧ t.events.flags.getLsbD 7 = true ∧ t.home = s.home))

/-- R149, R140, R102, R14, R15: when the drain timer expires the target becomes active with the outcome EXPIRED, and HANDOVER is
reported; the records stay. With the session OPEN the take-up asks for a REWIND stream and, with a record held or a pass owed,
starts a pass; with the session OPENING or CLOSED an OPEN of the session's epoch is leaving the target or waits there. The clock is
at the moment the timer fell due or past it (log entry 4), and an expiry of a stopped timer changes nothing (log entry 2). A return
hold of 0 s, which under a pin of AUTO turns back from the radio, is left to ReturnHoldStarts. -/
def Obligations.DrainTimerExpirySwitches : Prop :=
  ∀ (s : State) (b : Bearer) (due : Nat),
    s.resetHeld = false →
      (s.selector.drainTimer = none → exec .drainTimerExpiry s = .next (finish false s s))
        ∧ (s.selector.drainTimer = some due → s.selector.status = .draining b →
          s.carry.returnHold ≠ 0 ∨ b = .radio ∨ s.selector.pin ≠ .auto →
          ∃ t, exec .drainTimerExpiry s = .next t
            ∧ t.selector.status = .on b.other ∧ t.selector.drainTimer = none ∧ t.selector.pin = s.selector.pin
            ∧ t.selector.record = s.selector.record.map (fun r => { r with outcome := some .expired })
            ∧ t.pause.selector = false ∧ t.events.flags.getLsbD 7 = true ∧ t.clock = max s.clock due
            ∧ (s.session.status = .opened →
              t.session = s.session ∧ RewindDueOn b.other t ∧ t.sender.n = s.sender.n ∧ t.sender.store = s.sender.store
                ∧ t.lanes = s.lanes ∧ t.sender.passOwed = false
                ∧ t.sender.pass = (if s.sender.store = [] ∧ s.sender.passOwed = false then .none else .waiting)
                ∧ t.receiver.attempts = (if s.receiver.discard then 1 else s.receiver.attempts))
            ∧ (s.session.status = .closed → t.session.status = .opening ∧ t.session.epoch = nextEpoch s.session.epoch)
            ∧ (s.session.status ≠ .opened →
              t.session.status = .opening ∧ t.session.retry = some (max s.clock due + 1000000) ∧ OpenDueOn b.other t)
            ∧ t.home = s.home)

/-- R150, R151, R118, R114, R115, R102: of a drain whose source or target falls, by its link's loss, by DETACHED, by a command of
the module that times out, by the stall limit, by the end of an interval that is BAD, unanswered or without a signal reading at the
floor or above, or by a carry failure: the loss of the source switches to the target at once with the outcome SOURCE_LOST and the
kind left, and with the session OPEN the take-up asks for a REWIND stream there; the loss of the target goes back to the source with
the outcome TARGET_LOST, or to OUTAGE where the pin does not permit the source. No take-up is made on a return. -/
def Obligations.DrainLosesABearer : Prop :=
  ∀ (s : State) (c : Instr) (source b : Bearer) (moment : Nat) (command : ModuleCommand),
    let j := s.judge b
    let missed : Bool := !j.answered || (match b with
      | .fibre => !j.linkHeld
      | .radio => !j.reading.any fun r => decide (j.count ≤ r.interval + 3) && decide (j.settings.floor ≤ r.level))
    s.resetHeld = false → s.selector.status = .draining source → j.handed = true → j.verdict = .up → j.timer.isSome = true →
      (c = .fibreLinkDown ∧ b = .fibre ∧ s.fibre.linkUp = true)
        ∨ (c = .detached ∧ b = .radio ∧ s.radio.status = .ready)
        ∨ (c = .intervalEnd b ∧ j.timer = some moment ∧ missed = true ∧ j.settings.fallRun ≤ min (j.badRun + 1) 65535)
        ∨ (c = .rewindTimerExpiry ∧ b = source ∧ s.receiver.rewindTimer = some moment
          ∧ s.carry.rewindLimit ≤ s.receiver.attempts)
        ∨ (c = .responseTimeout ∧ b = .radio ∧ s.radio.outstanding = some ⟨command, moment⟩ ∧ command ≠ .attach)
        ∨ (c = .readyLimitPasses ∧ b = .radio ∧ s.radio.status = .ready ∧ s.radio.handshake = .watching moment
          ∧ s.radio.settings.stallLimit ≤ s.radio.stallCount + 1) →
      ∃ t, exec c s = .next t ∧ t.selector.drainTimer = none ∧ t.selector.holdTimer = none ∧ t.selector.pin = s.selector.pin
        ∧ (t.judge b).verdict = .down ∧ (t.judge b).handed = false
        ∧ (b = source →
          t.selector.status = .on source.other ∧ t.events.flags.getLsbD 7 = true ∧ t.pause.selector = false
            ∧ t.selector.record = s.selector.record.map (fun r => { r with outcome := some .sourceLost })
            ∧ (s.session.status = .opened → RewindDueOn source.other t))
        ∧ (b = source.other →
          t.selector.record = s.selector.record.map (fun r => { r with outcome := some .targetLost })
            ∧ t.events.flags.getLsbD 7 = s.events.flags.getLsbD 7
            ∧ (s.selector.pin ≠ .only source.other →
              t.selector.status = .on source ∧ t.pause.selector = false ∧ t.session = s.session
                ∧ t.sender.passOwed = s.sender.passOwed ∧ t.receiver = s.receiver)
            ∧ (s.selector.pin = .only source.other →
              t.selector.status = .outage ∧ t.pause.selector = true ∧ t.events.flags.getLsbD 8 = true))

/-- R145, R148, R149: in ON_RADIO with the pin AUTO the return hold starts at its full length when an interval's end, a decay tick
or SET_DAMPING makes the fibre eligible, and stops when the fibre's link is lost. It starts at its full length, too, at the entry to
ON_RADIO at the end of a drain from the fibre, which of a lawful state comes with the drain timer's expiry, whose clock is at its
moment or past it (log entry 4), with a TALLY that empties the store and with a restart request, and with a HANDOVER_NOW that finds
the store empty. With a return hold of 0 s the drain to the fibre starts in the event that would start the hold: in each of those,
after the ending drain's own record is completed (log entry 28), and at a PIN of AUTO. With an empty store such a drain switches at
once. -/
def Obligations.ReturnHoldStarts : Prop :=
  ∀ (s : State) (c i : Instr) (tag : Byte) (due : Nat) (b : Bearer) (f : CarryFrame),
    let turnsBack : State → Prop := fun t =>
      t.selector.holdTimer = none
        ∧ (s.sender.store ≠ [] → t.selector.status = .draining .radio
          ∧ t.selector.record = some ⟨some .radio, .fibre, .planned, BitVec.ofNat 32 (t.clock / 1000), none⟩
          ∧ t.selector.drainTimer = some (t.clock + drainLimit s.radioJudge.srtt s.carry.drainMargin * 1000))
        ∧ (s.sender.store = [] → t.selector.status = .on .fibre ∧ t.selector.drainTimer = none ∧ t.events.flags.getLsbD 7 = true
          ∧ t.selector.record = some ⟨some .radio, .fibre, .planned, BitVec.ofNat 32 (t.clock / 1000), some .emptied⟩)
    let straightBack : State → Prop := fun t =>
      t.selector.status = .on .fibre ∧ t.selector.drainTimer = none ∧ t.selector.holdTimer = none
        ∧ t.selector.record = some ⟨some .radio, .fibre, .planned, BitVec.ofNat 32 (s.clock / 1000), some .emptied⟩
    let holds : Option HandoverRecord → State → Prop := fun record t =>
      t.selector.status = .on .radio ∧ t.selector.drainTimer = none ∧ t.selector.record = record
        ∧ t.selector.holdTimer = some (t.clock + s.carry.returnHold * 1000000)
    let ended : HandoverOutcome → Option HandoverRecord := fun outcome =>
      s.selector.record.map fun r => { r with outcome := some outcome }
    let onRadio : Prop := s.selector.status = .on .radio ∧ s.selector.pin = .auto ∧ s.resetHeld = false
    (onRadio → s.fibreJudge.handed = false → s.fibreJudge.suppressed = false ∨ c ≠ .intervalEnd .fibre →
        s.selector.holdTimer = none → c = .intervalEnd .fibre ∨ c = .decayTick .fibre ∨ c = .setDamping →
        ∃ t, exec c s = .next t
          ∧ (t.fibreJudge.verdict = .up → t.fibreJudge.suppressed = false →
              s.fibreJudge.verdict = .down ∨ s.fibreJudge.suppressed = true →
            (s.carry.returnHold ≠ 0 → t.selector.status = .on .radio ∧ t.selector.record = s.selector.record
                ∧ t.selector.holdTimer = some (t.clock + s.carry.returnHold * 1000000))
              ∧ (s.carry.returnHold = 0 → turnsBack t)))
      ∧ (onRadio → s.fibreJudge.handed = true → s.fibreJudge.verdict = .up → s.fibreJudge.timer.isSome = true →
        s.fibre.linkUp = true →
        ∃ t, exec .fibreLinkDown s = .next t ∧ t.selector.holdTimer = none ∧ t.selector.status = .on .radio
          ∧ t.selector.record = s.selector.record)
      ∧ (Takes s 0x0F tag [0] → Lawful s → s.selector.status = .on .radio → s.fibreJudge.verdict = .up →
        s.fibreJudge.suppressed = false → s.selector.holdTimer = none → s.carry.returnHold = 0 →
        ∃ t, exec .pin s = .next t ∧ turnsBack t)
      ∧ (Lawful s → s.selector.status = .draining .fibre → s.selector.pin = .auto →
        (s.resetHeld = false → s.selector.drainTimer = some due →
            ∃ t, exec .drainTimerExpiry s = .next t ∧ t.clock = max s.clock due ∧ t.events.flags.getLsbD 7 = true
              ∧ (s.carry.returnHold ≠ 0 → holds (ended .expired) t)
              ∧ (s.carry.returnHold = 0 → turnsBack t))
          ∧ ((Receives i s b .tally f ∧ s.receiver.discard = false ∧ s.sender.store ≠ [] ∧ StoreLaw s.sender
                ∧ f.ackno = s.sender.n)
              ∨ Receives i s b .opening f →
            ∃ t, exec i s = .next t ∧ t.clock = s.clock ∧ t.events.flags.getLsbD 7 = true
              ∧ (s.carry.returnHold ≠ 0 → holds (ended .emptied) t)
              ∧ (s.carry.returnHold = 0 → straightBack t)))
      ∧ (Takes s 0x10 tag [] → s.selector.status = .on .fibre → s.selector.pin = .auto → s.eligible .fibre = true →
        s.mayTake .radio = true → s.sender.store = [] →
        ∃ t, exec .handoverNow s = .next t ∧ t.clock = s.clock ∧ t.events.flags.getLsbD 7 = true
          ∧ (s.carry.returnHold ≠ 0 →
            holds (some ⟨some .fibre, .radio, .planned, BitVec.ofNat 32 (s.clock / 1000), some .emptied⟩) t)
          ∧ (s.carry.returnHold = 0 → straightBack t))

/-! ## The home side -/

/-- R25: the first class map entry, in index order, that is used and whose tag key and priority key match the frame's tag and
priority gives the lane; with none it is BULK. A frame is tagged when the two bytes after its addresses are 0x8100 (R24). -/
def Obligations.FirstMatchingEntryGivesTheLane : Prop :=
  ∀ (map : Vector ClassEntry 16) (frame : List Byte),
    let tagged := word16At frame 12 = 0x8100#16
    let tag := (word16At frame 14).extractLsb' 0 12
    let priority := if tagged then (word16At frame 14).extractLsb' 13 3 else 0
    let admits : ClassEntry → Prop := fun e =>
      e.used = true ∧ (e.tagKey = .any ∨ (e.tagKey = .untagged ∧ ¬tagged) ∨ (e.tagKey = .tag tag ∧ tagged))
        ∧ (e.priorityKey = .any ∨ e.priorityKey = .level priority)
    (∀ i : Fin 16, admits (map.get i) → (∀ j : Fin 16, j < i → ¬admits (map.get j)) →
        classify map frame = (map.get i).lane)
      ∧ ((∀ i : Fin 16, ¬admits (map.get i)) → classify map frame = .bulk)

/-- R30, R29: a home frame that the classifier hands to a lane is dropped in STOPPED, dropped when the lane is barred, dropped or
exchanged for the head at a full lane, and otherwise joins the tail, each with its counts. Frames that join are a dispatch
opportunity (R32). -/
def Obligations.HomeFrameJoinsItsLane : Prop :=
  ∀ (s : State) (bytes frame : List Byte) (l : Lane),
    s.resetHeld = false → s.home.linkUp = true → ethernetBody bytes = some frame → 60 ≤ frame.length → frame.length ≤ 1522 →
      classify s.classMap frame = l →
        let lane := s.lanes.get l
        let counts := s.counts.lane.get l
        let barred : Prop := (s.active = some .radio ∧ lane.profile.radioBar = true)
          ∨ (s.lanes.supply = .battery ∧ lane.profile.batteryBar = true)
        let counted : LaneCounts → State := fun c => { s with counts := { s.counts with lane := s.counts.lane.set l c } }
        let joined : List QueuedFrame → LaneCounts → State := fun q c =>
          { counted c with lanes := s.lanes.set l { lane with queue := q ++ [⟨frame, BitVec.ofNat 32 (s.clock / 1000)⟩] } }
        let up : Nat → Nat := fun n => min (n + 1) 4294967295
        (s.selector.status = .stopped →
            exec (.homeFrameArrival bytes) s = .next (finish false s { s with counts := { s.counts with
              carry := { s.counts.carry with stoppedDrop := up s.counts.carry.stoppedDrop } } }))
          ∧ (s.selector.status ≠ .stopped → barred →
            exec (.homeFrameArrival bytes) s = .next (finish false s (counted { counts with barred := up counts.barred })))
          ∧ (s.selector.status ≠ .stopped → ¬barred → lane.profile.limit ≤ lane.queue.length →
            lane.profile.policy = .dropNew →
            exec (.homeFrameArrival bytes) s =
              .next (finish false s (report .laneDrop (counted { counts with overflow := up counts.overflow }))))
          ∧ (s.selector.status ≠ .stopped → ¬barred → lane.profile.limit ≤ lane.queue.length →
            lane.profile.policy = .dropOld →
            exec (.homeFrameArrival bytes) s =
              .next (finish true s (report .laneDrop (joined (lane.queue.drop 1)
                { counts with overflow := up counts.overflow, accepted := up counts.accepted }))))
          ∧ (s.selector.status ≠ .stopped → ¬barred → lane.queue.length < lane.profile.limit →
            exec (.homeFrameArrival bytes) s =
              .next (finish true s (joined lane.queue { counts with accepted := up counts.accepted })))

/-- R23, R37, R21, R6: the home port takes no frame while its link is down, nor one whose frame check fails or whose length is
outside 60 to 1,522 bytes, and counts none of these (a frame too short for a frame check among them, log entry 20). A completed
delivery takes the head off the delivery queue; what has left is the frame with a newly generated frame check, least significant
byte first, which a port like it would take. With nothing to deliver nothing changes (log entry 2). The link's change changes the
link's level alone, also while RESET_N is held (log entry 7). That the bytes which left are held is log entry 40. -/
def Obligations.HomePortScreensAndDelivers : Prop :=
  ∀ (s : State) (bytes frame : List Byte) (up : Bool) (head : Delivery) (rest : List Delivery),
    exec (.homeLinkChange up) s = .next { s with home := { s.home with linkUp := up } }
      ∧ (s.resetHeld = false →
        (s.home.linkUp = false ∨ ethernetBody bytes = none
            ∨ (ethernetBody bytes = some frame ∧ (frame.length < 60 ∨ 1522 < frame.length)) →
          exec (.homeFrameArrival bytes) s = .next (finish false s s))
          ∧ (s.home.linkUp = true → s.home.delivery = head :: rest →
            let check := checkOf head.payload
            let wire := head.payload
              ++ [check.extractLsb' 0 8, check.extractLsb' 8 8, check.extractLsb' 16 8, check.extractLsb' 24 8]
            exec .deliveryComplete s = .next (closeEvent { s with home := { s.home with delivery := rest, sent := wire } })
              ∧ ethernetBody wire = some head.payload)
          ∧ (s.home.linkUp = false ∨ s.home.delivery = [] → exec .deliveryComplete s = .next (closeEvent s)))

/-! ## Frames that leave the data ports -/

/-- R61, R162, R168, R169, R170: when a frame's last byte has left a port, the frame is off the port and is counted by its kind;
on the module port a hand-over under READY_WAIT waits for the poll start and keeps the unit, and one under PACED waits for the
pacing gap; a unit offered again raises no count. Once the module has left READY the completion leaves the handshake free (log
entry 32). A completion at an idle port changes nothing (log entry 2), but that it ends a hand-over whose unit HALT IMMEDIATE cut
off (log entry 11). The frames of a mark stream and those of what a session restart stops are left to MarksEndTheirStream and
StoppedStreamsAndPassesEnd. -/
def Obligations.DeparturesAreCounted : Prop :=
  ∀ (s : State) (b : Bearer) (l : Leaving) (mode : HandOver),
    s.resetHeld = false → s.sender.passStopping = false → (∀ m ∈ s.sender.stream, m.bearer ≠ b) →
      let readyWait : Bool := s.radio.handshake == .handing .readyWait
      let handedOver : Option Leaving → State := fun unit => { s with radio := { s.radio with
        leaving := none
        held := if s.radio.status = .ready ∧ readyWait = true then unit else none
        handshake := if s.radio.status ≠ .ready then .free else
          match s.radio.handshake with
          | .handing .readyWait => .settling (s.clock + s.radio.settings.pollStart)
          | .handing (.paced gap) => .pacing (s.clock + gap)
          | h => h } }
      let off : State := match b with
        | .fibre => { s with fibre := { s.fibre with leaving := none } }
        | .radio => handedOver (some l)
      let up : Nat → Nat := fun n => min (n + 1) 4294967295
      (s.leaving b = none → b = .fibre ∨ (∀ m, s.radio.handshake ≠ .handing m) →
          exec (.frameDepartureComplete b) s = .next (finish false s s))
        ∧ (s.radio.leaving = none → s.radio.handshake = .handing mode →
          exec (.frameDepartureComplete .radio) s = .next (finish false s (handedOver none)))
        ∧ (s.leaving b = some l → l.reoffer = true ∨ (l.frame.kind ≠ 3 ∧ l.frame.kind ≠ 4 ∧ l.frame.kind ≠ 7) →
          exec (.frameDepartureComplete b) s = .next (finish false s off))
        ∧ (s.leaving b = some l → l.reoffer = false → l.frame.kind = 3 → l.frame.resent = false →
          exec (.frameDepartureComplete b) s = .next (finish false s { off with counts := { s.counts with
            carry := { s.counts.carry with sent := up s.counts.carry.sent } } }))
        ∧ (s.leaving b = some l → l.reoffer = false → l.frame.kind = 3 → l.frame.resent = true →
          exec (.frameDepartureComplete b) s = .next (finish false s { off with counts := { s.counts with
            carry := { s.counts.carry with resent := up s.counts.carry.resent } } }))
        ∧ (s.leaving b = some l → l.reoffer = false → l.frame.kind = 4 →
          exec (.frameDepartureComplete b) s = .next (finish false s { off with counts := { s.counts with
            carry := { s.counts.carry with tally := up s.counts.carry.tally } } }))
        ∧ (s.leaving b = some l → l.reoffer = false → l.frame.kind = 7 →
          exec (.frameDepartureComplete b) s = .next (finish false s { off with counts :=
            match b with
            | .fibre => { s.counts with probeFibre := { s.counts.probeFibre with sent := up s.counts.probeFibre.sent } }
            | .radio => { s.counts with probeRadio := { s.counts.probeRadio with sent := up s.counts.probeRadio.sent } } }))

/-- R83, R97, R169: when a mark has left a port its stream has one mark fewer to send; with the last the stream ends, its pause
reason goes and it is counted, and a REPLAY stream takes an announcing pass to RESENDING at the oldest record, or ends it when the
store is empty. A mark offered again is the mark it was: its completion takes none from the stream (log entry 38). What the
completion does at the port is DeparturesAreCounted's. -/
def Obligations.MarksEndTheirStream : Prop :=
  ∀ (s : State) (b : Bearer) (l : Leaving) (k : MarkKind) (left : Nat),
    s.resetHeld = false → s.sender.passStopping = false → s.leaving b = some l →
      l.frame.kind = (match k with
        | .rewind => 5
        | .replay => 6) → s.sender.stream = some ⟨k, b, left, false⟩ →
        let off : State := clearPort b l s
        let carry := s.counts.carry
        let up : Nat → Nat := fun n => min (n + 1) 4294967295
        (l.reoffer = true → exec (.frameDepartureComplete b) s = .next (finish false s off))
          ∧ (l.reoffer = false → 2 ≤ left →
            exec (.frameDepartureComplete b) s = .next (finish false s { off with
              sender := { s.sender with stream := some ⟨k, b, left - 1, false⟩ } }))
          ∧ (l.reoffer = false → left ≤ 1 → k = .rewind →
            exec (.frameDepartureComplete b) s = .next (finish false s { off with
              sender := { s.sender with stream := none }
              pause := { s.pause with stream := false }
              counts := { s.counts with carry := { carry with rewindStreams := up carry.rewindStreams } } }))
          ∧ (l.reoffer = false → left ≤ 1 → k = .replay →
            exec (.frameDepartureComplete b) s = .next (finish false s { off with
              sender := { s.sender with
                stream := none
                pass := if s.sender.pass ≠ .announcing then s.sender.pass
                  else if s.sender.store = [] then .none else .resending
                cursor := if s.sender.pass ≠ .announcing then s.sender.cursor
                  else s.sender.store.head?.map StoreRecord.seq
                announcePending := if s.sender.pass = .announcing ∧ s.sender.store = [] then false
                  else s.sender.announcePending }
              pause := { s.pause with
                stream := false
                pass := if s.sender.pass = .announcing ∧ s.sender.store = [] then false else s.pause.pass }
              counts := { s.counts with carry := { carry with replayPasses := up carry.replayPasses } } }))

/-- R19, R40, R85, R101, R105: a restart request taken outside a drain stops the stream and the pass at the next frame boundary:
each keeps its pause reason while a frame is leaving its bearer, whichever bearer the request arrived on, and else ends at once. The
completion of that frame, of a unit offered again too (log entry 38), then ends what was stopping and removes its pause reason; a
stream so ended is not counted. That the reason of a request withdrawn before its stream started goes too is log entry 26. -/
def Obligations.StoppedStreamsAndPassesEnd : Prop :=
  ∀ (s : State) (i : Instr) (a b : Bearer) (f : CarryFrame) (l : Leaving) (m : MarkStream),
    (Receives i s b .opening f → s.draining = false →
        ∃ t, exec i s = .next t
          ∧ (s.sender.stream = none → t.sender.stream = none ∧ t.pause.stream = false)
          ∧ (s.sender.stream = some m → s.leaving m.bearer = none → t.sender.stream = none ∧ t.pause.stream = false)
          ∧ (s.sender.stream = some m → (s.leaving m.bearer).isSome = true →
            t.sender.stream = some { m with stopping := true } ∧ t.pause.stream = s.pause.stream)
          ∧ ((∀ c, s.active = some c → s.leaving c = none) → t.sender.pass = .none ∧ t.pause.pass = false)
          ∧ (s.active = some a → (s.leaving a).isSome = true → s.sender.pass ≠ .none →
            t.sender.pass = s.sender.pass ∧ t.sender.passStopping = true ∧ t.pause.pass = s.pause.pass))
      ∧ (s.resetHeld = false → s.leaving b = some l → (∀ n ∈ s.sender.stream, n.bearer = b → n.stopping = true) →
        s.sender.passStopping = true ∨ (∃ n ∈ s.sender.stream, n.bearer = b) →
        let counted := if l.reoffer then clearPort b l s else countDeparture b l.frame (clearPort b l s)
        let streamEnds : Bool := s.sender.stream.any fun n => n.bearer == b
        let passEnds : Bool := s.sender.passStopping && s.active == some b
        exec (.frameDepartureComplete b) s = .next (finish false s { counted with
          sender := { s.sender with
            stream := if streamEnds then none else s.sender.stream
            pass := if passEnds then .none else s.sender.pass
            cursor := if passEnds then none else s.sender.cursor
            announcePending := if passEnds then false else s.sender.announcePending
            passStopping := if passEnds then false else s.sender.passStopping }
          pause := { s.pause with
            stream := if streamEnds then false else s.pause.stream
            pass := if passEnds then false else s.pause.pass } }))

/-- R55, R58, R1, R4, R83, R53, R110, R59, R168, R170: what starts at a free port is, in this order, the stream's next mark, a
pending REWIND stream or announce on the active bearer, the waiting frame that fell due first, and the pass's next copy; every frame
carries E. A PROBE that starts makes its probe table entry, and a full table loses its oldest, counted PROBE lost. On the module
port a unit that starts begins its hand-over, and on the active bearer it clears the tally owed (FrameStarts). The bytes on the port
are, on the fibre, the Ethernet frame to the concentrator address from the part's own, with the frame type, padding up to 46 bytes
and the frame check (R21), and on the radio the carry frame's own (R20). A port that is not free starts nothing. The model's own: an
ECHO's bearer field is the PROBE's (log entry 24), the mode and the pace rate are read here (log entry 19), and an absent payload is
the void marker (log entry 29). -/
def Obligations.PortOrderIsKept : Prop :=
  ∀ (s : State) (b : Bearer) (opportunity : Bool) (w : WaitingFrame) (rest : List WaitingFrame) (m : MarkStream)
    (r : StoreRecord) (sent : CarryFrame),
    let t := serve opportunity b s
    let plain : Byte → CarryFrame := fun kind =>
      ⟨1, kind, 0, false, false, false, bearerFrameCode b, 0, s.session.epoch, 0, s.receiver.e, 0, []⟩
    let starts : CarryFrame → Prop := fun f => FrameStarts b f s t
    let streaming : Prop := ∃ n ∈ s.sender.stream, n.bearer = b ∧ n.stopping = false
    let asks : Prop := s.active = some b ∧ (s.sender.rewindPending = true ∨ s.sender.announcePending = true)
    let ethernet := bytesOfAddress s.carry.address ++ bytesOfAddress Config.fibreAddress
      ++ [s.carry.frameType.extractLsb' 8 8, s.carry.frameType.extractLsb' 0 8]
      ++ encodeCarry sent ++ List.replicate (46 - (encodeCarry sent).length) 0
    let check := checkOf ethernet
    wireOf .fibre sent s = ethernet
        ++ [check.extractLsb' 0 8, check.extractLsb' 8 8, check.extractLsb' 16 8, check.extractLsb' 24 8]
      ∧ wireOf .radio sent s = encodeCarry sent
      ∧ (s.portFree b = false → t = s)
      ∧ (s.portFree b = true → ¬(s.sender.pass = .resending ∧ s.sender.cursor = none) →
        (s.sender.stream = some m → m.bearer = b → m.stopping = false →
            starts (plain (if m.kind = .rewind then 5 else 6)) ∧ t.sender.stream = some m)
          ∧ (¬streaming → s.active = some b → s.sender.rewindPending = true →
            starts (plain 5) ∧ t.sender.stream = some ⟨.rewind, b, s.carry.nTx, false⟩ ∧ t.sender.rewindPending = false
              ∧ t.pause.stream = true)
          ∧ (¬streaming → s.active = some b → s.sender.rewindPending = false → s.sender.announcePending = true →
            starts (plain 6) ∧ t.sender.stream = some ⟨.replay, b, s.carry.nTx, false⟩ ∧ t.sender.announcePending = false
              ∧ t.sender.pass = .announcing ∧ t.pause.stream = true)
          ∧ (¬streaming → ¬asks → s.waiting b = w :: rest →
            starts (match w with
                | .opening epoch => { plain 1 with epoch := epoch }
                | .echo tag bearer epoch => { plain 8 with tag := tag, bearer := bearer, epoch := epoch }
                | .probe tag epoch _ => { plain 7 with tag := tag, epoch := epoch }
                | .tally epoch => { plain 4 with epoch := epoch })
              ∧ t.waiting b = (if s.active = some b then rest.filter (fun v => !v.isTally) else rest)
              ∧ (match w with
                | .probe tag _ interval =>
                  let old := (s.judge b).table
                  let expiry := s.clock / 100 + 4 * ((s.judge b).settings.interval * 10)
                  let entry : ProbeEntry := ⟨tag, BitVec.ofNat 32 (s.clock / 100), interval, expiry⟩
                  (t.judge b).table = (if old.length < 4 then old else old.drop 1) ++ [entry]
                    ∧ t.counts = if old.length < 4 then s.counts else
                      match b with
                      | .fibre => { s.counts with probeFibre := { s.counts.probeFibre with
                          lost := min (s.counts.probeFibre.lost + 1) 4294967295 } }
                      | .radio => { s.counts with probeRadio := { s.counts.probeRadio with
                          lost := min (s.counts.probeRadio.lost + 1) 4294967295 } }
                | _ => (t.judge b).table = (s.judge b).table ∧ t.counts = s.counts))
          ∧ (¬streaming → ¬asks → s.waiting b = [] → s.active = some b → s.sender.pass = .resending →
            s.sender.cursor = some r.seq → s.sender.store.find? (fun x => x.seq == r.seq) = some r →
            let payload := if voidingTest s r then none else r.payload
            starts { plain 3 with
                lane := r.lane.frameCode
                seqFlag := true
                resent := true
                void := payload.isNone
                seq := r.seq
                length := BitVec.ofNat 16 (payload.getD []).length
                payload := payload.getD [] })
          ∧ (¬streaming → s.waiting b = [] → s.active ≠ some b → t = s))

/-- R98, R49, R50, R53, R97: in RESENDING, when a free port of the active bearer comes to the pass, the record at the cursor is
voided when it is past its lane's max age or has reached the resend limit, which counts CARRY voided and reports STALE_VOIDED; its
resend count rises, up to 255; the copy that starts to leave is the record's as it then is; and the cursor moves to the next newer
record. With the cursor past the end the pass ends there and its pause reason goes, ahead of a waiting frame (log entry 15), and
when no other reason stands a dispatch opportunity arises. An absent payload is the void marker (log entry 29). -/
def Obligations.PassSendsCopiesAndEnds : Prop :=
  ∀ (s : State) (b : Bearer) (opportunity : Bool) (r : StoreRecord) (older newer : List StoreRecord),
    s.portFree b = true → s.active = some b → s.sender.pass = .resending →
      (s.sender.cursor = some r.seq → s.sender.store = older ++ r :: newer → (∀ x ∈ older ++ newer, x.seq ≠ r.seq) →
        s.sender.rewindPending = false → s.sender.announcePending = false → s.waiting b = [] →
        (∀ m ∈ s.sender.stream, m.bearer ≠ b ∨ m.stopping = true) →
          let t := serve opportunity b s
          let maxAge := (s.lanes.get r.lane).profile.maxAge
          let voids : Prop := r.payload ≠ none
            ∧ ((maxAge ≠ 0 ∧ maxAge < (s.ms - r.arrival).toNat) ∨ s.carry.resendLimit ≤ r.resends)
          let after : Option (List Byte) → StoreRecord := fun payload =>
            { r with resends := min (r.resends + 1) 255, payload := payload }
          let copy : Option (List Byte) → CarryFrame := fun payload =>
            ⟨1, 3, r.lane.frameCode, true, true, payload.isNone, bearerFrameCode b, 0, s.session.epoch, r.seq, s.receiver.e,
              BitVec.ofNat 16 (payload.getD []).length, payload.getD []⟩
          let sent : Option (List Byte) → Prop := fun payload =>
            t.sender.store = older ++ after payload :: newer ∧ t.sender.cursor = newer.head?.map StoreRecord.seq
              ∧ FrameStarts b (copy payload) s t
          t.sender.pass = .resending ∧ t.pause = s.pause ∧ t.sender.n = s.sender.n ∧ t.lanes = s.lanes
            ∧ (voids → sent none ∧ t.counts.carry.voided = min (s.counts.carry.voided + 1) 4294967295
              ∧ t.events.flags.getLsbD 14 = true)
            ∧ (¬voids → sent r.payload ∧ t.counts = s.counts ∧ t.events = s.events))
        ∧ (s.sender.cursor = none → s.pause.pass = true →
          let ended : State := { s with
            sender := { s.sender with pass := .none, announcePending := false, passStopping := false }
            pause := { s.pause with pass := false } }
          let alone : Prop := s.pause.session = false ∧ s.pause.selector = false ∧ s.pause.stream = false
          (alone → serve opportunity b s = serve true b ended) ∧ (¬alone → serve opportunity b s = serve opportunity b ended))

/-- R32, R33, R41, R46, R52, R8: at a dispatch opportunity with no pause reason the first lane whose head can go gives it: an
empty lane, and a replay-class lane whose head has no place in the store, is passed over and holds back no lane below it. The head
leaves its queue, a replay-class one joins the store with the number N, and its DATA starts to leave. An examination gives up the
heads past the lane's max age, each counted LANE aged, and every frame left in a barred lane, each counted LANE barred, and
reports LANE_DROP when it gives up any (once, log entry 36). -/
def Obligations.DispatchTakesAHead : Prop :=
  ∀ (s : State) (b : Bearer) (l : Lane) (head : QueuedFrame) (tail : List QueuedFrame),
    let lane := s.lanes.get l
    let late : Lane → QueuedFrame → Bool := fun k f =>
      decide ((s.lanes.get k).profile.maxAge ≠ 0) && decide ((s.lanes.get k).profile.maxAge < (s.ms - f.arrival).toNat)
    let fits : QueuedFrame → Prop := fun f =>
      s.sender.store.length < 1024 ∧ (f.bytes.length + 127) / 128 + storeCells s.sender.store ≤ 2048
    let passedOver : Lane → Prop := fun k => match (s.lanes.get k).queue with
      | [] => True
      | f :: _ => late k f = false ∧ s.barred k = false ∧ (s.lanes.get k).profile.replay = true ∧ ¬fits f
    let aged := (lane.queue.takeWhile (late l)).length
    let kept := if s.barred l then [] else lane.queue.drop aged
    let barred := lane.queue.length - aged - kept.length
    let examined : State := { s with
      lanes := s.lanes.set l { lane with queue := kept }
      counts := { s.counts with lane := s.counts.lane.set l { s.counts.lane.get l with
        aged := min ((s.counts.lane.get l).aged + aged) 4294967295
        barred := min ((s.counts.lane.get l).barred + barred) 4294967295 } } }
    discardHeads l s = (if aged + barred = 0 then examined else report .laneDrop examined)
      ∧ (s.portFree b = true → s.active = some b → s.pause.any = false → s.sender.stream = none →
        s.sender.rewindPending = false → s.sender.announcePending = false → s.sender.pass = .none → s.waiting b = [] →
        StoreLaw s.sender → CountsBounded s.counts → (∀ k ∈ laneOrder.take (laneOrder.idxOf l), passedOver k) →
        lane.queue = head :: tail → s.barred l = false → late l head = false → (lane.profile.replay = true → fits head) →
        let t := serve true b s
        let f : CarryFrame := ⟨1, 3, l.frameCode, lane.profile.replay, false, false, bearerFrameCode b, 0, s.session.epoch,
          if lane.profile.replay then s.sender.n else 0, s.receiver.e, BitVec.ofNat 16 head.bytes.length, head.bytes⟩
        FrameStarts b f s t
          ∧ t.lanes = s.lanes.set l { lane with queue := tail } ∧ t.events = s.events
          ∧ t.counts = { s.counts with lane := s.counts.lane.set l { s.counts.lane.get l with
              sent := min ((s.counts.lane.get l).sent + 1) 4294967295 } }
          ∧ (lane.profile.replay = true →
            t.sender.n = s.sender.n + 1
              ∧ t.sender.store = s.sender.store ++ [⟨s.sender.n, l, head.arrival, 0, some head.bytes⟩])
          ∧ (lane.profile.replay = false → t.sender.n = s.sender.n ∧ t.sender.store = s.sender.store))
      ∧ (s.portFree b = true → s.active = some b → s.pause.any = false → s.sender.stream = none →
        s.sender.rewindPending = false → s.sender.announcePending = false → s.sender.pass = .none → s.waiting b = [] →
        StoreLaw s.sender → CountsBounded s.counts → (∀ k ∈ laneOrder, passedOver k) → serve true b s = s)

/-! ## Timers of the carry session -/

/-- R60, R56, R15: with the tally owed, the expiry of the tally timer puts a TALLY of the current epoch among the active bearer's
waiting frames, unless one waits there; in OPENING, the expiry of the open retry timer sends OPEN again on the active bearer,
abandons any other waiting OPEN (on the other bearer by log entry 13), and starts the timer again. The clock is at the moment the
timer fell due or past it (log entry 4), and the expiry of a stopped timer changes nothing (log entry 2). -/
def Obligations.TallyAndRetryTimersExpire : Prop :=
  ∀ (s : State) (b : Bearer) (due : Nat),
    s.resetHeld = false →
      (s.sender.tallyTimer = none → exec .tallyTimerExpiry s = .next (finish false s s))
        ∧ (s.session.retry = none → exec .openRetryTimerExpiry s = .next (finish false s s))
        ∧ (s.sender.tallyTimer = some due → s.active = some b → s.sender.tallyOwed = true →
          let here : State := { s with clock := max s.clock due, sender := { s.sender with tallyTimer := none } }
          exec .tallyTimerExpiry s = .next (finish false s
            (if (s.waiting b).any WaitingFrame.isTally then here
              else here.setWaiting b (s.waiting b ++ [.tally s.session.epoch]))))
        ∧ (s.session.retry = some due → s.session.status = .opening → s.active = some b →
          let kept : Bearer → List WaitingFrame := fun d => (s.waiting d).filter fun w => !w.isOpen
          let sent : Bearer → List WaitingFrame := fun d => if d = b then kept d ++ [.opening s.session.epoch] else kept d
          exec .openRetryTimerExpiry s = .next (finish false s { s with
            clock := max s.clock due
            session := { s.session with retry := some (max s.clock due + 1000000) }
            sender := { s.sender with waitingFibre := sent .fibre, waitingRadio := sent .radio } }))

/-- R133, R134, R135: the three lengths that the round-trip time and the pace rate give. -/
def Obligations.DerivedLengths : Prop :=
  ∀ (srtt margin bytes rate : Nat),
    rewindPeriod (some srtt) margin = min 5000 (max 40 ((4 * srtt + 9) / 10 + margin)) ∧ rewindPeriod none margin = 1000
      ∧ drainLimit (some srtt) margin = min 10000 (max 50 ((2 * srtt + 9) / 10 + margin)) ∧ drainLimit none margin = 500
      ∧ (1 ≤ rate → bytes * 8000 ≤ pacingGap bytes rate * rate ∧ pacingGap bytes rate * rate < bytes * 8000 + rate)

/-- R92, R93, R84, R91: below the rewind limit the expiry of the rewind timer asks for a REWIND stream, merged with one in
progress, adds an attempt and starts the timer again with a fresh period; at the limit it reports REWIND_FAILED, counts it, and
drives a judged bearer's verdict DOWN, and E and the discard state stay. The clock is at the moment the timer fell due or past it
(log entry 4), and the expiry of a stopped timer changes nothing (log entry 2). -/
def Obligations.RewindTimerExpires : Prop :=
  ∀ (s : State) (b : Bearer) (due : Nat),
    s.resetHeld = false →
      (s.receiver.rewindTimer = none → exec .rewindTimerExpiry s = .next (finish false s s))
        ∧ (s.receiver.rewindTimer = some due → s.active = some b → s.receiver.attempts < s.carry.rewindLimit →
          let merged : Prop := ∃ m ∈ s.sender.stream, m.kind = .rewind ∧ m.bearer = b ∧ m.stopping = false
          ∃ pending : Bool, (pending = true ↔ ¬merged ∨ s.sender.rewindPending = true)
            ∧ exec .rewindTimerExpiry s = .next (finish false s { s with
                clock := max s.clock due
                sender := { s.sender with rewindPending := pending }
                receiver := { s.receiver with
                  attempts := s.receiver.attempts + 1
                  rewindTimer := some (max s.clock due + rewindPeriod (s.judge b).srtt s.carry.rewindMargin * 1000) } }))
        ∧ (s.receiver.rewindTimer = some due → s.active = some b → s.carry.rewindLimit ≤ s.receiver.attempts →
          ∃ t, exec .rewindTimerExpiry s = .next t ∧ t.events.flags.getLsbD 13 = true ∧ t.clock = max s.clock due
            ∧ t.counts.carry.rewindFailures = min (s.counts.carry.rewindFailures + 1) 4294967295
            ∧ t.receiver.discard = s.receiver.discard ∧ t.receiver.e = s.receiver.e
            ∧ ((s.judge b).timer.isSome = true → (t.judge b).verdict = .down)
            ∧ ((s.judge b).verdict = .down →
              t.receiver = { s.receiver with rewindTimer := none } ∧ t.selector = s.selector ∧ t.session = s.session)
            ∧ t.home = s.home)

/-! ## Judges and damping -/

/-- R107, R109, R113 to R117, R120, R122, R125, R141: the interval that ends is marked and counted, its window closes at a multiple
of W, the verdict is tested once, and the next interval starts with its PROBE, which is leaving or waits. Of a lawful state, a rise
makes the bearer UP, and in OUTAGE active when it is eligible and the pin permits it, whatever the return hold, which sends OPEN in
a session not OPEN; a fall makes it DOWN with one step of the penalty, and takes the active bearer to the other or to OUTAGE. The
model's own: the clock is at the interval's end or past it (log entry 4), the next interval is counted from that end (log entry 35),
and the end of a stopped clock's interval changes nothing (log entry 2). What a fall does in a drain, and a rise to the return hold,
is left to DrainLosesABearer and ReturnHoldStarts. -/
def Obligations.IntervalEndCountsAndTests : Prop :=
  ∀ (s : State) (b : Bearer) (moment : Nat),
    s.resetHeld = false →
      ((s.judge b).timer = none → exec (.intervalEnd b) s = .next (finish false s s))
        ∧ ((s.judge b).timer = some moment →
          let j := s.judge b
          let good : Bool := match b with
            | .fibre => j.linkHeld && j.answered
            | .radio => j.answered && j.reading.any fun r =>
                decide (j.count ≤ r.interval + 3) && decide (j.settings.floor ≤ r.level)
          let goodRun := if good then min (j.goodRun + 1) 65535 else 0
          let badRun := if good then 0 else min (j.badRun + 1) 65535
          let tally := if good = false ∧ j.noWindow = false then j.tally + 1 else j.tally
          let closes : Prop := j.noWindow = false ∧ (j.position + 1) % j.settings.window = 0
          let cleanRun := if closes then (if tally ≤ j.settings.tolerance then min (j.cleanRun + 1) 255 else 0) else j.cleanRun
          let rises : Prop := (0 < j.settings.riseWindows ∧ j.settings.riseWindows ≤ cleanRun)
            ∨ (j.settings.riseWindows = 0 ∧ j.settings.riseRun ≤ goodRun)
          let penalty := min j.damping.ceiling (j.penalty + j.damping.step)
          ((j.verdict = .down ∧ ¬rises) ∨ (j.verdict = .up ∧ badRun < j.settings.fallRun) →
              ∃ t, exec (.intervalEnd b) s = .next t ∧ t.clock = max s.clock moment
                ∧ { t.judge b with table := j.table } = { j with
                    goodRun := goodRun
                    badRun := badRun
                    tally := if closes then 0 else tally
                    position := if j.noWindow then j.position else j.position + 1
                    noWindow := false
                    cleanRun := cleanRun
                    count := j.count + 1
                    timer := some (moment + j.settings.interval * 1000)
                    answered := false
                    linkHeld := s.portOpen b
                    tag := if s.portOpen b then j.tag + 1 else j.tag }
                ∧ (s.portOpen b = true → ProbeDueOn b j.tag (j.count + 1) t)
                ∧ (b = .radio → s.radio.status = .ready → s.radio.outstanding = none →
                  t.radio.outstanding = some ⟨.signal, max s.clock moment + 2000000⟩)
                ∧ t.selector = s.selector ∧ t.session = s.session ∧ t.receiver = s.receiver ∧ t.home = s.home)
            ∧ (Lawful s → j.verdict = .down → rises →
              ∃ t, exec (.intervalEnd b) s = .next t ∧ t.clock = max s.clock moment
                ∧ (t.judge b).verdict = .up ∧ (t.judge b).penalty = j.penalty
                ∧ t.events.flags.getLsbD (match b with
                    | .fibre => 1
                    | .radio => 3) = true
                ∧ (s.selector.status = .outage → s.selector.pin.permits b = true →
                  j.suppressed = false ∨ (b = .fibre ∧ s.selector.pin = .only .fibre) →
                  TakenFromOutage b t
                    ∧ (s.session.status = .closed →
                      t.session = ⟨.opening, nextEpoch s.session.epoch, some (max s.clock moment + 1000000)⟩)
                    ∧ (s.session.status = .opening →
                      t.session = ⟨.opening, s.session.epoch, some (max s.clock moment + 1000000)⟩)
                    ∧ (s.session.status ≠ .opened → OpenDueOn b t))
                ∧ (t.portOpen b = true → (t.judge b).tag = j.tag + 1 ∧ ProbeDueOn b j.tag (j.count + 1) t)
                ∧ t.receiver.e = s.receiver.e ∧ t.home = s.home)
            ∧ (j.verdict = .up → j.settings.fallRun ≤ badRun →
              ∃ t, exec (.intervalEnd b) s = .next t ∧ t.clock = max s.clock moment
                ∧ (t.judge b).verdict = .down ∧ (t.judge b).penalty = penalty
                ∧ (t.judge b).suppressed = (j.suppressed || decide (j.damping.suppress ≤ penalty))
                ∧ (t.judge b).goodRun = 0 ∧ (t.judge b).cleanRun = 0
                ∧ t.events.flags.getLsbD (match b with
                    | .fibre => 2
                    | .radio => 4) = true
                ∧ (s.selector.status = .on b → j.handed = true → ActiveLeft b s t)
                ∧ (t.portOpen b = true → (t.judge b).tag = j.tag + 1 ∧ ProbeDueOn b j.tag (j.count + 1) t)
                ∧ t.receiver.e = s.receiver.e ∧ t.home = s.home))

/-- R127, R128, R141: at each decay tick of a bearer whose P is above 0, P becomes P − max(1, floor(P × D / 256)), and a suppressed
bearer whose P is then at most reuse is released. Of a lawful state, a bearer that is UP and so released becomes eligible, as the
fibre under a pin of FIBRE has been all along: in OUTAGE it is taken where the pin permits it, in ON_RADIO under AUTO the fibre
starts the return hold, which is left to ReturnHoldStarts, and otherwise the selector stays as it is. The next tick is one period
after this one (R126; log entry 35). The clock is at the moment the tick fell due or past it (log entry 4), and a tick of a stopped
clock changes nothing (log entry 2). -/
def Obligations.DecayTickLowersThePenalty : Prop :=
  ∀ (s : State) (b : Bearer) (due : Nat),
    s.resetHeld = false →
      ((s.judge b).decay = none → exec (.decayTick b) s = .next (finish false s s))
        ∧ ((s.judge b).decay = some due →
          let j := s.judge b
          let here : State := { s with clock := max s.clock due }
          let next := some (due + j.damping.period * 1000000)
          let p := if j.penalty = 0 then 0 else j.penalty - max 1 (j.penalty * j.damping.factor / 256)
          let releases : Prop := j.penalty ≠ 0 ∧ j.suppressed = true ∧ p ≤ j.damping.reuse
          (¬releases → exec (.decayTick b) s =
              .next (finish false s (here.mapJudge b fun k => { k with decay := next, penalty := p })))
            ∧ (releases → ∃ t, exec (.decayTick b) s = .next t ∧ t.clock = max s.clock due ∧ (t.judge b).penalty = p
              ∧ (t.judge b).suppressed = false ∧ (t.judge b).decay = next
              ∧ (b = .fibre → t.events.flags.getLsbD 6 = true)
              ∧ (t.judge b.other).penalty = (s.judge b.other).penalty
              ∧ (Lawful s →
                let rises : Prop := j.verdict = .up ∧ ¬(b = .fibre ∧ s.selector.pin = .only .fibre)
                let taken : Prop := rises ∧ s.selector.status = .outage ∧ s.selector.pin.permits b = true
                let hold : Prop := rises ∧ b = .fibre ∧ s.selector.status = .on .radio ∧ s.selector.pin = .auto
                (taken → TakenFromOutage b t) ∧ (¬taken → ¬hold → t.selector = s.selector))
              ∧ t.receiver.e = s.receiver.e ∧ t.home = s.home))

/-- R113, R118, R119, R125, R56, R85, R54: the fibre link's loss closes the port, abandons its waiting frames, ends a stream
there, makes the running interval BAD and is hard-fail evidence: a judged fibre's figures are 0, window counting restarts, and a
verdict of UP falls with one step of the penalty. Its return opens the port and nothing else. The loss of a link that is down
already changes nothing (log entry 2). -/
def Obligations.FibreLinkChanges : Prop :=
  ∀ s : State,
    s.resetHeld = false →
      exec .fibreLinkUp s = .next (finish false s { s with fibre := { s.fibre with linkUp := true } })
        ∧ (s.fibre.linkUp = false → exec .fibreLinkDown s = .next (finish false s s))
        ∧ (s.fibre.linkUp = true →
          let j := s.fibreJudge
          ∃ t, exec .fibreLinkDown s = .next t ∧ t.fibre = { s.fibre with linkUp := false } ∧ t.sender.waitingFibre = []
            ∧ (∀ m ∈ t.sender.stream, m.bearer = .radio) ∧ t.fibreJudge.linkHeld = false
            ∧ (j.timer.isSome = true →
              t.fibreJudge.goodRun = 0 ∧ t.fibreJudge.badRun = 0 ∧ t.fibreJudge.tally = 0 ∧ t.fibreJudge.cleanRun = 0
                ∧ t.fibreJudge.position = 0 ∧ t.fibreJudge.noWindow = false ∧ t.fibreJudge.verdict = .down
                ∧ t.fibreJudge.timer = j.timer ∧ t.fibreJudge.srtt = j.srtt ∧ t.fibreJudge.table = j.table)
            ∧ (j.timer.isSome = true → j.verdict = .up →
              t.fibreJudge.penalty = min j.damping.ceiling (j.penalty + j.damping.step)
                ∧ t.events.flags.getLsbD 2 = true
                ∧ (s.selector.status = .on .fibre → j.handed = true →
                  (s.mayTake .radio = true → t.selector.status = .on .radio)
                    ∧ (s.mayTake .radio = false → t.selector.status = .outage)))
            ∧ (j.verdict = .down → t.fibreJudge.penalty = j.penalty ∧ t.selector = s.selector ∧ t.session = s.session)
            ∧ t.receiver.e = s.receiver.e ∧ t.home = s.home)

/-! ## Frames that arrive -/

/-- R20, R6, R7: a carry frame ends in its check, sent least significant byte first, directly after its payload; over the characters
"123456789" the check is 0xCBF43926. A frame whose length field is its payload's length is read back from its own bytes, on the
module port exactly, and on the fibre port with any padding after its check. On either port a frame of the right size fails whose
four check bytes are not the computed check, a frame whose length field is above 1,522, and a frame that ends before its check does;
on the module port a unit of any other size fails, a longer and a shorter one. -/
def Obligations.CarryFramesRoundTrip : Prop :=
  ∀ (f : CarryFrame) (padding received : List Byte) (exact : Bool) (size : Nat),
    let checked := f.header ++ f.payload
    let check := checkOf checked
    let sent : List Byte := [check.extractLsb' 0 8, check.extractLsb' 8 8, check.extractLsb' 16 8, check.extractLsb' 24 8]
    encodeCarry f = checked ++ sent
      ∧ checkOf [0x31, 0x32, 0x33, 0x34, 0x35, 0x36, 0x37, 0x38, 0x39] = 0xCBF43926
      ∧ (1522 < f.length.toNat → readCarry exact (checked ++ received ++ padding) = none)
      ∧ (f.length.toNat = f.payload.length → f.payload.length ≤ 1522 →
        readCarry exact (encodeCarry f) = some f
          ∧ readCarry false (encodeCarry f ++ padding) = some f
          ∧ (received.length = 4 → received ≠ sent →
            readCarry exact (checked ++ received) = none ∧ readCarry false (checked ++ received ++ padding) = none)
          ∧ (padding ≠ [] → readCarry true (encodeCarry f ++ padding) = none)
          ∧ (size < 16 + f.payload.length → readCarry exact ((encodeCarry f).take size) = none))

/-- R21, R64, R170: of a FIBRE_FRAME_ARRIVAL or a MODULE_UNIT_ARRIVAL, an open port hands the receiver the frame that the
concentrator put in the Ethernet frame or the data unit. The fibre port discards, without count, while its link is down, above
1,600 bytes and on a bad frame check; a frame of a foreign type or source it counts CARRY stale-epoch; a unit from a module that
is not READY is dropped. The model's own (log entry 20): a frame too short to hold a frame check fails it, and one too short to
hold a frame type is counted stale-epoch. -/
def Obligations.PortsHandFramesOver : Prop :=
  ∀ (s : State) (f : CarryFrame) (destination : Address) (bytes body : List Byte),
    (f.length.toNat = f.payload.length → f.payload.length ≤ 1522 →
        (s.fibre.linkUp = true →
            handsOver (.fibreFrameArrival
              (ethernetOf destination s.carry.address s.carry.frameType (encodeCarry f))) s = some (.fibre, some f))
          ∧ (s.radio.status = .ready → handsOver (.moduleUnitArrival (encodeCarry f)) s = some (.radio, some f)))
      ∧ (s.resetHeld = false →
        (s.fibre.linkUp = false ∨ 1600 < bytes.length ∨ ethernetBody bytes = none →
            exec (.fibreFrameArrival bytes) s = .next (finish false s s))
          ∧ (s.fibre.linkUp = true → bytes.length ≤ 1600 → ethernetBody bytes = some body →
            (body.length < 14 ∨ word16At body 12 ≠ s.carry.frameType
              ∨ (s.carry.address ≠ 0xFFFFFFFFFFFF#48 ∧ addressAt body 6 ≠ s.carry.address)) →
            exec (.fibreFrameArrival bytes) s = .next (finish false s { s with counts := { s.counts with
              carry := { s.counts.carry with staleEpoch := min (s.counts.carry.staleEpoch + 1) 4294967295 } } }))
          ∧ (s.radio.status ≠ .ready → exec (.moduleUnitArrival bytes) s = .next (finish false s s)))

/-- R2, R3, R13: of an arrival at either data port, a frame of another version, kind, bearer or form, and a frame of a kind that
the session does not take, is dropped and counted CARRY stale-epoch, and nothing else changes; every other frame is taken. -/
def Obligations.ScreensDropFrames : Prop :=
  ∀ (s : State) (i : Instr) (b : Bearer) (f : CarryFrame),
    s.resetHeld = false → handsOver i s = some (b, some f) →
      let len := f.length.toNat
      let form : Prop := (f.void = false ∧ 60 ≤ len ∧ len ≤ 1522 ∧ (f.resent = true → f.seqFlag = true))
        ∨ (f.void = true ∧ f.resent = true ∧ f.seqFlag = true ∧ len = 0)
      let fields : Prop := f.version = 1 ∧ 1 ≤ f.kind.toNat ∧ f.kind.toNat ≤ 8 ∧ (f.bearer = 1 ∨ f.bearer = 2)
        ∧ (f.kind ≠ 3 → len = 0) ∧ (f.kind = 3 → form)
      let session : Prop :=
        (3 ≤ f.kind.toNat ∧ f.kind.toNat ≤ 6 → s.session.status = .opened ∧ f.epoch = s.session.epoch)
          ∧ (f.kind = 2 → s.session.status ≠ .closed ∧ f.epoch = s.session.epoch)
          ∧ (f.kind = 1 → s.session.status ≠ .closed ∧ f.epoch = 0)
      (¬(fields ∧ session) →
          exec i s = .next (finish false s { s with counts := { s.counts with
            carry := { s.counts.carry with staleEpoch := min (s.counts.carry.staleEpoch + 1) 4294967295 } } }))
        ∧ (fields ∧ session → ∃ k : FrameKind, k.code = f.kind ∧ Receives i s b k f)

/-- R66, R76, R77, R10, R91, R133: a check failure on the active bearer with the session OPEN and the discard state CLEAR, and a
sequenced DATA ahead of E by 1 to 32767 on either bearer, is a receive error: the discard state is SET, RECEIVE_ERROR reported, a
REWIND stream asked on the active bearer, and attempt 1 timed. Any other check failure is counted, by the active bearer or
another, and breaks its bearer's run of marks. -/
def Obligations.ReceiveErrorsSetTheDiscardState : Prop :=
  ∀ (s : State) (i : Instr) (b : Bearer) (f : CarryFrame),
    s.resetHeld = false →
      let marks : Receiver := match b with
        | .fibre => { s.receiver with marksFibre := ⟨0, 0⟩ }
        | .radio => { s.receiver with marksRadio := ⟨0, 0⟩ }
      let carry := s.counts.carry
      let up : Nat → Nat := fun n => min (n + 1) 4294967295
      let error : CarryCounts → State := fun c => report .receiveError { s with
        counts := { s.counts with carry := c }
        receiver := match s.active with
          | some a => { marks with
              discard := true
              attempts := 1
              rewindTimer := some (s.clock + rewindPeriod (s.judge a).srtt s.carry.rewindMargin * 1000) }
          | none => { marks with discard := true, attempts := 0, rewindTimer := none }
        sender := { s.sender with rewindPending := match s.active with
          | none => s.sender.rewindPending
          | some a => s.sender.rewindPending || !s.sender.stream.any (fun m =>
              m.kind == .rewind && m.bearer == a && !m.stopping) } }
      (handsOver i s = some (b, none) →
          (s.active = some b → s.session.status = .opened → s.receiver.discard = false →
              exec i s = .next (finish false s (error { carry with checkFailActive := up carry.checkFailActive })))
            ∧ (s.active = some b → (s.session.status ≠ .opened ∨ s.receiver.discard = true) →
              exec i s = .next (finish false s { s with
                receiver := marks
                counts := { s.counts with carry := { carry with checkFailActive := up carry.checkFailActive } } }))
            ∧ (s.active ≠ some b →
              exec i s = .next (finish false s { s with
                receiver := marks
                counts := { s.counts with carry := { carry with checkFailOther := up carry.checkFailOther } } })))
        ∧ (Receives i s b .data f → f.seqFlag = true → s.receiver.discard = false →
          1 ≤ (f.seq - s.receiver.e).toNat → (f.seq - s.receiver.e).toNat ≤ 32767 →
          exec i s = .next (finish false s (error { carry with received := up carry.received, gap := up carry.gap })))

/-- R10, R36, R59, R68, R70, R71, R72, R75, R78: sequenced DATA with the number E is handed over to the delivery queue, a void
stub not, and E advances, which with an active bearer owes the tally and starts its timer unless it runs or has expired with its
TALLY still waiting (log entry 25). A duplicate is counted and handed over to nobody; in the discard state every sequenced DATA is
counted and dropped; unsequenced DATA is handed over in either discard state and leaves E as it is. The ackno is read with the
discard state CLEAR, of a duplicate too, and not read with it SET. What reading an ackno does (readAck) is AcknosReleaseRecords's.
-/
def Obligations.DataIsDeliveredInOrder : Prop :=
  ∀ (s : State) (i : Instr) (b : Bearer) (f : CarryFrame) (l : Lane),
    Receives i s b .data f → l.frameCode = f.lane →
      let d := (f.seq - s.receiver.e).toNat
      let up : Nat → Nat := fun n => min (n + 1) 4294967295
      let carry := { s.counts.carry with received := up s.counts.carry.received }
      let taken : State := { s with
        counts := { s.counts with carry := carry }
        receiver := match b with
          | .fibre => { s.receiver with marksFibre := ⟨0, 0⟩ }
          | .radio => { s.receiver with marksRadio := ⟨0, 0⟩ } }
      let delivered : State :=
        if s.home.delivery.length < 64 then { taken with
          home := { s.home with delivery := s.home.delivery ++ [⟨f.payload, l⟩] }
          counts := { taken.counts with lane := s.counts.lane.set l { s.counts.lane.get l with
            delivered := up (s.counts.lane.get l).delivered } } }
        else { taken with counts := { s.counts with carry := { carry with homeOverflow := up carry.homeOverflow } } }
      let tallyWaits : Bool := match s.active with
        | none => false
        | some a => (s.waiting a).any WaitingFrame.isTally
      let advanced : State → State := fun t => { t with
        receiver := { t.receiver with e := s.receiver.e + 1 }
        sender := { t.sender with
          tallyOwed := s.sender.tallyOwed || s.active.isSome
          tallyTimer := if s.active.isSome = true ∧ s.sender.tallyTimer = none ∧ tallyWaits = false then
              some (s.clock + s.carry.tallyDelay * 1000)
            else s.sender.tallyTimer } }
      (f.seqFlag = false → s.receiver.discard = false → exec i s = .next (finish false s (readAck f.ackno delivered)))
        ∧ (f.seqFlag = false → s.receiver.discard = true → exec i s = .next (finish false s delivered))
        ∧ (f.seqFlag = true → s.receiver.discard = true →
          exec i s = .next (finish false s { taken with counts := { s.counts with
            carry := { carry with discarded := up carry.discarded } } }))
        ∧ (f.seqFlag = true → s.receiver.discard = false → d = 0 →
          exec i s = .next (finish false s (readAck f.ackno (advanced (if f.void then taken else delivered)))))
        ∧ (f.seqFlag = true → s.receiver.discard = false → 32768 ≤ d →
          exec i s = .next (finish false s (readAck f.ackno { taken with counts := { s.counts with
            carry := { carry with duplicate := up carry.duplicate } } })))

/-- R11, R47, R73, R75, R86, R99, R149: a TALLY clears its bearer's mark counters, and with the discard state CLEAR its ackno
releases (A − O) mod 65536 records from the oldest end when it lies from O to N, and is counted otherwise. The cursor of a pass
whose record has gone moves to the oldest record left; a drain whose store becomes empty switches to its target, here with a
return hold above 0 s, to the fibre, or under another pin than AUTO. -/
def Obligations.AcknosReleaseRecords : Prop :=
  ∀ (s : State) (i : Instr) (b source : Bearer) (f : CarryFrame),
    Receives i s b .tally f →
      let oldest := match s.sender.store with
        | [] => s.sender.n
        | r :: _ => r.seq
      let acked := (f.ackno - oldest).toNat
      let valid : Prop := acked ≤ (s.sender.n - oldest).toNat
      let kept := s.sender.store.drop acked
      let marks : Receiver := match b with
        | .fibre => { s.receiver with marksFibre := ⟨0, 0⟩ }
        | .radio => { s.receiver with marksRadio := ⟨0, 0⟩ }
      let carry := s.counts.carry
      let up : Nat → Nat := fun n => min (n + 1) 4294967295
      let taken : State := { s with
        receiver := marks
        counts := { s.counts with carry := { carry with received := up carry.received } } }
      (s.receiver.discard = true → exec i s = .next (finish false s taken))
        ∧ (s.receiver.discard = false → ¬valid → exec i s = .next (finish false s { taken with
          counts := { s.counts with carry := { carry with received := up carry.received, ackInvalid := up carry.ackInvalid } } }))
        ∧ (s.receiver.discard = false → valid → (s.draining = false ∨ s.sender.store = [] ∨ kept ≠ []) →
          exec i s = .next (finish false s { taken with sender := { s.sender with
            store := kept
            cursor := match s.sender.cursor with
              | none => none
              | some c => if c ∈ kept.map StoreRecord.seq then some c else (kept.map StoreRecord.seq).head? } }))
        ∧ (s.receiver.discard = false → valid → s.selector.status = .draining source → s.sender.store ≠ [] → kept = [] →
          s.carry.returnHold ≠ 0 ∨ source = .radio ∨ s.selector.pin ≠ .auto →
          ∃ t, exec i s = .next t ∧ t.selector.status = .on source.other ∧ t.selector.drainTimer = none
            ∧ t.selector.record = s.selector.record.map (fun r => { r with outcome := some .emptied })
            ∧ t.events.flags.getLsbD 7 = true ∧ t.receiver.e = s.receiver.e ∧ t.home = s.home)

/-- R73, R86, R87, R88, R96, R99: a good mark raises its own counter of its bearer up to M_rx and clears the other; its ackno is
read with the discard state CLEAR, and at its threshold in either state (readAck, which AcknosReleaseRecords states). The REWIND
threshold starts or restarts a pass on the bearer that is then active, or leaves one owed; the REPLAY threshold clears the discard
state, the attempts and the rewind timer. -/
def Obligations.MarksReachTheirThresholds : Prop :=
  ∀ (s : State) (i : Instr) (b : Bearer) (f : CarryFrame),
    let m := s.marks b
    let top := s.carry.mRx
    let taken : MarkCounters → State := fun v =>
      State.setMarks b v { s with counts := { s.counts with
        carry := { s.counts.carry with received := min (s.counts.carry.received + 1) 4294967295 } } }
    let acked : Bool → State → State := fun read t => if read then readAck f.ackno t else t
    (Receives i s b .rewind f →
        (top ≤ m.rewind → exec i s = .next (finish false s (acked (!s.receiver.discard) (taken ⟨m.rewind, 0⟩))))
          ∧ (m.rewind + 1 < top →
            exec i s = .next (finish false s (acked (!s.receiver.discard) (taken ⟨m.rewind + 1, 0⟩))))
          ∧ (m.rewind + 1 = top →
            let t := readAck f.ackno (taken ⟨top, 0⟩)
            (t.active = none →
                exec i s = .next (finish false s { t with sender := { t.sender with passOwed := true } }))
              ∧ (t.active.isSome = true →
                (t.sender.passStopping = true ∨ t.sender.pass = .none ∨ t.sender.pass = .resending) →
                exec i s = .next (finish false s { t with
                  sender := { t.sender with pass := .waiting, cursor := none, announcePending := true, passStopping := false }
                  pause := { t.pause with pass := true } }))
              ∧ (t.active.isSome = true → t.sender.passStopping = false →
                (t.sender.pass = .waiting ∨ t.sender.pass = .announcing) → exec i s = .next (finish false s t))))
      ∧ (Receives i s b .replay f →
        (top ≤ m.replay → exec i s = .next (finish false s (acked (!s.receiver.discard) (taken ⟨0, m.replay⟩))))
          ∧ (m.replay + 1 < top →
            exec i s = .next (finish false s (acked (!s.receiver.discard) (taken ⟨0, m.replay + 1⟩))))
          ∧ (m.replay + 1 = top → s.receiver.discard = false →
            exec i s = .next (finish false s (readAck f.ackno (taken ⟨0, top⟩))))
          ∧ (m.replay + 1 = top → s.receiver.discard = true →
            let t := taken ⟨0, top⟩
            exec i s = .next (finish false s (readAck f.ackno { t with
              receiver := { t.receiver with discard := false, attempts := 0, rewindTimer := none } }))))

/-- R16: an OPENED of the current epoch opens an OPENING session: the retry timer stops, the pause reason goes, SESSION_OPEN is
reported, and a waiting OPEN goes too (log entry 13); in OPEN it is a late copy. R18, R19, R14, R152: a restart request empties
the store, counts what is lost, starts the receiver afresh, makes N and E 1, and opens the next epoch, with an OPEN of that epoch
leaving the bearer that is then active or waiting there. Taken in DRAINING it switches the drain with the outcome EMPTIED, also
where the store was empty already (log entry 34); a return hold of 0 s, which under a pin of AUTO turns back from the radio, is
left to ReturnHoldStarts. -/
def Obligations.SessionOpensAndRestarts : Prop :=
  ∀ (s : State) (i : Instr) (b source : Bearer) (f : CarryFrame),
    let marks : Receiver := match b with
      | .fibre => { s.receiver with marksFibre := ⟨0, 0⟩ }
      | .radio => { s.receiver with marksRadio := ⟨0, 0⟩ }
    (Receives i s b .opened f →
        (s.session.status = .opened → exec i s = .next (finish false s { s with receiver := marks }))
          ∧ (s.session.status = .opening → exec i s = .next (finish false s (report .sessionOpen { s with
            receiver := marks
            session := { s.session with status := .opened, retry := none }
            pause := { s.pause with session := false }
            sender := { s.sender with
              waitingFibre := s.sender.waitingFibre.filter fun w => !w.isOpen
              waitingRadio := s.sender.waitingRadio.filter fun w => !w.isOpen } }))))
      ∧ (Receives i s b .opening f →
        ∃ t, exec i s = .next t ∧ t.sender.store = [] ∧ t.sender.n = 1 ∧ t.receiver = Receiver.atReset
          ∧ t.counts.carry.lostOnRestart = min (s.counts.carry.lostOnRestart + s.sender.store.length) 4294967295
          ∧ t.events.flags.getLsbD 11 = true ∧ t.pause.session = true ∧ t.sender.tallyOwed = false
          ∧ t.session.status = .opening
          ∧ t.session.epoch = (if s.session.epoch = 0xFFFF#16 then 1 else s.session.epoch + 1)
          ∧ t.session.retry = (if s.active.isSome then some (s.clock + 1000000) else none)
          ∧ (∀ a, t.active = some a → OpenDueOn a t)
          ∧ (s.draining = false → t.selector = s.selector)
          ∧ (s.selector.status = .draining source → s.carry.returnHold ≠ 0 ∨ source = .radio ∨ s.selector.pin ≠ .auto →
            t.selector.status = .on source.other ∧ t.selector.drainTimer = none ∧ t.pause.selector = false
              ∧ t.selector.record = s.selector.record.map (fun r => { r with outcome := some .emptied })
              ∧ t.events.flags.getLsbD 7 = true)
          ∧ t.lanes = s.lanes ∧ t.home = s.home)

/-- R4, R13, R74, R110 to R112, R131: a PROBE makes an ECHO with its tag, bearer and epoch due on the bearer it came on. An ECHO
answers the entry that holds its tag when that entry's interval runs, with a sample that S takes; is late for an entry of an
interval that has ended, and stray otherwise. An entry whose expiry is reached is counted lost, and the clock is at that moment or
past it (log entry 4); an expiry without an entry changes nothing (log entry 2). Each has its ackno read (readAck, which
AcknosReleaseRecords states) in an OPEN session of its epoch with the discard state CLEAR; that an ECHO is matched first and its
ackno read then is the model's own order (log entry 42). -/
def Obligations.ProbesAreAnswered : Prop :=
  ∀ (s : State) (i : Instr) (b : Bearer) (f : CarryFrame) (e : ProbeEntry) (tag : Byte),
    let reads : Bool := s.session.status == .opened && f.epoch == s.session.epoch && !s.receiver.discard
    let acked : State → State := fun t => if reads then readAck f.ackno t else t
    let cleared : State := s.setMarks b ⟨0, 0⟩
    let up : Nat → Nat := fun n => min (n + 1) 4294967295
    let stray : ProbeCounts → ProbeCounts := fun c => { c with stray := up c.stray }
    let own : Prop := f.bearer = (match b with
      | .fibre => 1
      | .radio => 2)
    let gone : Byte → Judge → Judge := fun t j => { j with table := j.table.filter fun x => x.tag != t }
    let sample := min (s.units - e.sent).toNat 60000
    let smooth : Option Nat → Nat := fun srtt => match srtt with
      | none => sample
      | some t => if t ≤ sample then t + (sample - t) / 8 else t - (t - sample) / 8
    (Receives i s b .probe f →
        exec i s = .next (finish false s (acked (cleared.setWaiting b
          ((s.waiting b).filter (fun w => !w.isEcho) ++ [.echo f.tag f.bearer f.epoch])))))
      ∧ (Receives i s b .echo f →
        (¬own ∨ (s.judge b).table.find? (fun x => x.tag == f.tag) = none →
            exec i s = .next (finish false s (acked (cleared.countProbe b stray))))
          ∧ (own → (s.judge b).table.find? (fun x => x.tag == f.tag) = some e → e.interval ≠ (s.judge b).count →
            exec i s = .next (finish false s (acked ((cleared.mapJudge b (gone f.tag)).countProbe b fun c =>
              { c with late := up c.late }))))
          ∧ (own → (s.judge b).table.find? (fun x => x.tag == f.tag) = some e → e.interval = (s.judge b).count →
            exec i s = .next (finish false s (acked ((cleared.mapJudge b fun j =>
              { gone f.tag j with answered := true, srtt := some (smooth j.srtt) }).countProbe b fun c =>
              { c with answered := up c.answered })))))
      ∧ (s.resetHeld = false →
        ((s.judge b).table.find? (fun x => x.tag == tag) = none →
            exec (.probeEntryExpiry b tag) s = .next (closeEvent s))
          ∧ ((s.judge b).table.find? (fun x => x.tag == tag) = some e →
            exec (.probeEntryExpiry b tag) s = .next (closeEvent (State.countProbe b (fun c => { c with lost := up c.lost })
              (State.mapJudge b (gone tag) { s with clock := max s.clock (e.expiry * 100) })))))

/-! ## The radio module -/

/-- R160, R161, R162, R164: POWERED in WAKING begins the search with round 1; ATTACHED in SEARCHING makes the module READY with a
free handshake and no stall, begins radio judging unless the selector is STOPPED, and starts the linger timer when the module is
not wanted. A round that fails, by ATTACH_FAILED or by its end, begins the next while rounds are left; after the last,
SEARCH_FAILED is reported and the module enters RELEASING with that cause and a DETACH. Without the command outstanding none of
them answers anything. With a linger of 0 s an ATTACHED that finds the module not wanted, and the radio not eligible, as it is while
the module is not READY, releases it in the same event, and the SIGNAL just asked for is abandoned (log entry 17). At a round's end
the clock is at that moment or past it (log entry 4). -/
def Obligations.WakeSearchAndAttach : Prop :=
  ∀ (s here : State) (c : Instr) (limit : Nat),
    s.resetHeld = false →
      (awaits .powerUp s = false ∨ s.radio.status ≠ .waking → exec .powered s = .next (finish false s s))
        ∧ (s.radio.outstanding = some ⟨.powerUp, limit⟩ → s.radio.status = .waking →
          exec .powered s = .next (finish false s { s with
            radio := { s.radio with
              status := .searching
              rounds := 1
              outstanding := some ⟨.attach, s.clock + s.radio.settings.searchRound * 1000000⟩ }
            counts := { s.counts with module := { s.counts.module with
              searchRounds := min (s.counts.module.searchRounds + 1) 4294967295 } } }))
        ∧ (awaits .attach s = false ∨ s.radio.status ≠ .searching → exec .attached s = .next (finish false s s))
        ∧ (s.radio.outstanding = some ⟨.attach, limit⟩ → s.radio.status = .searching → s.radio.settings.linger ≠ 0 →
          let ready : Radio := { s.radio with
            status := .ready
            outstanding := none
            stallCount := 0
            handshake := .free
            held := none
            linger := if s.radio.wantedHeld = .none then some (s.clock + s.radio.settings.linger * 1000000)
              else s.radio.linger }
          (s.selector.status = .stopped → exec .attached s = .next (finish false s { s with radio := ready }))
            ∧ (s.selector.status ≠ .stopped →
              ∃ t, exec .attached s = .next t
                ∧ { t.radio with leaving := s.radio.leaving, handshake := .free, held := none } =
                  { ready with outstanding := some ⟨.signal, s.clock + 2000000⟩ }
                ∧ t.radioJudge.timer = some (s.clock + s.radioJudge.settings.interval * 1000) ∧ t.radioJudge.count = 1
                ∧ t.radioJudge.verdict = .down ∧ t.radioJudge.tag = s.radioJudge.tag + 1 ∧ t.radioJudge.srtt = none
                ∧ t.radioJudge.penalty = s.radioJudge.penalty ∧ t.selector = s.selector ∧ t.session = s.session
                ∧ t.receiver = s.receiver ∧ t.home = s.home))
        ∧ (s.radio.outstanding = some ⟨.attach, limit⟩ → s.radio.status = .searching → s.radio.settings.linger = 0 →
          (s.radio.wantedHeld = .none → s.radioJudge.handed = false →
              ∃ t, exec .attached s = .next t ∧ t.radio.status = .releasing ∧ t.radio.cause = some .linger
                ∧ t.radio.outstanding = some ⟨.detach, s.clock + 2000000⟩ ∧ t.radio.linger = none ∧ t.radio.stallCount = 0
                ∧ t.radioJudge.timer = none
                ∧ t.selector = s.selector ∧ t.session = s.session ∧ t.receiver = s.receiver ∧ t.home = s.home)
            ∧ (s.radio.wantedHeld = .active →
              ∃ t, exec .attached s = .next t ∧ t.radio.status = .ready ∧ t.radio.linger = s.radio.linger
                ∧ t.radio.stallCount = 0 ∧ t.selector = s.selector ∧ t.session = s.session ∧ t.receiver = s.receiver
                ∧ t.home = s.home))
        ∧ (awaits .attach s = false ∨ s.radio.status ≠ .searching →
          exec .attachFailed s = .next (finish false s s) ∧ exec .searchRoundEnd s = .next (finish false s s))
        ∧ (s.radio.outstanding = some ⟨.attach, limit⟩ → s.radio.status = .searching →
          (c = .attachFailed ∧ here = s) ∨ (c = .searchRoundEnd ∧ here = { s with clock := max s.clock limit }) →
          (s.radio.rounds < s.radio.settings.searchRounds →
              exec c s = .next (finish false s { here with
                radio := { s.radio with
                  rounds := s.radio.rounds + 1
                  outstanding := some ⟨.attach, here.clock + s.radio.settings.searchRound * 1000000⟩ }
                counts := { s.counts with module := { s.counts.module with
                  searchRounds := min (s.counts.module.searchRounds + 1) 4294967295 } } }))
            ∧ (s.radio.settings.searchRounds ≤ s.radio.rounds →
              exec c s = .next (finish false s (report .searchFailed { here with radio := { s.radio with
                status := .releasing
                linger := none
                releaseDue := false
                cause := some .searchFailed
                outstanding := some ⟨.detach, here.clock + 2000000⟩ } }))))

/-- R167, R164, R114: a SIGNAL answered in READY is no longer outstanding; a level of −140 to −44 dBm becomes the last signal
reading and, while the radio is judged, the reading of the interval running; any other answer changes neither. The level then held
is acted on: wanted, the linger timer stops; not wanted, it starts, or with a linger of 0 s, and where a release is due, the
module is released. -/
def Obligations.SignalAnswerIsRead : Prop :=
  ∀ (s : State) (level : Option Int) (limit : Nat),
    s.resetHeld = false →
      (awaits .signal s = false ∨ s.radio.status ≠ .ready → exec (.signalAnswer level) s = .next (finish false s s))
        ∧ (s.radio.outstanding = some ⟨.signal, limit⟩ → s.radio.status = .ready → s.radioJudge.handed = s.eligible .radio →
          let valid : Bool := level.any fun v => decide (-140 ≤ v) && decide (v ≤ -44)
          let reading := if valid then level else s.radio.lastReading
          let judge : Judge := { s.radioJudge with
            reading := if valid = true ∧ s.radioJudge.timer.isSome = true then
                level.map fun v => ⟨v, s.radioJudge.count⟩
              else s.radioJudge.reading }
          let startsZero : Prop := s.radio.wantedHeld = .none ∧ s.radio.linger = none ∧ s.radio.settings.linger = 0
          (s.radio.releaseDue = false → ¬startsZero →
              exec (.signalAnswer level) s = .next (finish false s { s with
                radioJudge := judge
                radio := { s.radio with
                  outstanding := none
                  lastReading := reading
                  linger := if s.radio.wantedHeld = .active then none
                    else if s.radio.linger.isSome then s.radio.linger
                    else some (s.clock + s.radio.settings.linger * 1000000) } }))
            ∧ (s.radio.releaseDue = true → s.radio.wantedHeld = .active →
              exec (.signalAnswer level) s = .next (finish false s { s with
                radioJudge := judge
                radio := { s.radio with outstanding := none, lastReading := reading, releaseDue := false } }))
            ∧ ((s.radio.releaseDue = true ∧ s.radio.wantedHeld = .none) ∨ (s.radio.releaseDue = false ∧ startsZero) →
              ∃ t, exec (.signalAnswer level) s = .next t ∧ t.radio.status = .releasing ∧ t.radio.cause = some .linger
                ∧ t.radio.outstanding = some ⟨.detach, s.clock + 2000000⟩ ∧ t.radio.releaseDue = false
                ∧ t.radio.lastReading = reading ∧ t.radioJudge.timer = none ∧ t.radioJudge.verdict = .down
                ∧ t.sender.waitingRadio = []))

/-- R166, R161, R162, R125: DETACHED in READY is hard-fail evidence, which is one step of the penalty for a radio that is UP, ends
radio judging, and takes the module back to SEARCHING while it is wanted and else to RELEASING with the cause UNWANTED; in RELEASING
it is answered with POWER_OFF, and OFF then ends the release: in RESTING after a fault or a failed search, else in OFF, which wakes
at once when the module is wanted. The level that decides after a DETACHED is the one held once the selector has acted on the
evidence (log entry 18). -/
def Obligations.DetachAndRelease : Prop :=
  ∀ (s : State) (limit : Nat),
    s.resetHeld = false →
      (s.radio.status ≠ .ready → s.radio.status ≠ .releasing → exec .detached s = .next (finish false s s))
        ∧ (s.radio.status = .ready →
          ∃ t, exec .detached s = .next t
            ∧ (t.radio.wantedHeld = .active → t.radio.status = .searching ∧ t.radio.rounds = 1
              ∧ t.radio.outstanding = some ⟨.attach, s.clock + s.radio.settings.searchRound * 1000000⟩)
            ∧ (t.radio.wantedHeld = .none → t.radio.status = .releasing ∧ t.radio.cause = some .unwanted
              ∧ t.radio.outstanding = some ⟨.detach, s.clock + 2000000⟩)
            ∧ t.radio.linger = none ∧ t.radio.held = none ∧ t.radio.leaving = s.radio.leaving
            ∧ t.radioJudge.timer = none ∧ t.radioJudge.verdict = .down ∧ t.radioJudge.table = []
            ∧ t.sender.waitingRadio = [] ∧ t.counts.module.faults = s.counts.module.faults
            ∧ (s.radioJudge.verdict = .up → t.events.flags.getLsbD 4 = true)
            ∧ (s.radioJudge.timer.isSome = true → s.radioJudge.verdict = .up →
              t.radioJudge.penalty = min s.radioJudge.damping.ceiling (s.radioJudge.penalty + s.radioJudge.damping.step))
            ∧ t.receiver.e = s.receiver.e ∧ t.home = s.home)
        ∧ (s.radio.status = .releasing → s.radio.outstanding = some ⟨.detach, limit⟩ →
          exec .detached s = .next (finish false s { s with radio := { s.radio with
            outstanding := some ⟨.powerOff, s.clock + 2000000⟩ } }))
        ∧ (s.radio.status = .releasing → awaits .detach s = false → exec .detached s = .next (finish false s s))
        ∧ (awaits .powerOff s = false ∨ s.radio.status ≠ .releasing → exec .offAnswer s = .next (finish false s s))
        ∧ (s.radio.status = .releasing → s.radio.outstanding = some ⟨.powerOff, limit⟩ →
          (s.radio.cause = some .fault ∨ s.radio.cause = some .searchFailed →
              exec .offAnswer s = .next (finish false s { s with radio := { s.radio with
                status := .resting
                modPwr := false
                outstanding := none
                cause := none
                rest := some (s.clock + s.radio.settings.rest * 1000000) } }))
            ∧ (s.radio.cause = some .linger ∨ s.radio.cause = some .unwanted →
              exec .offAnswer s = .next (finish false s { s with radio := { s.radio with
                status := if s.radio.wantedHeld = .active then .waking else .off
                modPwr := if s.radio.wantedHeld = .active then true else false
                outstanding := if s.radio.wantedHeld = .active then
                    some ⟨.powerUp, s.clock + s.radio.settings.wakeLimit * 1000000⟩
                  else none
                rest := none
                cause := none } })))

/-- R159, R161, R118: a command other than ATTACH whose response limit passes has timed out: it is counted, MODULE_FAULT is
reported, a judged radio falls, and the module is released with the cause FAULT, also with a linger of 0 s (log entry 18), or
rested when it was being released. The clock is at the limit or past it (log entry 4); without a command of that kind outstanding
nothing changes (log entry 2). -/
def Obligations.ResponsesTimeOut : Prop :=
  ∀ (s : State) (c : ModuleCommand) (limit : Nat),
    s.resetHeld = false →
      (s.radio.outstanding = none ∨ s.radio.outstanding = some ⟨.attach, limit⟩ →
          exec .responseTimeout s = .next (finish false s s))
        ∧ (s.radio.outstanding = some ⟨c, limit⟩ → c ≠ .attach →
          ∃ t, exec .responseTimeout s = .next t ∧ t.clock = max s.clock limit
            ∧ t.counts.module.timeouts = min (s.counts.module.timeouts + 1) 4294967295
            ∧ t.counts.module.faults = min (s.counts.module.faults + 1) 4294967295
            ∧ t.events.flags.getLsbD 16 = true
            ∧ (s.radioJudge.timer.isSome = true → t.radioJudge.verdict = .down)
            ∧ (s.radioJudge.timer.isSome = true → s.radioJudge.verdict = .up →
              t.radioJudge.penalty = min s.radioJudge.damping.ceiling (s.radioJudge.penalty + s.radioJudge.damping.step))
            ∧ (s.radio.status = .waking ∨ s.radio.status = .ready →
              t.radio.status = .releasing ∧ t.radio.cause = some .fault
                ∧ t.radio.outstanding = some ⟨.detach, max s.clock limit + 2000000⟩)
            ∧ (s.radio.status = .ready → t.radioJudge.timer = none ∧ t.sender.waitingRadio = [])
            ∧ (s.radio.status = .releasing → t.radio.status = .resting ∧ t.radio.modPwr = false ∧ t.radio.outstanding = none
              ∧ t.radio.rest = some (max s.clock limit + s.radio.settings.rest * 1000000))
            ∧ t.receiver.e = s.receiver.e ∧ t.home = s.home)

/-- R163, R164: the linger timer's expiry releases a READY module with the cause LINGER, or makes the release due behind a SIGNAL
that is outstanding; the rest timer's expiry takes the module to OFF, which wakes at once when it is wanted. The clock is at the
moment the timer fell due or past it (log entry 4), and the expiry of a stopped timer changes nothing (log entry 2). -/
def Obligations.LingerAndRestExpire : Prop :=
  ∀ (s : State) (due : Nat) (o : Outstanding),
    s.resetHeld = false →
      (s.radio.linger = none → exec .lingerExpiry s = .next (finish false s s))
        ∧ (s.radio.rest = none → exec .restTimerExpiry s = .next (finish false s s))
        ∧ (s.radio.linger = some due → s.radio.status = .ready → s.radio.outstanding = some o →
          exec .lingerExpiry s = .next (finish false s { s with
            clock := max s.clock due
            radio := { s.radio with linger := none, releaseDue := true } }))
        ∧ (s.radio.linger = some due → s.radio.status = .ready → s.radio.outstanding = none →
          ∃ t, exec .lingerExpiry s = .next t ∧ t.clock = max s.clock due
            ∧ t.radio.status = .releasing ∧ t.radio.cause = some .linger ∧ t.radio.linger = none
            ∧ t.radio.outstanding = some ⟨.detach, max s.clock due + 2000000⟩
            ∧ t.radioJudge.timer = none ∧ t.radioJudge.verdict = .down ∧ t.radioJudge.table = []
            ∧ t.radioJudge.penalty = s.radioJudge.penalty ∧ t.sender.waitingRadio = []
            ∧ (s.radioJudge.verdict = .up → t.events.flags.getLsbD 4 = true)
            ∧ t.receiver.e = s.receiver.e ∧ t.home = s.home)
        ∧ (s.radio.rest = some due → s.radio.status = .resting →
          exec .restTimerExpiry s = .next (finish false s { s with
            clock := max s.clock due
            radio := { s.radio with
              status := if s.radio.wantedHeld = .active then .waking else .off
              modPwr := if s.radio.wantedHeld = .active then true else false
              outstanding := if s.radio.wantedHeld = .active then
                  some ⟨.powerUp, max s.clock due + s.radio.settings.wakeLimit * 1000000⟩
                else none
              rest := none
              cause := none } }))

/-- R168, R169, R170, R125: the poll start ends SETTLING in WATCHING for the ready limit; MOD_READY seen in WATCHING frees the
handshake, and in STALLED, as the ready limit there, offers the same unit again, without building it anew; the ready limit passing
in WATCHING is a stall, which waits below the stall limit and at it releases the module as failed, with one step of the penalty for
a radio that is UP; and the pacing gap's end frees the handshake. MOD_READY is read in WATCHING and STALLED alone, not in SETTLING,
and not while the module is not READY. The model's own: the clock is at the moment that passes or past it (log entry 4), a command
that the handshake's state does not wait for changes nothing (log entry 2), MOD_READY_SEEN is the event that the level is seen (log
entry 30), a unit offered again whose ackno is still E clears the tally owed on the active bearer (log entry 43) and a PROBE offered
again makes no probe table entry (log entry 44), the cause is FAULT also with a linger of 0 s (log entry 18), and a watch after a
unit that HALT cut off stalls as any other (log entry 11): with no unit held the wait ends with the handshake free and the stall
count kept. -/
def Obligations.HandshakeAdvances : Prop :=
  ∀ (s : State) (due : Nat) (l : Leaving),
    s.resetHeld = false →
      let at_ : Handshake → State := fun h => { s with clock := max s.clock due, radio := { s.radio with handshake := h } }
      let offered : State → State := fun t => settleTally .radio l.frame.ackno { t with radio := { t.radio with
        leaving := some { l with reoffer := true }
        held := none
        handshake := .handing .readyWait } }
      let limit := s.radio.settings.readyLimit * 1000
      (s.radio.handshake = .settling due →
          exec .pollStartPasses s = .next (finish false s (at_ (.watching (max s.clock due + limit)))))
        ∧ (s.radio.handshake = .pacing due → exec .pacingGapEnd s = .next (finish false s (at_ .free)))
        ∧ ((∀ d, s.radio.handshake ≠ .settling d) → exec .pollStartPasses s = .next (finish false s s))
        ∧ ((∀ d, s.radio.handshake ≠ .pacing d) → exec .pacingGapEnd s = .next (finish false s s))
        ∧ (s.radio.status ≠ .ready ∨ ((∀ d, s.radio.handshake ≠ .watching d) ∧ ∀ d, s.radio.handshake ≠ .stalled d) →
          exec .modReadySeen s = .next (finish false s s) ∧ exec .readyLimitPasses s = .next (finish false s s))
        ∧ (s.radio.status = .ready → s.radio.handshake = .watching due →
          exec .modReadySeen s = .next (finish false s { s with
              radio := { s.radio with handshake := .free, stallCount := 0, held := none } })
            ∧ (s.radio.stallCount + 1 < s.radio.settings.stallLimit →
              exec .readyLimitPasses s = .next (finish false s { s with
                clock := max s.clock due
                radio := { s.radio with
                  stallCount := s.radio.stallCount + 1
                  handshake := .stalled (max s.clock due + limit) }
                counts := { s.counts with module := { s.counts.module with
                  stalls := min (s.counts.module.stalls + 1) 4294967295 } } }))
            ∧ (s.radio.settings.stallLimit ≤ s.radio.stallCount + 1 →
              ∃ t, exec .readyLimitPasses s = .next t ∧ t.radio.status = .releasing ∧ t.radio.cause = some .fault
                ∧ t.radio.outstanding = some ⟨.detach, max s.clock due + 2000000⟩ ∧ t.radio.held = none
                ∧ t.radioJudge.timer = none ∧ t.radioJudge.verdict = .down ∧ t.sender.waitingRadio = []
                ∧ t.events.flags.getLsbD 16 = true
                ∧ (s.radioJudge.timer.isSome = true → s.radioJudge.verdict = .up →
                  t.radioJudge.penalty = min s.radioJudge.damping.ceiling (s.radioJudge.penalty + s.radioJudge.damping.step))
                ∧ t.counts.module.stalls = min (s.counts.module.stalls + 1) 4294967295
                ∧ t.counts.module.faults = min (s.counts.module.faults + 1) 4294967295
                ∧ t.receiver.e = s.receiver.e ∧ t.home = s.home))
        ∧ (s.radio.status = .ready → s.radio.handshake = .stalled due → s.radio.held = some l →
          exec .modReadySeen s = .next (finish false s (offered s))
            ∧ exec .readyLimitPasses s = .next (finish false s (offered { s with clock := max s.clock due })))
        ∧ (s.radio.status = .ready → s.radio.handshake = .stalled due → s.radio.held = none →
          exec .modReadySeen s = .next (finish false s { s with radio := { s.radio with handshake := .free } })
            ∧ exec .readyLimitPasses s = .next (finish false s (at_ .free)))

/-! ## What every command leaves as it is -/

/-- What a command may change, by the group it belongs to. A command outside `changesSettings` leaves every setting, the four lane
profiles, the supply, the pin, the mask, the attention mode and the links' levels as they are; the delivery queue changes by a
delivery and an arrival alone, E by an arrival alone, the envelope parser by the host's bytes and their gap alone, and the inbound
queue by those and a taken request alone; power-on and MESSAGE_SENT, which may be the soft reset, apart. What the home port sent
last changes by a delivery alone, and what the UART sent last by MESSAGE_SENT alone (the model's own record, log entry 40). -/
def Obligations.SettingsAndQueuesChangeByTheirCommandsAlone : Prop :=
  ∀ (c : Instr) (s t : State),
    exec c s = .next t →
      (changesSettings c = false → SettingsKept s t)
        ∧ (changesDelivery c = false → t.home.delivery = s.home.delivery)
        ∧ (changesExpected c = false → t.receiver.e = s.receiver.e)
        ∧ (changesParser c = false → t.link.rx = s.link.rx ∧ t.link.rxTimer = s.link.rxTimer)
        ∧ (changesParser c = false → takesRequest c = false → t.link.inbound = s.link.inbound)
        ∧ (c ≠ .deliveryComplete → t.home.sent = s.home.sent) ∧ (c ≠ .messageSent → t.link.sent = s.link.sent)

/-- R182: the counts never fall but by a clearing READ_COUNTS, power-on and soft reset. -/
def Obligations.CountsNeverFall : Prop :=
  ∀ (c : Instr) (s t : State) (g : CountGroup),
    CountsBounded s.counts → c ≠ .readCounts → c ≠ .powerOn → c ≠ .messageSent → exec c s = .next t →
      List.Forall₂ (fun before after => before ≤ after) (s.counts.inOrder g) (t.counts.inOrder g)

/-- R176, R177, R178, R31, R32, R55, R181: what a report does, and the end of an event. A report of an event whose flag is set
changes nothing; else it sets the flag and, when the flag is unmasked, raises the notice number by 1 and offers a notice under the
number that stood, with the flag and the timebase in ms, which joins the outbound queue or, with 8 messages waiting, is dropped and
counted LINK notice-lost. The end of an event serves both ports and closes the event at the event unit. It is a dispatch opportunity
where a frame has joined a lane or a SET_LANE was accepted, where a pause reason stood before it, where the store has released
records, and where the active bearer or its port has become so or free; a port that is served examines the lanes only while no pause
reason stands and it can take a frame (log entry 16). It leaves every other block's part of the state as it is: what the statements
above give a command's event before its end stands after it too. No flag but STALE_VOIDED and LANE_DROP changes there. At the event
unit alone, the notices that wait read the conditions and ATTN is worked out, and nothing else changes. -/
def Obligations.TheEndOfAnEventKeeps : Prop :=
  ∀ (joined : Bool) (s u : State) (f : EventFlag),
    let t := finish joined s u
    let paused : Bool := s.pause.session || s.pause.selector || s.pause.pass || s.pause.stream
    let opportunity : Bool := joined || paused || decide (u.sender.store.length < s.sender.store.length)
      || decide (s.active ≠ u.active) || (match u.active with
        | some b => !s.portFree b
        | none => false)
    let flagged : State := { u with events := { u.events with flags := u.events.flags ||| BitVec.twoPow 19 f.number } }
    let numbered : State := { flagged with events := { flagged.events with noticeNumber := u.events.noticeNumber + 1 } }
    let clear : Prop := u.events.flags.getLsbD f.number = false
    let unmasked : Prop := u.events.mask.getLsbD f.number = false
    t = closeEvent (serve opportunity .radio (serve opportunity .fibre u))
      ∧ (¬clear → report f u = u) ∧ (clear → ¬unmasked → report f u = flagged)
      ∧ (clear → unmasked → u.link.outbound.length < 8 → report f u = { numbered with
          link := { u.link with outbound := u.link.outbound
            ++ [.notice u.events.noticeNumber f (BitVec.ofNat 32 (u.clock / 1000)) none] } })
      ∧ (clear → unmasked → 8 ≤ u.link.outbound.length → report f u = { numbered with
          counts := { u.counts with link := { u.counts.link with noticeLost := min (u.counts.link.noticeLost + 1) 4294967295 } } })
      ∧ t.pending = u.pending ∧ t.clock = u.clock ∧ t.ties = u.ties ∧ t.resetHeld = u.resetHeld ∧ t.home = u.home
      ∧ t.session = u.session ∧ t.receiver = u.receiver ∧ t.selector = u.selector ∧ SettingsKept u t
      ∧ t.link.inbound = u.link.inbound ∧ t.link.rx = u.link.rx ∧ t.link.rxTimer = u.link.rxTimer
      ∧ t.link.resetTaken = u.link.resetTaken ∧ t.link.sent = u.link.sent
      ∧ { t.fibreJudge with table := u.fibreJudge.table } = u.fibreJudge
      ∧ { t.radioJudge with table := u.radioJudge.table } = u.radioJudge
      ∧ { t.radio with leaving := u.radio.leaving, held := u.radio.held, handshake := u.radio.handshake } = u.radio
      ∧ t.pause.session = u.pause.session ∧ t.pause.selector = u.pause.selector
      ∧ t.sender.tallyTimer ∈ [u.sender.tallyTimer, none] ∧ t.sender.passOwed = u.sender.passOwed
      ∧ (∀ k : Fin 19, k ≠ 14 → k ≠ 15 → t.events.flags.getLsbD k = u.events.flags.getLsbD k)
      ∧ (PortsBusy u → t = closeEvent u) ∧ AttnLaw t ∧ NoticesRead t
      ∧ closeEvent u = { u with
          events := { u.events with attn := (closeEvent u).events.attn }
          link := { u.link with outbound := u.link.outbound.map (OutMessage.withConditions (conditions u)) } }

/-! ## Invariants that every step keeps -/

/-- R27, R28, R36, R110, R173, R176, R182: every queue and probe table stays within its places, every lane within its limit and
the limits within the 512 slots, every count within its bound; and every notice that waits has its conditions (R178). -/
def Obligations.EveryStepKeepsTheBounds : Prop :=
  ∀ s t : State,
    step s = .next t →
      (QueuesBounded s → QueuesBounded t) ∧ (LanesBounded s.lanes → LanesBounded t.lanes)
        ∧ (CountsBounded s.counts → CountsBounded t.counts) ∧ (NoticesRead s → NoticesRead t)

/-- R44, R45: the replay store never holds more than 1,024 records or 2,048 cells, its records carry consecutive numbers up to the
one before N, and the cursor of a pass stands at a record that is held. -/
def Obligations.EveryStepKeepsTheStoreInOrder : Prop :=
  ∀ s t : State, StoreLaw s.sender → step s = .next t → StoreLaw t.sender

/-- R181: ATTN is asserted in LATCH mode exactly while an unmasked flag is set, and in FOLLOW mode exactly while a condition holds
whose related flag is unmasked. -/
def Obligations.EveryStepKeepsAttn : Prop :=
  ∀ s t : State, AttnLaw s → step s = .next t → AttnLaw t

/-- R12, R15, R16, R31, R106, R121, R126, R136, R137, R141, R145, R148, R155, R157: the laws that tie the blocks to one another,
among them that each pause reason stands exactly while its cause does, that a bearer is active only while it is eligible and
permitted, that the judges' and the selector's timers run exactly when they are to, that the wanted level is the one R155 gives,
and that the module's state fixes MOD_PWR, the outstanding command and the timers. That the stream's reason goes with a request
withdrawn before its stream started is log entry 26. -/
def Obligations.EveryStepKeepsTheLaws : Prop :=
  ∀ s t : State, Lawful s → step s = .next t → Lawful t

/-- The part right after reset meets every invariant above. -/
def Obligations.ResetMeetsTheInvariants : Prop :=
  QueuesBounded State.reset ∧ LanesBounded State.reset.lanes ∧ CountsBounded State.reset.counts ∧ NoticesRead State.reset
    ∧ StoreLaw State.reset.sender ∧ AttnLaw State.reset ∧ Lawful State.reset
end

