-- ==== Sys2Proof/Laws/State.lean ====
section
/-! SUPPORT. Frame lemmas: the fields that each small writer of State leaves as they are. -/

namespace Sys2Proof.Machine

@[simp] theorem State.mapJudge_at (f : Judge → Judge) (s : State) :
    (s.mapJudge .fibre f).fibreJudge = f s.fibreJudge ∧ (s.mapJudge .fibre f).radioJudge = s.radioJudge
      ∧ (s.mapJudge .radio f).radioJudge = f s.radioJudge ∧ (s.mapJudge .radio f).fibreJudge = s.fibreJudge := ⟨rfl, rfl, rfl, rfl⟩

@[simp] theorem Judge.cleared_keeps (j : Judge) :
    j.cleared.settings = j.settings ∧ j.cleared.penalty = j.penalty ∧ j.cleared.suppressed = j.suppressed
      ∧ j.cleared.decay = j.decay ∧ j.cleared.damping = j.damping ∧ j.cleared.handed = j.handed ∧ j.cleared.tag = j.tag :=
  ⟨rfl, rfl, rfl, rfl, rfl, rfl, rfl⟩

@[simp] theorem State.advanceTo_frame (m : Nat) (s : State) :
    (s.advanceTo m).pending = s.pending
      ∧ (s.advanceTo m).ties = s.ties
      ∧ (s.advanceTo m).resetHeld = s.resetHeld
      ∧ (s.advanceTo m).home = s.home
      ∧ (s.advanceTo m).classMap = s.classMap
      ∧ (s.advanceTo m).lanes = s.lanes
      ∧ (s.advanceTo m).pause = s.pause
      ∧ (s.advanceTo m).session = s.session
      ∧ (s.advanceTo m).sender = s.sender
      ∧ (s.advanceTo m).receiver = s.receiver
      ∧ (s.advanceTo m).carry = s.carry
      ∧ (s.advanceTo m).fibre = s.fibre
      ∧ (s.advanceTo m).fibreJudge = s.fibreJudge
      ∧ (s.advanceTo m).radioJudge = s.radioJudge
      ∧ (s.advanceTo m).selector = s.selector
      ∧ (s.advanceTo m).radio = s.radio
      ∧ (s.advanceTo m).link = s.link
      ∧ (s.advanceTo m).events = s.events
      ∧ (s.advanceTo m).counts = s.counts := by simp [State.advanceTo]

@[simp] theorem State.countLane_frame (l : Lane) (f : LaneCounts → LaneCounts) (s : State) :
    (s.countLane l f).pending = s.pending
      ∧ (s.countLane l f).clock = s.clock
      ∧ (s.countLane l f).ties = s.ties
      ∧ (s.countLane l f).resetHeld = s.resetHeld
      ∧ (s.countLane l f).home = s.home
      ∧ (s.countLane l f).classMap = s.classMap
      ∧ (s.countLane l f).lanes = s.lanes
      ∧ (s.countLane l f).pause = s.pause
      ∧ (s.countLane l f).session = s.session
      ∧ (s.countLane l f).sender = s.sender
      ∧ (s.countLane l f).receiver = s.receiver
      ∧ (s.countLane l f).carry = s.carry
      ∧ (s.countLane l f).fibre = s.fibre
      ∧ (s.countLane l f).fibreJudge = s.fibreJudge
      ∧ (s.countLane l f).radioJudge = s.radioJudge
      ∧ (s.countLane l f).selector = s.selector
      ∧ (s.countLane l f).radio = s.radio
      ∧ (s.countLane l f).link = s.link
      ∧ (s.countLane l f).events = s.events
      ∧ (s.countLane l f).counts.carry = s.counts.carry
      ∧ (s.countLane l f).counts.probeFibre = s.counts.probeFibre
      ∧ (s.countLane l f).counts.probeRadio = s.counts.probeRadio
      ∧ (s.countLane l f).counts.module = s.counts.module
      ∧ (s.countLane l f).counts.link = s.counts.link := by simp [State.countLane]

@[simp] theorem State.countCarry_frame (f : CarryCounts → CarryCounts) (s : State) :
    (s.countCarry f).pending = s.pending
      ∧ (s.countCarry f).clock = s.clock
      ∧ (s.countCarry f).ties = s.ties
      ∧ (s.countCarry f).resetHeld = s.resetHeld
      ∧ (s.countCarry f).home = s.home
      ∧ (s.countCarry f).classMap = s.classMap
      ∧ (s.countCarry f).lanes = s.lanes
      ∧ (s.countCarry f).pause = s.pause
      ∧ (s.countCarry f).session = s.session
      ∧ (s.countCarry f).sender = s.sender
      ∧ (s.countCarry f).receiver = s.receiver
      ∧ (s.countCarry f).carry = s.carry
      ∧ (s.countCarry f).fibre = s.fibre
      ∧ (s.countCarry f).fibreJudge = s.fibreJudge
      ∧ (s.countCarry f).radioJudge = s.radioJudge
      ∧ (s.countCarry f).selector = s.selector
      ∧ (s.countCarry f).radio = s.radio
      ∧ (s.countCarry f).link = s.link
      ∧ (s.countCarry f).events = s.events
      ∧ (s.countCarry f).counts.lane = s.counts.lane
      ∧ (s.countCarry f).counts.probeFibre = s.counts.probeFibre
      ∧ (s.countCarry f).counts.probeRadio = s.counts.probeRadio
      ∧ (s.countCarry f).counts.module = s.counts.module
      ∧ (s.countCarry f).counts.link = s.counts.link := by simp [State.countCarry]

@[simp] theorem State.countProbe_frame (b : Bearer) (f : ProbeCounts → ProbeCounts) (s : State) :
    (s.countProbe b f).pending = s.pending
      ∧ (s.countProbe b f).clock = s.clock
      ∧ (s.countProbe b f).ties = s.ties
      ∧ (s.countProbe b f).resetHeld = s.resetHeld
      ∧ (s.countProbe b f).home = s.home
      ∧ (s.countProbe b f).classMap = s.classMap
      ∧ (s.countProbe b f).lanes = s.lanes
      ∧ (s.countProbe b f).pause = s.pause
      ∧ (s.countProbe b f).session = s.session
      ∧ (s.countProbe b f).sender = s.sender
      ∧ (s.countProbe b f).receiver = s.receiver
      ∧ (s.countProbe b f).carry = s.carry
      ∧ (s.countProbe b f).fibre = s.fibre
      ∧ (s.countProbe b f).fibreJudge = s.fibreJudge
      ∧ (s.countProbe b f).radioJudge = s.radioJudge
      ∧ (s.countProbe b f).selector = s.selector
      ∧ (s.countProbe b f).radio = s.radio
      ∧ (s.countProbe b f).link = s.link
      ∧ (s.countProbe b f).events = s.events
      ∧ (s.countProbe b f).counts.lane = s.counts.lane
      ∧ (s.countProbe b f).counts.carry = s.counts.carry
      ∧ (s.countProbe b f).counts.module = s.counts.module
      ∧ (s.countProbe b f).counts.link = s.counts.link := by
  simp only [State.countProbe]
  split <;> simp

@[simp] theorem State.countModule_frame (f : ModuleCounts → ModuleCounts) (s : State) :
    (s.countModule f).pending = s.pending
      ∧ (s.countModule f).clock = s.clock
      ∧ (s.countModule f).ties = s.ties
      ∧ (s.countModule f).resetHeld = s.resetHeld
      ∧ (s.countModule f).home = s.home
      ∧ (s.countModule f).classMap = s.classMap
      ∧ (s.countModule f).lanes = s.lanes
      ∧ (s.countModule f).pause = s.pause
      ∧ (s.countModule f).session = s.session
      ∧ (s.countModule f).sender = s.sender
      ∧ (s.countModule f).receiver = s.receiver
      ∧ (s.countModule f).carry = s.carry
      ∧ (s.countModule f).fibre = s.fibre
      ∧ (s.countModule f).fibreJudge = s.fibreJudge
      ∧ (s.countModule f).radioJudge = s.radioJudge
      ∧ (s.countModule f).selector = s.selector
      ∧ (s.countModule f).radio = s.radio
      ∧ (s.countModule f).link = s.link
      ∧ (s.countModule f).events = s.events
      ∧ (s.countModule f).counts.lane = s.counts.lane
      ∧ (s.countModule f).counts.carry = s.counts.carry
      ∧ (s.countModule f).counts.probeFibre = s.counts.probeFibre
      ∧ (s.countModule f).counts.probeRadio = s.counts.probeRadio
      ∧ (s.countModule f).counts.link = s.counts.link := by simp [State.countModule]

@[simp] theorem State.countLink_frame (f : LinkCounts → LinkCounts) (s : State) :
    (s.countLink f).pending = s.pending
      ∧ (s.countLink f).clock = s.clock
      ∧ (s.countLink f).ties = s.ties
      ∧ (s.countLink f).resetHeld = s.resetHeld
      ∧ (s.countLink f).home = s.home
      ∧ (s.countLink f).classMap = s.classMap
      ∧ (s.countLink f).lanes = s.lanes
      ∧ (s.countLink f).pause = s.pause
      ∧ (s.countLink f).session = s.session
      ∧ (s.countLink f).sender = s.sender
      ∧ (s.countLink f).receiver = s.receiver
      ∧ (s.countLink f).carry = s.carry
      ∧ (s.countLink f).fibre = s.fibre
      ∧ (s.countLink f).fibreJudge = s.fibreJudge
      ∧ (s.countLink f).radioJudge = s.radioJudge
      ∧ (s.countLink f).selector = s.selector
      ∧ (s.countLink f).radio = s.radio
      ∧ (s.countLink f).link = s.link
      ∧ (s.countLink f).events = s.events
      ∧ (s.countLink f).counts.lane = s.counts.lane
      ∧ (s.countLink f).counts.carry = s.counts.carry
      ∧ (s.countLink f).counts.probeFibre = s.counts.probeFibre
      ∧ (s.countLink f).counts.probeRadio = s.counts.probeRadio
      ∧ (s.countLink f).counts.module = s.counts.module := by simp [State.countLink]

@[simp] theorem State.setQueue_frame (l : Lane) (q : List QueuedFrame) (s : State) :
    (s.setQueue l q).pending = s.pending
      ∧ (s.setQueue l q).clock = s.clock
      ∧ (s.setQueue l q).ties = s.ties
      ∧ (s.setQueue l q).resetHeld = s.resetHeld
      ∧ (s.setQueue l q).home = s.home
      ∧ (s.setQueue l q).classMap = s.classMap
      ∧ (s.setQueue l q).pause = s.pause
      ∧ (s.setQueue l q).session = s.session
      ∧ (s.setQueue l q).sender = s.sender
      ∧ (s.setQueue l q).receiver = s.receiver
      ∧ (s.setQueue l q).carry = s.carry
      ∧ (s.setQueue l q).fibre = s.fibre
      ∧ (s.setQueue l q).fibreJudge = s.fibreJudge
      ∧ (s.setQueue l q).radioJudge = s.radioJudge
      ∧ (s.setQueue l q).selector = s.selector
      ∧ (s.setQueue l q).radio = s.radio
      ∧ (s.setQueue l q).link = s.link
      ∧ (s.setQueue l q).events = s.events
      ∧ (s.setQueue l q).counts = s.counts := by simp [State.setQueue]

@[simp] theorem State.mapJudge_frame (b : Bearer) (f : Judge → Judge) (s : State) :
    (s.mapJudge b f).pending = s.pending
      ∧ (s.mapJudge b f).clock = s.clock
      ∧ (s.mapJudge b f).ties = s.ties
      ∧ (s.mapJudge b f).resetHeld = s.resetHeld
      ∧ (s.mapJudge b f).home = s.home
      ∧ (s.mapJudge b f).classMap = s.classMap
      ∧ (s.mapJudge b f).lanes = s.lanes
      ∧ (s.mapJudge b f).pause = s.pause
      ∧ (s.mapJudge b f).session = s.session
      ∧ (s.mapJudge b f).sender = s.sender
      ∧ (s.mapJudge b f).receiver = s.receiver
      ∧ (s.mapJudge b f).carry = s.carry
      ∧ (s.mapJudge b f).fibre = s.fibre
      ∧ (s.mapJudge b f).selector = s.selector
      ∧ (s.mapJudge b f).radio = s.radio
      ∧ (s.mapJudge b f).link = s.link
      ∧ (s.mapJudge b f).events = s.events
      ∧ (s.mapJudge b f).counts = s.counts := by
  simp only [State.mapJudge]
  split <;> simp

@[simp] theorem State.setWaiting_frame (b : Bearer) (w : List WaitingFrame) (s : State) :
    (s.setWaiting b w).pending = s.pending
      ∧ (s.setWaiting b w).clock = s.clock
      ∧ (s.setWaiting b w).ties = s.ties
      ∧ (s.setWaiting b w).resetHeld = s.resetHeld
      ∧ (s.setWaiting b w).home = s.home
      ∧ (s.setWaiting b w).classMap = s.classMap
      ∧ (s.setWaiting b w).lanes = s.lanes
      ∧ (s.setWaiting b w).pause = s.pause
      ∧ (s.setWaiting b w).session = s.session
      ∧ (s.setWaiting b w).receiver = s.receiver
      ∧ (s.setWaiting b w).carry = s.carry
      ∧ (s.setWaiting b w).fibre = s.fibre
      ∧ (s.setWaiting b w).fibreJudge = s.fibreJudge
      ∧ (s.setWaiting b w).radioJudge = s.radioJudge
      ∧ (s.setWaiting b w).selector = s.selector
      ∧ (s.setWaiting b w).radio = s.radio
      ∧ (s.setWaiting b w).link = s.link
      ∧ (s.setWaiting b w).events = s.events
      ∧ (s.setWaiting b w).counts = s.counts
      ∧ (s.setWaiting b w).sender.n = s.sender.n
      ∧ (s.setWaiting b w).sender.store = s.sender.store
      ∧ (s.setWaiting b w).sender.tallyOwed = s.sender.tallyOwed
      ∧ (s.setWaiting b w).sender.tallyTimer = s.sender.tallyTimer
      ∧ (s.setWaiting b w).sender.stream = s.sender.stream
      ∧ (s.setWaiting b w).sender.rewindPending = s.sender.rewindPending
      ∧ (s.setWaiting b w).sender.announcePending = s.sender.announcePending
      ∧ (s.setWaiting b w).sender.pass = s.sender.pass
      ∧ (s.setWaiting b w).sender.cursor = s.sender.cursor
      ∧ (s.setWaiting b w).sender.passStopping = s.sender.passStopping
      ∧ (s.setWaiting b w).sender.passOwed = s.sender.passOwed := by
  simp only [State.setWaiting]
  split <;> simp

@[simp] theorem State.setMarks_frame (b : Bearer) (m : MarkCounters) (s : State) :
    (s.setMarks b m).pending = s.pending
      ∧ (s.setMarks b m).clock = s.clock
      ∧ (s.setMarks b m).ties = s.ties
      ∧ (s.setMarks b m).resetHeld = s.resetHeld
      ∧ (s.setMarks b m).home = s.home
      ∧ (s.setMarks b m).classMap = s.classMap
      ∧ (s.setMarks b m).lanes = s.lanes
      ∧ (s.setMarks b m).pause = s.pause
      ∧ (s.setMarks b m).session = s.session
      ∧ (s.setMarks b m).sender = s.sender
      ∧ (s.setMarks b m).carry = s.carry
      ∧ (s.setMarks b m).fibre = s.fibre
      ∧ (s.setMarks b m).fibreJudge = s.fibreJudge
      ∧ (s.setMarks b m).radioJudge = s.radioJudge
      ∧ (s.setMarks b m).selector = s.selector
      ∧ (s.setMarks b m).radio = s.radio
      ∧ (s.setMarks b m).link = s.link
      ∧ (s.setMarks b m).events = s.events
      ∧ (s.setMarks b m).counts = s.counts
      ∧ (s.setMarks b m).receiver.e = s.receiver.e
      ∧ (s.setMarks b m).receiver.discard = s.receiver.discard
      ∧ (s.setMarks b m).receiver.attempts = s.receiver.attempts
      ∧ (s.setMarks b m).receiver.rewindTimer = s.receiver.rewindTimer := by
  simp only [State.setMarks]
  split <;> simp

@[simp] theorem State.addWaiting_frame (b : Bearer) (w : WaitingFrame) (s : State) :
    (s.addWaiting b w).pending = s.pending
      ∧ (s.addWaiting b w).clock = s.clock
      ∧ (s.addWaiting b w).ties = s.ties
      ∧ (s.addWaiting b w).resetHeld = s.resetHeld
      ∧ (s.addWaiting b w).home = s.home
      ∧ (s.addWaiting b w).classMap = s.classMap
      ∧ (s.addWaiting b w).lanes = s.lanes
      ∧ (s.addWaiting b w).pause = s.pause
      ∧ (s.addWaiting b w).session = s.session
      ∧ (s.addWaiting b w).receiver = s.receiver
      ∧ (s.addWaiting b w).carry = s.carry
      ∧ (s.addWaiting b w).fibre = s.fibre
      ∧ (s.addWaiting b w).fibreJudge = s.fibreJudge
      ∧ (s.addWaiting b w).radioJudge = s.radioJudge
      ∧ (s.addWaiting b w).selector = s.selector
      ∧ (s.addWaiting b w).radio = s.radio
      ∧ (s.addWaiting b w).link = s.link
      ∧ (s.addWaiting b w).events = s.events
      ∧ (s.addWaiting b w).counts = s.counts
      ∧ (s.addWaiting b w).sender.n = s.sender.n
      ∧ (s.addWaiting b w).sender.store = s.sender.store
      ∧ (s.addWaiting b w).sender.tallyOwed = s.sender.tallyOwed
      ∧ (s.addWaiting b w).sender.tallyTimer = s.sender.tallyTimer
      ∧ (s.addWaiting b w).sender.stream = s.sender.stream
      ∧ (s.addWaiting b w).sender.rewindPending = s.sender.rewindPending
      ∧ (s.addWaiting b w).sender.announcePending = s.sender.announcePending
      ∧ (s.addWaiting b w).sender.pass = s.sender.pass
      ∧ (s.addWaiting b w).sender.cursor = s.sender.cursor
      ∧ (s.addWaiting b w).sender.passStopping = s.sender.passStopping
      ∧ (s.addWaiting b w).sender.passOwed = s.sender.passOwed := by simp [State.addWaiting]

@[simp] theorem State.keepWaiting_frame (keep : WaitingFrame → Bool) (s : State) :
    (s.keepWaiting keep).pending = s.pending
      ∧ (s.keepWaiting keep).clock = s.clock
      ∧ (s.keepWaiting keep).ties = s.ties
      ∧ (s.keepWaiting keep).resetHeld = s.resetHeld
      ∧ (s.keepWaiting keep).home = s.home
      ∧ (s.keepWaiting keep).classMap = s.classMap
      ∧ (s.keepWaiting keep).lanes = s.lanes
      ∧ (s.keepWaiting keep).pause = s.pause
      ∧ (s.keepWaiting keep).session = s.session
      ∧ (s.keepWaiting keep).receiver = s.receiver
      ∧ (s.keepWaiting keep).carry = s.carry
      ∧ (s.keepWaiting keep).fibre = s.fibre
      ∧ (s.keepWaiting keep).fibreJudge = s.fibreJudge
      ∧ (s.keepWaiting keep).radioJudge = s.radioJudge
      ∧ (s.keepWaiting keep).selector = s.selector
      ∧ (s.keepWaiting keep).radio = s.radio
      ∧ (s.keepWaiting keep).link = s.link
      ∧ (s.keepWaiting keep).events = s.events
      ∧ (s.keepWaiting keep).counts = s.counts
      ∧ (s.keepWaiting keep).sender.n = s.sender.n
      ∧ (s.keepWaiting keep).sender.store = s.sender.store
      ∧ (s.keepWaiting keep).sender.tallyOwed = s.sender.tallyOwed
      ∧ (s.keepWaiting keep).sender.tallyTimer = s.sender.tallyTimer
      ∧ (s.keepWaiting keep).sender.stream = s.sender.stream
      ∧ (s.keepWaiting keep).sender.rewindPending = s.sender.rewindPending
      ∧ (s.keepWaiting keep).sender.announcePending = s.sender.announcePending
      ∧ (s.keepWaiting keep).sender.pass = s.sender.pass
      ∧ (s.keepWaiting keep).sender.cursor = s.sender.cursor
      ∧ (s.keepWaiting keep).sender.passStopping = s.sender.passStopping
      ∧ (s.keepWaiting keep).sender.passOwed = s.sender.passOwed := by simp [State.keepWaiting]

@[simp] theorem State.setFibreLink_frame (up : Bool) (s : State) :
    (s.setFibreLink up).pending = s.pending
      ∧ (s.setFibreLink up).clock = s.clock
      ∧ (s.setFibreLink up).ties = s.ties
      ∧ (s.setFibreLink up).resetHeld = s.resetHeld
      ∧ (s.setFibreLink up).home = s.home
      ∧ (s.setFibreLink up).classMap = s.classMap
      ∧ (s.setFibreLink up).lanes = s.lanes
      ∧ (s.setFibreLink up).pause = s.pause
      ∧ (s.setFibreLink up).session = s.session
      ∧ (s.setFibreLink up).sender = s.sender
      ∧ (s.setFibreLink up).receiver = s.receiver
      ∧ (s.setFibreLink up).carry = s.carry
      ∧ (s.setFibreLink up).fibreJudge = s.fibreJudge
      ∧ (s.setFibreLink up).radioJudge = s.radioJudge
      ∧ (s.setFibreLink up).selector = s.selector
      ∧ (s.setFibreLink up).radio = s.radio
      ∧ (s.setFibreLink up).link = s.link
      ∧ (s.setFibreLink up).events = s.events
      ∧ (s.setFibreLink up).counts = s.counts
      ∧ (s.setFibreLink up).fibre.leaving = s.fibre.leaving := by simp [State.setFibreLink]

@[simp] theorem State.answered_frame (s : State) :
    (s.answered).pending = s.pending
      ∧ (s.answered).clock = s.clock
      ∧ (s.answered).ties = s.ties
      ∧ (s.answered).resetHeld = s.resetHeld
      ∧ (s.answered).home = s.home
      ∧ (s.answered).classMap = s.classMap
      ∧ (s.answered).lanes = s.lanes
      ∧ (s.answered).pause = s.pause
      ∧ (s.answered).session = s.session
      ∧ (s.answered).sender = s.sender
      ∧ (s.answered).receiver = s.receiver
      ∧ (s.answered).carry = s.carry
      ∧ (s.answered).fibre = s.fibre
      ∧ (s.answered).fibreJudge = s.fibreJudge
      ∧ (s.answered).radioJudge = s.radioJudge
      ∧ (s.answered).selector = s.selector
      ∧ (s.answered).link = s.link
      ∧ (s.answered).events = s.events
      ∧ (s.answered).counts = s.counts
      ∧ (s.answered).radio.status = s.radio.status
      ∧ (s.answered).radio.modPwr = s.radio.modPwr
      ∧ (s.answered).radio.rounds = s.radio.rounds
      ∧ (s.answered).radio.linger = s.radio.linger
      ∧ (s.answered).radio.rest = s.radio.rest
      ∧ (s.answered).radio.cause = s.radio.cause
      ∧ (s.answered).radio.releaseDue = s.radio.releaseDue
      ∧ (s.answered).radio.wantedHeld = s.radio.wantedHeld
      ∧ (s.answered).radio.lastReading = s.radio.lastReading
      ∧ (s.answered).radio.leaving = s.radio.leaving
      ∧ (s.answered).radio.held = s.radio.held
      ∧ (s.answered).radio.handshake = s.radio.handshake
      ∧ (s.answered).radio.stallCount = s.radio.stallCount
      ∧ (s.answered).radio.settings = s.radio.settings := by simp [State.answered]

end Sys2Proof.Machine
end

