-- ==== Sys2Proof/Laws/Events.lean ====
section
/-! SUPPORT. Frame lemmas: what the event unit leaves as it is: reports, notices and the end of an event. -/

namespace Sys2Proof.Machine

@[simp] theorem offerNotice_frame (f : EventFlag) (s : State) :
    (offerNotice f s).pending = s.pending
      ∧ (offerNotice f s).clock = s.clock
      ∧ (offerNotice f s).ties = s.ties
      ∧ (offerNotice f s).resetHeld = s.resetHeld
      ∧ (offerNotice f s).home = s.home
      ∧ (offerNotice f s).classMap = s.classMap
      ∧ (offerNotice f s).lanes = s.lanes
      ∧ (offerNotice f s).pause = s.pause
      ∧ (offerNotice f s).session = s.session
      ∧ (offerNotice f s).sender = s.sender
      ∧ (offerNotice f s).receiver = s.receiver
      ∧ (offerNotice f s).carry = s.carry
      ∧ (offerNotice f s).fibre = s.fibre
      ∧ (offerNotice f s).fibreJudge = s.fibreJudge
      ∧ (offerNotice f s).radioJudge = s.radioJudge
      ∧ (offerNotice f s).selector = s.selector
      ∧ (offerNotice f s).radio = s.radio
      ∧ (offerNotice f s).link.rx = s.link.rx
      ∧ (offerNotice f s).link.rxTimer = s.link.rxTimer
      ∧ (offerNotice f s).link.inbound = s.link.inbound
      ∧ (offerNotice f s).link.sent = s.link.sent
      ∧ (offerNotice f s).link.resetTaken = s.link.resetTaken
      ∧ (offerNotice f s).events.flags = s.events.flags
      ∧ (offerNotice f s).events.mask = s.events.mask
      ∧ (offerNotice f s).events.mode = s.events.mode
      ∧ (offerNotice f s).events.attn = s.events.attn
      ∧ (offerNotice f s).counts.lane = s.counts.lane
      ∧ (offerNotice f s).counts.carry = s.counts.carry
      ∧ (offerNotice f s).counts.probeFibre = s.counts.probeFibre
      ∧ (offerNotice f s).counts.probeRadio = s.counts.probeRadio
      ∧ (offerNotice f s).counts.module = s.counts.module := by
  simp only [offerNotice]
  split <;> simp

@[simp] theorem report_frame (f : EventFlag) (s : State) :
    (report f s).pending = s.pending
      ∧ (report f s).clock = s.clock
      ∧ (report f s).ties = s.ties
      ∧ (report f s).resetHeld = s.resetHeld
      ∧ (report f s).home = s.home
      ∧ (report f s).classMap = s.classMap
      ∧ (report f s).lanes = s.lanes
      ∧ (report f s).pause = s.pause
      ∧ (report f s).session = s.session
      ∧ (report f s).sender = s.sender
      ∧ (report f s).receiver = s.receiver
      ∧ (report f s).carry = s.carry
      ∧ (report f s).fibre = s.fibre
      ∧ (report f s).fibreJudge = s.fibreJudge
      ∧ (report f s).radioJudge = s.radioJudge
      ∧ (report f s).selector = s.selector
      ∧ (report f s).radio = s.radio
      ∧ (report f s).link.rx = s.link.rx
      ∧ (report f s).link.rxTimer = s.link.rxTimer
      ∧ (report f s).link.inbound = s.link.inbound
      ∧ (report f s).link.sent = s.link.sent
      ∧ (report f s).link.resetTaken = s.link.resetTaken
      ∧ (report f s).events.mask = s.events.mask
      ∧ (report f s).events.mode = s.events.mode
      ∧ (report f s).events.attn = s.events.attn
      ∧ (report f s).counts.lane = s.counts.lane
      ∧ (report f s).counts.carry = s.counts.carry
      ∧ (report f s).counts.probeFibre = s.counts.probeFibre
      ∧ (report f s).counts.probeRadio = s.counts.probeRadio
      ∧ (report f s).counts.module = s.counts.module := by
  simp only [report]
  (repeat' split) <;> simp

@[simp] theorem reportIf_frame (c : Bool) (f : EventFlag) (s : State) :
    (reportIf c f s).pending = s.pending
      ∧ (reportIf c f s).clock = s.clock
      ∧ (reportIf c f s).ties = s.ties
      ∧ (reportIf c f s).resetHeld = s.resetHeld
      ∧ (reportIf c f s).home = s.home
      ∧ (reportIf c f s).classMap = s.classMap
      ∧ (reportIf c f s).lanes = s.lanes
      ∧ (reportIf c f s).pause = s.pause
      ∧ (reportIf c f s).session = s.session
      ∧ (reportIf c f s).sender = s.sender
      ∧ (reportIf c f s).receiver = s.receiver
      ∧ (reportIf c f s).carry = s.carry
      ∧ (reportIf c f s).fibre = s.fibre
      ∧ (reportIf c f s).fibreJudge = s.fibreJudge
      ∧ (reportIf c f s).radioJudge = s.radioJudge
      ∧ (reportIf c f s).selector = s.selector
      ∧ (reportIf c f s).radio = s.radio
      ∧ (reportIf c f s).link.rx = s.link.rx
      ∧ (reportIf c f s).link.rxTimer = s.link.rxTimer
      ∧ (reportIf c f s).link.inbound = s.link.inbound
      ∧ (reportIf c f s).link.sent = s.link.sent
      ∧ (reportIf c f s).link.resetTaken = s.link.resetTaken
      ∧ (reportIf c f s).events.mask = s.events.mask
      ∧ (reportIf c f s).events.mode = s.events.mode
      ∧ (reportIf c f s).events.attn = s.events.attn
      ∧ (reportIf c f s).counts.lane = s.counts.lane
      ∧ (reportIf c f s).counts.carry = s.counts.carry
      ∧ (reportIf c f s).counts.probeFibre = s.counts.probeFibre
      ∧ (reportIf c f s).counts.probeRadio = s.counts.probeRadio
      ∧ (reportIf c f s).counts.module = s.counts.module := by
  simp only [reportIf]
  split <;> simp

@[simp] theorem closeEvent_frame (s : State) :
    (closeEvent s).pending = s.pending
      ∧ (closeEvent s).clock = s.clock
      ∧ (closeEvent s).ties = s.ties
      ∧ (closeEvent s).resetHeld = s.resetHeld
      ∧ (closeEvent s).home = s.home
      ∧ (closeEvent s).classMap = s.classMap
      ∧ (closeEvent s).lanes = s.lanes
      ∧ (closeEvent s).pause = s.pause
      ∧ (closeEvent s).session = s.session
      ∧ (closeEvent s).sender = s.sender
      ∧ (closeEvent s).receiver = s.receiver
      ∧ (closeEvent s).carry = s.carry
      ∧ (closeEvent s).fibre = s.fibre
      ∧ (closeEvent s).fibreJudge = s.fibreJudge
      ∧ (closeEvent s).radioJudge = s.radioJudge
      ∧ (closeEvent s).selector = s.selector
      ∧ (closeEvent s).radio = s.radio
      ∧ (closeEvent s).counts = s.counts
      ∧ (closeEvent s).link.rx = s.link.rx
      ∧ (closeEvent s).link.rxTimer = s.link.rxTimer
      ∧ (closeEvent s).link.inbound = s.link.inbound
      ∧ (closeEvent s).link.sent = s.link.sent
      ∧ (closeEvent s).link.resetTaken = s.link.resetTaken
      ∧ (closeEvent s).events.flags = s.events.flags
      ∧ (closeEvent s).events.mask = s.events.mask
      ∧ (closeEvent s).events.mode = s.events.mode
      ∧ (closeEvent s).events.noticeNumber = s.events.noticeNumber := by simp [closeEvent]

end Sys2Proof.Machine
end

