-- ==== Sys2Proof/Laws/Sender.lean ====
section
/-! SUPPORT. Frame lemmas: what the carry sender's operations leave as they are. -/

namespace Sys2Proof.Machine

@[simp] theorem applyAck_frame (a : Seq) (s : State) :
    (applyAck a s).pending = s.pending
      ∧ (applyAck a s).clock = s.clock
      ∧ (applyAck a s).ties = s.ties
      ∧ (applyAck a s).resetHeld = s.resetHeld
      ∧ (applyAck a s).home = s.home
      ∧ (applyAck a s).classMap = s.classMap
      ∧ (applyAck a s).lanes = s.lanes
      ∧ (applyAck a s).pause = s.pause
      ∧ (applyAck a s).session = s.session
      ∧ (applyAck a s).receiver = s.receiver
      ∧ (applyAck a s).carry = s.carry
      ∧ (applyAck a s).fibre = s.fibre
      ∧ (applyAck a s).fibreJudge = s.fibreJudge
      ∧ (applyAck a s).radioJudge = s.radioJudge
      ∧ (applyAck a s).selector = s.selector
      ∧ (applyAck a s).radio = s.radio
      ∧ (applyAck a s).link = s.link
      ∧ (applyAck a s).events = s.events
      ∧ (applyAck a s).counts.lane = s.counts.lane
      ∧ (applyAck a s).counts.probeFibre = s.counts.probeFibre
      ∧ (applyAck a s).counts.probeRadio = s.counts.probeRadio
      ∧ (applyAck a s).counts.module = s.counts.module
      ∧ (applyAck a s).counts.link = s.counts.link := by
  simp only [applyAck]
  split <;> simp

@[simp] theorem clearTally_frame (s : State) :
    (clearTally s).pending = s.pending
      ∧ (clearTally s).clock = s.clock
      ∧ (clearTally s).ties = s.ties
      ∧ (clearTally s).resetHeld = s.resetHeld
      ∧ (clearTally s).home = s.home
      ∧ (clearTally s).classMap = s.classMap
      ∧ (clearTally s).lanes = s.lanes
      ∧ (clearTally s).pause = s.pause
      ∧ (clearTally s).session = s.session
      ∧ (clearTally s).receiver = s.receiver
      ∧ (clearTally s).carry = s.carry
      ∧ (clearTally s).fibre = s.fibre
      ∧ (clearTally s).fibreJudge = s.fibreJudge
      ∧ (clearTally s).radioJudge = s.radioJudge
      ∧ (clearTally s).selector = s.selector
      ∧ (clearTally s).radio = s.radio
      ∧ (clearTally s).link = s.link
      ∧ (clearTally s).events = s.events
      ∧ (clearTally s).counts = s.counts
      ∧ (clearTally s).sender.n = s.sender.n
      ∧ (clearTally s).sender.store = s.sender.store
      ∧ (clearTally s).sender.stream = s.sender.stream
      ∧ (clearTally s).sender.rewindPending = s.sender.rewindPending
      ∧ (clearTally s).sender.announcePending = s.sender.announcePending
      ∧ (clearTally s).sender.pass = s.sender.pass
      ∧ (clearTally s).sender.cursor = s.sender.cursor
      ∧ (clearTally s).sender.passStopping = s.sender.passStopping
      ∧ (clearTally s).sender.passOwed = s.sender.passOwed := by simp [clearTally]

@[simp] theorem oweTally_frame (s : State) :
    (oweTally s).pending = s.pending
      ∧ (oweTally s).clock = s.clock
      ∧ (oweTally s).ties = s.ties
      ∧ (oweTally s).resetHeld = s.resetHeld
      ∧ (oweTally s).home = s.home
      ∧ (oweTally s).classMap = s.classMap
      ∧ (oweTally s).lanes = s.lanes
      ∧ (oweTally s).pause = s.pause
      ∧ (oweTally s).session = s.session
      ∧ (oweTally s).receiver = s.receiver
      ∧ (oweTally s).carry = s.carry
      ∧ (oweTally s).fibre = s.fibre
      ∧ (oweTally s).fibreJudge = s.fibreJudge
      ∧ (oweTally s).radioJudge = s.radioJudge
      ∧ (oweTally s).selector = s.selector
      ∧ (oweTally s).radio = s.radio
      ∧ (oweTally s).link = s.link
      ∧ (oweTally s).events = s.events
      ∧ (oweTally s).counts = s.counts
      ∧ (oweTally s).sender.n = s.sender.n
      ∧ (oweTally s).sender.store = s.sender.store
      ∧ (oweTally s).sender.waitingFibre = s.sender.waitingFibre
      ∧ (oweTally s).sender.waitingRadio = s.sender.waitingRadio
      ∧ (oweTally s).sender.stream = s.sender.stream
      ∧ (oweTally s).sender.rewindPending = s.sender.rewindPending
      ∧ (oweTally s).sender.announcePending = s.sender.announcePending
      ∧ (oweTally s).sender.pass = s.sender.pass
      ∧ (oweTally s).sender.cursor = s.sender.cursor
      ∧ (oweTally s).sender.passStopping = s.sender.passStopping
      ∧ (oweTally s).sender.passOwed = s.sender.passOwed := by
  simp only [oweTally]
  split <;> simp

@[simp] theorem requestRewind_frame (s : State) :
    (requestRewind s).pending = s.pending
      ∧ (requestRewind s).clock = s.clock
      ∧ (requestRewind s).ties = s.ties
      ∧ (requestRewind s).resetHeld = s.resetHeld
      ∧ (requestRewind s).home = s.home
      ∧ (requestRewind s).classMap = s.classMap
      ∧ (requestRewind s).lanes = s.lanes
      ∧ (requestRewind s).pause = s.pause
      ∧ (requestRewind s).session = s.session
      ∧ (requestRewind s).receiver = s.receiver
      ∧ (requestRewind s).carry = s.carry
      ∧ (requestRewind s).fibre = s.fibre
      ∧ (requestRewind s).fibreJudge = s.fibreJudge
      ∧ (requestRewind s).radioJudge = s.radioJudge
      ∧ (requestRewind s).selector = s.selector
      ∧ (requestRewind s).radio = s.radio
      ∧ (requestRewind s).link = s.link
      ∧ (requestRewind s).events = s.events
      ∧ (requestRewind s).counts = s.counts
      ∧ (requestRewind s).sender.n = s.sender.n
      ∧ (requestRewind s).sender.store = s.sender.store
      ∧ (requestRewind s).sender.tallyOwed = s.sender.tallyOwed
      ∧ (requestRewind s).sender.tallyTimer = s.sender.tallyTimer
      ∧ (requestRewind s).sender.waitingFibre = s.sender.waitingFibre
      ∧ (requestRewind s).sender.waitingRadio = s.sender.waitingRadio
      ∧ (requestRewind s).sender.stream = s.sender.stream
      ∧ (requestRewind s).sender.announcePending = s.sender.announcePending
      ∧ (requestRewind s).sender.pass = s.sender.pass
      ∧ (requestRewind s).sender.cursor = s.sender.cursor
      ∧ (requestRewind s).sender.passStopping = s.sender.passStopping
      ∧ (requestRewind s).sender.passOwed = s.sender.passOwed := by
  simp only [requestRewind]
  (repeat' split) <;> simp

@[simp] theorem abandonStreams_frame (s : State) :
    (abandonStreams s).pending = s.pending
      ∧ (abandonStreams s).clock = s.clock
      ∧ (abandonStreams s).ties = s.ties
      ∧ (abandonStreams s).resetHeld = s.resetHeld
      ∧ (abandonStreams s).home = s.home
      ∧ (abandonStreams s).classMap = s.classMap
      ∧ (abandonStreams s).lanes = s.lanes
      ∧ (abandonStreams s).session = s.session
      ∧ (abandonStreams s).receiver = s.receiver
      ∧ (abandonStreams s).carry = s.carry
      ∧ (abandonStreams s).fibre = s.fibre
      ∧ (abandonStreams s).fibreJudge = s.fibreJudge
      ∧ (abandonStreams s).radioJudge = s.radioJudge
      ∧ (abandonStreams s).selector = s.selector
      ∧ (abandonStreams s).radio = s.radio
      ∧ (abandonStreams s).link = s.link
      ∧ (abandonStreams s).events = s.events
      ∧ (abandonStreams s).counts = s.counts
      ∧ (abandonStreams s).pause.session = s.pause.session
      ∧ (abandonStreams s).pause.selector = s.pause.selector
      ∧ (abandonStreams s).pause.pass = s.pause.pass
      ∧ (abandonStreams s).sender.n = s.sender.n
      ∧ (abandonStreams s).sender.store = s.sender.store
      ∧ (abandonStreams s).sender.tallyOwed = s.sender.tallyOwed
      ∧ (abandonStreams s).sender.tallyTimer = s.sender.tallyTimer
      ∧ (abandonStreams s).sender.waitingFibre = s.sender.waitingFibre
      ∧ (abandonStreams s).sender.waitingRadio = s.sender.waitingRadio
      ∧ (abandonStreams s).sender.pass = s.sender.pass
      ∧ (abandonStreams s).sender.cursor = s.sender.cursor
      ∧ (abandonStreams s).sender.passStopping = s.sender.passStopping
      ∧ (abandonStreams s).sender.passOwed = s.sender.passOwed := by simp [abandonStreams]

@[simp] theorem endStreamOn_frame (b : Bearer) (s : State) :
    (endStreamOn b s).pending = s.pending
      ∧ (endStreamOn b s).clock = s.clock
      ∧ (endStreamOn b s).ties = s.ties
      ∧ (endStreamOn b s).resetHeld = s.resetHeld
      ∧ (endStreamOn b s).home = s.home
      ∧ (endStreamOn b s).classMap = s.classMap
      ∧ (endStreamOn b s).lanes = s.lanes
      ∧ (endStreamOn b s).session = s.session
      ∧ (endStreamOn b s).receiver = s.receiver
      ∧ (endStreamOn b s).carry = s.carry
      ∧ (endStreamOn b s).fibre = s.fibre
      ∧ (endStreamOn b s).fibreJudge = s.fibreJudge
      ∧ (endStreamOn b s).radioJudge = s.radioJudge
      ∧ (endStreamOn b s).selector = s.selector
      ∧ (endStreamOn b s).radio = s.radio
      ∧ (endStreamOn b s).link = s.link
      ∧ (endStreamOn b s).events = s.events
      ∧ (endStreamOn b s).counts = s.counts
      ∧ (endStreamOn b s).pause.session = s.pause.session
      ∧ (endStreamOn b s).pause.selector = s.pause.selector
      ∧ (endStreamOn b s).pause.pass = s.pause.pass
      ∧ (endStreamOn b s).sender.n = s.sender.n
      ∧ (endStreamOn b s).sender.store = s.sender.store
      ∧ (endStreamOn b s).sender.tallyOwed = s.sender.tallyOwed
      ∧ (endStreamOn b s).sender.tallyTimer = s.sender.tallyTimer
      ∧ (endStreamOn b s).sender.waitingFibre = s.sender.waitingFibre
      ∧ (endStreamOn b s).sender.waitingRadio = s.sender.waitingRadio
      ∧ (endStreamOn b s).sender.rewindPending = s.sender.rewindPending
      ∧ (endStreamOn b s).sender.announcePending = s.sender.announcePending
      ∧ (endStreamOn b s).sender.pass = s.sender.pass
      ∧ (endStreamOn b s).sender.cursor = s.sender.cursor
      ∧ (endStreamOn b s).sender.passStopping = s.sender.passStopping
      ∧ (endStreamOn b s).sender.passOwed = s.sender.passOwed := by
  simp only [endStreamOn]
  (repeat' split) <;> simp

@[simp] theorem closePort_frame (b : Bearer) (s : State) :
    (closePort b s).pending = s.pending
      ∧ (closePort b s).clock = s.clock
      ∧ (closePort b s).ties = s.ties
      ∧ (closePort b s).resetHeld = s.resetHeld
      ∧ (closePort b s).home = s.home
      ∧ (closePort b s).classMap = s.classMap
      ∧ (closePort b s).lanes = s.lanes
      ∧ (closePort b s).session = s.session
      ∧ (closePort b s).receiver = s.receiver
      ∧ (closePort b s).carry = s.carry
      ∧ (closePort b s).fibre = s.fibre
      ∧ (closePort b s).fibreJudge = s.fibreJudge
      ∧ (closePort b s).radioJudge = s.radioJudge
      ∧ (closePort b s).selector = s.selector
      ∧ (closePort b s).radio = s.radio
      ∧ (closePort b s).link = s.link
      ∧ (closePort b s).events = s.events
      ∧ (closePort b s).counts = s.counts
      ∧ (closePort b s).pause.session = s.pause.session
      ∧ (closePort b s).pause.selector = s.pause.selector
      ∧ (closePort b s).pause.pass = s.pause.pass
      ∧ (closePort b s).sender.n = s.sender.n
      ∧ (closePort b s).sender.store = s.sender.store
      ∧ (closePort b s).sender.tallyOwed = s.sender.tallyOwed
      ∧ (closePort b s).sender.tallyTimer = s.sender.tallyTimer
      ∧ (closePort b s).sender.rewindPending = s.sender.rewindPending
      ∧ (closePort b s).sender.announcePending = s.sender.announcePending
      ∧ (closePort b s).sender.pass = s.sender.pass
      ∧ (closePort b s).sender.cursor = s.sender.cursor
      ∧ (closePort b s).sender.passStopping = s.sender.passStopping
      ∧ (closePort b s).sender.passOwed = s.sender.passOwed := by simp [closePort]

@[simp] theorem abandonPass_frame (s : State) :
    (abandonPass s).pending = s.pending
      ∧ (abandonPass s).clock = s.clock
      ∧ (abandonPass s).ties = s.ties
      ∧ (abandonPass s).resetHeld = s.resetHeld
      ∧ (abandonPass s).home = s.home
      ∧ (abandonPass s).classMap = s.classMap
      ∧ (abandonPass s).lanes = s.lanes
      ∧ (abandonPass s).session = s.session
      ∧ (abandonPass s).receiver = s.receiver
      ∧ (abandonPass s).carry = s.carry
      ∧ (abandonPass s).fibre = s.fibre
      ∧ (abandonPass s).fibreJudge = s.fibreJudge
      ∧ (abandonPass s).radioJudge = s.radioJudge
      ∧ (abandonPass s).selector = s.selector
      ∧ (abandonPass s).radio = s.radio
      ∧ (abandonPass s).link = s.link
      ∧ (abandonPass s).events = s.events
      ∧ (abandonPass s).counts = s.counts
      ∧ (abandonPass s).pause.session = s.pause.session
      ∧ (abandonPass s).pause.selector = s.pause.selector
      ∧ (abandonPass s).pause.stream = s.pause.stream
      ∧ (abandonPass s).sender.n = s.sender.n
      ∧ (abandonPass s).sender.store = s.sender.store
      ∧ (abandonPass s).sender.tallyOwed = s.sender.tallyOwed
      ∧ (abandonPass s).sender.tallyTimer = s.sender.tallyTimer
      ∧ (abandonPass s).sender.waitingFibre = s.sender.waitingFibre
      ∧ (abandonPass s).sender.waitingRadio = s.sender.waitingRadio
      ∧ (abandonPass s).sender.stream = s.sender.stream
      ∧ (abandonPass s).sender.rewindPending = s.sender.rewindPending
      ∧ (abandonPass s).sender.passOwed = s.sender.passOwed := by simp [abandonPass]

@[simp] theorem startPass_frame (s : State) :
    (startPass s).pending = s.pending
      ∧ (startPass s).clock = s.clock
      ∧ (startPass s).ties = s.ties
      ∧ (startPass s).resetHeld = s.resetHeld
      ∧ (startPass s).home = s.home
      ∧ (startPass s).classMap = s.classMap
      ∧ (startPass s).lanes = s.lanes
      ∧ (startPass s).session = s.session
      ∧ (startPass s).receiver = s.receiver
      ∧ (startPass s).carry = s.carry
      ∧ (startPass s).fibre = s.fibre
      ∧ (startPass s).fibreJudge = s.fibreJudge
      ∧ (startPass s).radioJudge = s.radioJudge
      ∧ (startPass s).selector = s.selector
      ∧ (startPass s).radio = s.radio
      ∧ (startPass s).link = s.link
      ∧ (startPass s).events = s.events
      ∧ (startPass s).counts = s.counts
      ∧ (startPass s).pause.session = s.pause.session
      ∧ (startPass s).pause.selector = s.pause.selector
      ∧ (startPass s).pause.stream = s.pause.stream
      ∧ (startPass s).sender.n = s.sender.n
      ∧ (startPass s).sender.store = s.sender.store
      ∧ (startPass s).sender.tallyOwed = s.sender.tallyOwed
      ∧ (startPass s).sender.tallyTimer = s.sender.tallyTimer
      ∧ (startPass s).sender.waitingFibre = s.sender.waitingFibre
      ∧ (startPass s).sender.waitingRadio = s.sender.waitingRadio
      ∧ (startPass s).sender.stream = s.sender.stream
      ∧ (startPass s).sender.rewindPending = s.sender.rewindPending
      ∧ (startPass s).sender.passOwed = s.sender.passOwed := by
  simp only [startPass]
  split <;> simp

@[simp] theorem takeUpSender_frame (s : State) :
    (takeUpSender s).pending = s.pending
      ∧ (takeUpSender s).clock = s.clock
      ∧ (takeUpSender s).ties = s.ties
      ∧ (takeUpSender s).resetHeld = s.resetHeld
      ∧ (takeUpSender s).home = s.home
      ∧ (takeUpSender s).classMap = s.classMap
      ∧ (takeUpSender s).lanes = s.lanes
      ∧ (takeUpSender s).session = s.session
      ∧ (takeUpSender s).receiver = s.receiver
      ∧ (takeUpSender s).carry = s.carry
      ∧ (takeUpSender s).fibre = s.fibre
      ∧ (takeUpSender s).fibreJudge = s.fibreJudge
      ∧ (takeUpSender s).radioJudge = s.radioJudge
      ∧ (takeUpSender s).selector = s.selector
      ∧ (takeUpSender s).radio = s.radio
      ∧ (takeUpSender s).link = s.link
      ∧ (takeUpSender s).events = s.events
      ∧ (takeUpSender s).counts = s.counts
      ∧ (takeUpSender s).pause.session = s.pause.session
      ∧ (takeUpSender s).pause.selector = s.pause.selector
      ∧ (takeUpSender s).sender.n = s.sender.n
      ∧ (takeUpSender s).sender.store = s.sender.store
      ∧ (takeUpSender s).sender.tallyOwed = s.sender.tallyOwed
      ∧ (takeUpSender s).sender.tallyTimer = s.sender.tallyTimer
      ∧ (takeUpSender s).sender.waitingFibre = s.sender.waitingFibre
      ∧ (takeUpSender s).sender.waitingRadio = s.sender.waitingRadio
      ∧ (takeUpSender s).sender.stream = s.sender.stream := by
  simp only [takeUpSender]
  split <;> simp

@[simp] theorem startRewindTimer_frame (b : Bearer) (n : Nat) (s : State) :
    (startRewindTimer b n s).pending = s.pending
      ∧ (startRewindTimer b n s).clock = s.clock
      ∧ (startRewindTimer b n s).ties = s.ties
      ∧ (startRewindTimer b n s).resetHeld = s.resetHeld
      ∧ (startRewindTimer b n s).home = s.home
      ∧ (startRewindTimer b n s).classMap = s.classMap
      ∧ (startRewindTimer b n s).lanes = s.lanes
      ∧ (startRewindTimer b n s).pause = s.pause
      ∧ (startRewindTimer b n s).session = s.session
      ∧ (startRewindTimer b n s).sender = s.sender
      ∧ (startRewindTimer b n s).carry = s.carry
      ∧ (startRewindTimer b n s).fibre = s.fibre
      ∧ (startRewindTimer b n s).fibreJudge = s.fibreJudge
      ∧ (startRewindTimer b n s).radioJudge = s.radioJudge
      ∧ (startRewindTimer b n s).selector = s.selector
      ∧ (startRewindTimer b n s).radio = s.radio
      ∧ (startRewindTimer b n s).link = s.link
      ∧ (startRewindTimer b n s).events = s.events
      ∧ (startRewindTimer b n s).counts = s.counts
      ∧ (startRewindTimer b n s).receiver.e = s.receiver.e
      ∧ (startRewindTimer b n s).receiver.discard = s.receiver.discard
      ∧ (startRewindTimer b n s).receiver.marksFibre = s.receiver.marksFibre
      ∧ (startRewindTimer b n s).receiver.marksRadio = s.receiver.marksRadio := by simp [startRewindTimer]

@[simp] theorem takeUpReceiver_frame (b : Bearer) (s : State) :
    (takeUpReceiver b s).pending = s.pending
      ∧ (takeUpReceiver b s).clock = s.clock
      ∧ (takeUpReceiver b s).ties = s.ties
      ∧ (takeUpReceiver b s).resetHeld = s.resetHeld
      ∧ (takeUpReceiver b s).home = s.home
      ∧ (takeUpReceiver b s).classMap = s.classMap
      ∧ (takeUpReceiver b s).lanes = s.lanes
      ∧ (takeUpReceiver b s).pause = s.pause
      ∧ (takeUpReceiver b s).session = s.session
      ∧ (takeUpReceiver b s).sender = s.sender
      ∧ (takeUpReceiver b s).carry = s.carry
      ∧ (takeUpReceiver b s).fibre = s.fibre
      ∧ (takeUpReceiver b s).fibreJudge = s.fibreJudge
      ∧ (takeUpReceiver b s).radioJudge = s.radioJudge
      ∧ (takeUpReceiver b s).selector = s.selector
      ∧ (takeUpReceiver b s).radio = s.radio
      ∧ (takeUpReceiver b s).link = s.link
      ∧ (takeUpReceiver b s).events = s.events
      ∧ (takeUpReceiver b s).counts = s.counts
      ∧ (takeUpReceiver b s).receiver.e = s.receiver.e
      ∧ (takeUpReceiver b s).receiver.discard = s.receiver.discard
      ∧ (takeUpReceiver b s).receiver.marksFibre = s.receiver.marksFibre
      ∧ (takeUpReceiver b s).receiver.marksRadio = s.receiver.marksRadio := by
  simp only [takeUpReceiver]
  split <;> simp

@[simp] theorem stopRewindTimer_frame (s : State) :
    (stopRewindTimer s).pending = s.pending
      ∧ (stopRewindTimer s).clock = s.clock
      ∧ (stopRewindTimer s).ties = s.ties
      ∧ (stopRewindTimer s).resetHeld = s.resetHeld
      ∧ (stopRewindTimer s).home = s.home
      ∧ (stopRewindTimer s).classMap = s.classMap
      ∧ (stopRewindTimer s).lanes = s.lanes
      ∧ (stopRewindTimer s).pause = s.pause
      ∧ (stopRewindTimer s).session = s.session
      ∧ (stopRewindTimer s).sender = s.sender
      ∧ (stopRewindTimer s).carry = s.carry
      ∧ (stopRewindTimer s).fibre = s.fibre
      ∧ (stopRewindTimer s).fibreJudge = s.fibreJudge
      ∧ (stopRewindTimer s).radioJudge = s.radioJudge
      ∧ (stopRewindTimer s).selector = s.selector
      ∧ (stopRewindTimer s).radio = s.radio
      ∧ (stopRewindTimer s).link = s.link
      ∧ (stopRewindTimer s).events = s.events
      ∧ (stopRewindTimer s).counts = s.counts
      ∧ (stopRewindTimer s).receiver.e = s.receiver.e
      ∧ (stopRewindTimer s).receiver.discard = s.receiver.discard
      ∧ (stopRewindTimer s).receiver.attempts = s.receiver.attempts
      ∧ (stopRewindTimer s).receiver.marksFibre = s.receiver.marksFibre
      ∧ (stopRewindTimer s).receiver.marksRadio = s.receiver.marksRadio := by simp [stopRewindTimer]

@[simp] theorem enterOpening_frame (s : State) :
    (enterOpening s).pending = s.pending
      ∧ (enterOpening s).clock = s.clock
      ∧ (enterOpening s).ties = s.ties
      ∧ (enterOpening s).resetHeld = s.resetHeld
      ∧ (enterOpening s).home = s.home
      ∧ (enterOpening s).classMap = s.classMap
      ∧ (enterOpening s).lanes = s.lanes
      ∧ (enterOpening s).sender = s.sender
      ∧ (enterOpening s).receiver = s.receiver
      ∧ (enterOpening s).carry = s.carry
      ∧ (enterOpening s).fibre = s.fibre
      ∧ (enterOpening s).fibreJudge = s.fibreJudge
      ∧ (enterOpening s).radioJudge = s.radioJudge
      ∧ (enterOpening s).selector = s.selector
      ∧ (enterOpening s).radio = s.radio
      ∧ (enterOpening s).link = s.link
      ∧ (enterOpening s).events = s.events
      ∧ (enterOpening s).counts = s.counts
      ∧ (enterOpening s).pause.selector = s.pause.selector
      ∧ (enterOpening s).pause.pass = s.pause.pass
      ∧ (enterOpening s).pause.stream = s.pause.stream := by simp [enterOpening]

@[simp] theorem sendOpen_frame (b : Bearer) (s : State) :
    (sendOpen b s).pending = s.pending
      ∧ (sendOpen b s).clock = s.clock
      ∧ (sendOpen b s).ties = s.ties
      ∧ (sendOpen b s).resetHeld = s.resetHeld
      ∧ (sendOpen b s).home = s.home
      ∧ (sendOpen b s).classMap = s.classMap
      ∧ (sendOpen b s).lanes = s.lanes
      ∧ (sendOpen b s).pause = s.pause
      ∧ (sendOpen b s).receiver = s.receiver
      ∧ (sendOpen b s).carry = s.carry
      ∧ (sendOpen b s).fibre = s.fibre
      ∧ (sendOpen b s).fibreJudge = s.fibreJudge
      ∧ (sendOpen b s).radioJudge = s.radioJudge
      ∧ (sendOpen b s).selector = s.selector
      ∧ (sendOpen b s).radio = s.radio
      ∧ (sendOpen b s).link = s.link
      ∧ (sendOpen b s).events = s.events
      ∧ (sendOpen b s).counts = s.counts
      ∧ (sendOpen b s).session.status = s.session.status
      ∧ (sendOpen b s).session.epoch = s.session.epoch
      ∧ (sendOpen b s).sender.n = s.sender.n
      ∧ (sendOpen b s).sender.store = s.sender.store
      ∧ (sendOpen b s).sender.tallyOwed = s.sender.tallyOwed
      ∧ (sendOpen b s).sender.tallyTimer = s.sender.tallyTimer
      ∧ (sendOpen b s).sender.stream = s.sender.stream
      ∧ (sendOpen b s).sender.rewindPending = s.sender.rewindPending
      ∧ (sendOpen b s).sender.announcePending = s.sender.announcePending
      ∧ (sendOpen b s).sender.pass = s.sender.pass
      ∧ (sendOpen b s).sender.cursor = s.sender.cursor
      ∧ (sendOpen b s).sender.passStopping = s.sender.passStopping
      ∧ (sendOpen b s).sender.passOwed = s.sender.passOwed := by simp [sendOpen]

@[simp] theorem enterOpen_frame (s : State) :
    (enterOpen s).pending = s.pending
      ∧ (enterOpen s).clock = s.clock
      ∧ (enterOpen s).ties = s.ties
      ∧ (enterOpen s).resetHeld = s.resetHeld
      ∧ (enterOpen s).home = s.home
      ∧ (enterOpen s).classMap = s.classMap
      ∧ (enterOpen s).lanes = s.lanes
      ∧ (enterOpen s).receiver = s.receiver
      ∧ (enterOpen s).carry = s.carry
      ∧ (enterOpen s).fibre = s.fibre
      ∧ (enterOpen s).fibreJudge = s.fibreJudge
      ∧ (enterOpen s).radioJudge = s.radioJudge
      ∧ (enterOpen s).selector = s.selector
      ∧ (enterOpen s).radio = s.radio
      ∧ (enterOpen s).pause.selector = s.pause.selector
      ∧ (enterOpen s).pause.pass = s.pause.pass
      ∧ (enterOpen s).pause.stream = s.pause.stream
      ∧ (enterOpen s).session.epoch = s.session.epoch
      ∧ (enterOpen s).sender.n = s.sender.n
      ∧ (enterOpen s).sender.store = s.sender.store
      ∧ (enterOpen s).sender.tallyOwed = s.sender.tallyOwed
      ∧ (enterOpen s).sender.tallyTimer = s.sender.tallyTimer
      ∧ (enterOpen s).sender.stream = s.sender.stream
      ∧ (enterOpen s).sender.rewindPending = s.sender.rewindPending
      ∧ (enterOpen s).sender.announcePending = s.sender.announcePending
      ∧ (enterOpen s).sender.pass = s.sender.pass
      ∧ (enterOpen s).sender.cursor = s.sender.cursor
      ∧ (enterOpen s).sender.passStopping = s.sender.passStopping
      ∧ (enterOpen s).sender.passOwed = s.sender.passOwed
      ∧ (enterOpen s).link.rx = s.link.rx
      ∧ (enterOpen s).link.rxTimer = s.link.rxTimer
      ∧ (enterOpen s).link.inbound = s.link.inbound
      ∧ (enterOpen s).link.sent = s.link.sent
      ∧ (enterOpen s).link.resetTaken = s.link.resetTaken
      ∧ (enterOpen s).events.mask = s.events.mask
      ∧ (enterOpen s).events.mode = s.events.mode
      ∧ (enterOpen s).events.attn = s.events.attn
      ∧ (enterOpen s).counts.lane = s.counts.lane
      ∧ (enterOpen s).counts.carry = s.counts.carry
      ∧ (enterOpen s).counts.probeFibre = s.counts.probeFibre
      ∧ (enterOpen s).counts.probeRadio = s.counts.probeRadio
      ∧ (enterOpen s).counts.module = s.counts.module := by simp [enterOpen]

end Sys2Proof.Machine
end

