-- ==== Sys2Proof/Laws/Module.lean ====
section
/-! SUPPORT. Frame lemmas: what the module controller's operations leave as they are. -/

namespace Sys2Proof.Machine

@[simp] theorem resetJudge_frame (b : Bearer) (s : State) :
    (resetJudge b s).pending = s.pending
      ∧ (resetJudge b s).clock = s.clock
      ∧ (resetJudge b s).ties = s.ties
      ∧ (resetJudge b s).resetHeld = s.resetHeld
      ∧ (resetJudge b s).home = s.home
      ∧ (resetJudge b s).classMap = s.classMap
      ∧ (resetJudge b s).lanes = s.lanes
      ∧ (resetJudge b s).pause = s.pause
      ∧ (resetJudge b s).session = s.session
      ∧ (resetJudge b s).sender = s.sender
      ∧ (resetJudge b s).receiver = s.receiver
      ∧ (resetJudge b s).carry = s.carry
      ∧ (resetJudge b s).fibre = s.fibre
      ∧ (resetJudge b s).selector = s.selector
      ∧ (resetJudge b s).radio = s.radio
      ∧ (resetJudge b s).fibreJudge.settings = s.fibreJudge.settings
      ∧ (resetJudge b s).fibreJudge.penalty = s.fibreJudge.penalty
      ∧ (resetJudge b s).fibreJudge.suppressed = s.fibreJudge.suppressed
      ∧ (resetJudge b s).fibreJudge.decay = s.fibreJudge.decay
      ∧ (resetJudge b s).fibreJudge.damping = s.fibreJudge.damping
      ∧ (resetJudge b s).fibreJudge.handed = s.fibreJudge.handed
      ∧ (resetJudge b s).fibreJudge.tag = s.fibreJudge.tag
      ∧ (resetJudge b s).radioJudge.settings = s.radioJudge.settings
      ∧ (resetJudge b s).radioJudge.penalty = s.radioJudge.penalty
      ∧ (resetJudge b s).radioJudge.suppressed = s.radioJudge.suppressed
      ∧ (resetJudge b s).radioJudge.decay = s.radioJudge.decay
      ∧ (resetJudge b s).radioJudge.damping = s.radioJudge.damping
      ∧ (resetJudge b s).radioJudge.handed = s.radioJudge.handed
      ∧ (resetJudge b s).radioJudge.tag = s.radioJudge.tag
      ∧ (resetJudge b s).link.rx = s.link.rx
      ∧ (resetJudge b s).link.rxTimer = s.link.rxTimer
      ∧ (resetJudge b s).link.inbound = s.link.inbound
      ∧ (resetJudge b s).link.sent = s.link.sent
      ∧ (resetJudge b s).link.resetTaken = s.link.resetTaken
      ∧ (resetJudge b s).events.mask = s.events.mask
      ∧ (resetJudge b s).events.mode = s.events.mode
      ∧ (resetJudge b s).events.attn = s.events.attn
      ∧ (resetJudge b s).counts.lane = s.counts.lane
      ∧ (resetJudge b s).counts.carry = s.counts.carry
      ∧ (resetJudge b s).counts.probeFibre = s.counts.probeFibre
      ∧ (resetJudge b s).counts.probeRadio = s.counts.probeRadio
      ∧ (resetJudge b s).counts.module = s.counts.module := by cases b <;> simp [resetJudge]

@[simp] theorem askSignal_frame (s : State) :
    (askSignal s).pending = s.pending
      ∧ (askSignal s).clock = s.clock
      ∧ (askSignal s).ties = s.ties
      ∧ (askSignal s).resetHeld = s.resetHeld
      ∧ (askSignal s).home = s.home
      ∧ (askSignal s).classMap = s.classMap
      ∧ (askSignal s).lanes = s.lanes
      ∧ (askSignal s).pause = s.pause
      ∧ (askSignal s).session = s.session
      ∧ (askSignal s).sender = s.sender
      ∧ (askSignal s).receiver = s.receiver
      ∧ (askSignal s).carry = s.carry
      ∧ (askSignal s).fibre = s.fibre
      ∧ (askSignal s).fibreJudge = s.fibreJudge
      ∧ (askSignal s).radioJudge = s.radioJudge
      ∧ (askSignal s).selector = s.selector
      ∧ (askSignal s).link = s.link
      ∧ (askSignal s).events = s.events
      ∧ (askSignal s).counts = s.counts
      ∧ (askSignal s).radio.status = s.radio.status
      ∧ (askSignal s).radio.modPwr = s.radio.modPwr
      ∧ (askSignal s).radio.rounds = s.radio.rounds
      ∧ (askSignal s).radio.linger = s.radio.linger
      ∧ (askSignal s).radio.rest = s.radio.rest
      ∧ (askSignal s).radio.cause = s.radio.cause
      ∧ (askSignal s).radio.releaseDue = s.radio.releaseDue
      ∧ (askSignal s).radio.wantedHeld = s.radio.wantedHeld
      ∧ (askSignal s).radio.lastReading = s.radio.lastReading
      ∧ (askSignal s).radio.leaving = s.radio.leaving
      ∧ (askSignal s).radio.held = s.radio.held
      ∧ (askSignal s).radio.handshake = s.radio.handshake
      ∧ (askSignal s).radio.stallCount = s.radio.stallCount
      ∧ (askSignal s).radio.settings = s.radio.settings := by
  simp only [askSignal]
  split <;> simp

@[simp] theorem probeDue_frame (b : Bearer) (together : Bool) (s : State) :
    (probeDue b together s).pending = s.pending
      ∧ (probeDue b together s).clock = s.clock
      ∧ (probeDue b together s).resetHeld = s.resetHeld
      ∧ (probeDue b together s).home = s.home
      ∧ (probeDue b together s).classMap = s.classMap
      ∧ (probeDue b together s).lanes = s.lanes
      ∧ (probeDue b together s).pause = s.pause
      ∧ (probeDue b together s).session = s.session
      ∧ (probeDue b together s).receiver = s.receiver
      ∧ (probeDue b together s).carry = s.carry
      ∧ (probeDue b together s).fibre = s.fibre
      ∧ (probeDue b together s).selector = s.selector
      ∧ (probeDue b together s).radio = s.radio
      ∧ (probeDue b together s).link = s.link
      ∧ (probeDue b together s).events = s.events
      ∧ (probeDue b together s).counts = s.counts
      ∧ (probeDue b together s).sender.n = s.sender.n
      ∧ (probeDue b together s).sender.store = s.sender.store
      ∧ (probeDue b together s).sender.tallyOwed = s.sender.tallyOwed
      ∧ (probeDue b together s).sender.tallyTimer = s.sender.tallyTimer
      ∧ (probeDue b together s).sender.stream = s.sender.stream
      ∧ (probeDue b together s).sender.rewindPending = s.sender.rewindPending
      ∧ (probeDue b together s).sender.announcePending = s.sender.announcePending
      ∧ (probeDue b together s).sender.pass = s.sender.pass
      ∧ (probeDue b together s).sender.cursor = s.sender.cursor
      ∧ (probeDue b together s).sender.passStopping = s.sender.passStopping
      ∧ (probeDue b together s).sender.passOwed = s.sender.passOwed
      ∧ (probeDue b together s).fibreJudge.settings = s.fibreJudge.settings
      ∧ (probeDue b together s).fibreJudge.timer = s.fibreJudge.timer
      ∧ (probeDue b together s).fibreJudge.count = s.fibreJudge.count
      ∧ (probeDue b together s).fibreJudge.verdict = s.fibreJudge.verdict
      ∧ (probeDue b together s).fibreJudge.penalty = s.fibreJudge.penalty
      ∧ (probeDue b together s).fibreJudge.suppressed = s.fibreJudge.suppressed
      ∧ (probeDue b together s).fibreJudge.decay = s.fibreJudge.decay
      ∧ (probeDue b together s).fibreJudge.damping = s.fibreJudge.damping
      ∧ (probeDue b together s).fibreJudge.handed = s.fibreJudge.handed
      ∧ (probeDue b together s).fibreJudge.srtt = s.fibreJudge.srtt
      ∧ (probeDue b together s).fibreJudge.table = s.fibreJudge.table
      ∧ (probeDue b together s).radioJudge.settings = s.radioJudge.settings
      ∧ (probeDue b together s).radioJudge.timer = s.radioJudge.timer
      ∧ (probeDue b together s).radioJudge.count = s.radioJudge.count
      ∧ (probeDue b together s).radioJudge.verdict = s.radioJudge.verdict
      ∧ (probeDue b together s).radioJudge.penalty = s.radioJudge.penalty
      ∧ (probeDue b together s).radioJudge.suppressed = s.radioJudge.suppressed
      ∧ (probeDue b together s).radioJudge.decay = s.radioJudge.decay
      ∧ (probeDue b together s).radioJudge.damping = s.radioJudge.damping
      ∧ (probeDue b together s).radioJudge.handed = s.radioJudge.handed
      ∧ (probeDue b together s).radioJudge.srtt = s.radioJudge.srtt
      ∧ (probeDue b together s).radioJudge.table = s.radioJudge.table := by
  simp only [probeDue]
  cases b <;> (repeat' split) <;> simp

@[simp] theorem startInterval_frame (b : Bearer) (start : Nat) (together : Bool) (s : State) :
    (startInterval b start together s).pending = s.pending
      ∧ (startInterval b start together s).clock = s.clock
      ∧ (startInterval b start together s).resetHeld = s.resetHeld
      ∧ (startInterval b start together s).home = s.home
      ∧ (startInterval b start together s).classMap = s.classMap
      ∧ (startInterval b start together s).lanes = s.lanes
      ∧ (startInterval b start together s).pause = s.pause
      ∧ (startInterval b start together s).session = s.session
      ∧ (startInterval b start together s).receiver = s.receiver
      ∧ (startInterval b start together s).carry = s.carry
      ∧ (startInterval b start together s).fibre = s.fibre
      ∧ (startInterval b start together s).selector = s.selector
      ∧ (startInterval b start together s).link = s.link
      ∧ (startInterval b start together s).events = s.events
      ∧ (startInterval b start together s).counts = s.counts
      ∧ (startInterval b start together s).sender.n = s.sender.n
      ∧ (startInterval b start together s).sender.store = s.sender.store
      ∧ (startInterval b start together s).sender.tallyOwed = s.sender.tallyOwed
      ∧ (startInterval b start together s).sender.tallyTimer = s.sender.tallyTimer
      ∧ (startInterval b start together s).sender.stream = s.sender.stream
      ∧ (startInterval b start together s).sender.rewindPending = s.sender.rewindPending
      ∧ (startInterval b start together s).sender.announcePending = s.sender.announcePending
      ∧ (startInterval b start together s).sender.pass = s.sender.pass
      ∧ (startInterval b start together s).sender.cursor = s.sender.cursor
      ∧ (startInterval b start together s).sender.passStopping = s.sender.passStopping
      ∧ (startInterval b start together s).sender.passOwed = s.sender.passOwed
      ∧ (startInterval b start together s).fibreJudge.settings = s.fibreJudge.settings
      ∧ (startInterval b start together s).fibreJudge.verdict = s.fibreJudge.verdict
      ∧ (startInterval b start together s).fibreJudge.penalty = s.fibreJudge.penalty
      ∧ (startInterval b start together s).fibreJudge.suppressed = s.fibreJudge.suppressed
      ∧ (startInterval b start together s).fibreJudge.decay = s.fibreJudge.decay
      ∧ (startInterval b start together s).fibreJudge.damping = s.fibreJudge.damping
      ∧ (startInterval b start together s).fibreJudge.handed = s.fibreJudge.handed
      ∧ (startInterval b start together s).fibreJudge.srtt = s.fibreJudge.srtt
      ∧ (startInterval b start together s).fibreJudge.table = s.fibreJudge.table
      ∧ (startInterval b start together s).radioJudge.settings = s.radioJudge.settings
      ∧ (startInterval b start together s).radioJudge.verdict = s.radioJudge.verdict
      ∧ (startInterval b start together s).radioJudge.penalty = s.radioJudge.penalty
      ∧ (startInterval b start together s).radioJudge.suppressed = s.radioJudge.suppressed
      ∧ (startInterval b start together s).radioJudge.decay = s.radioJudge.decay
      ∧ (startInterval b start together s).radioJudge.damping = s.radioJudge.damping
      ∧ (startInterval b start together s).radioJudge.handed = s.radioJudge.handed
      ∧ (startInterval b start together s).radioJudge.srtt = s.radioJudge.srtt
      ∧ (startInterval b start together s).radioJudge.table = s.radioJudge.table
      ∧ (startInterval b start together s).radio.status = s.radio.status
      ∧ (startInterval b start together s).radio.modPwr = s.radio.modPwr
      ∧ (startInterval b start together s).radio.rounds = s.radio.rounds
      ∧ (startInterval b start together s).radio.linger = s.radio.linger
      ∧ (startInterval b start together s).radio.rest = s.radio.rest
      ∧ (startInterval b start together s).radio.cause = s.radio.cause
      ∧ (startInterval b start together s).radio.releaseDue = s.radio.releaseDue
      ∧ (startInterval b start together s).radio.wantedHeld = s.radio.wantedHeld
      ∧ (startInterval b start together s).radio.lastReading = s.radio.lastReading
      ∧ (startInterval b start together s).radio.leaving = s.radio.leaving
      ∧ (startInterval b start together s).radio.held = s.radio.held
      ∧ (startInterval b start together s).radio.handshake = s.radio.handshake
      ∧ (startInterval b start together s).radio.stallCount = s.radio.stallCount
      ∧ (startInterval b start together s).radio.settings = s.radio.settings := by
  simp only [startInterval]
  split <;> simp

@[simp] theorem beginJudging_frame (b : Bearer) (s : State) :
    (beginJudging b s).pending = s.pending
      ∧ (beginJudging b s).clock = s.clock
      ∧ (beginJudging b s).resetHeld = s.resetHeld
      ∧ (beginJudging b s).home = s.home
      ∧ (beginJudging b s).classMap = s.classMap
      ∧ (beginJudging b s).lanes = s.lanes
      ∧ (beginJudging b s).pause = s.pause
      ∧ (beginJudging b s).session = s.session
      ∧ (beginJudging b s).receiver = s.receiver
      ∧ (beginJudging b s).carry = s.carry
      ∧ (beginJudging b s).fibre = s.fibre
      ∧ (beginJudging b s).selector = s.selector
      ∧ (beginJudging b s).link = s.link
      ∧ (beginJudging b s).events = s.events
      ∧ (beginJudging b s).counts = s.counts
      ∧ (beginJudging b s).sender.n = s.sender.n
      ∧ (beginJudging b s).sender.store = s.sender.store
      ∧ (beginJudging b s).sender.tallyOwed = s.sender.tallyOwed
      ∧ (beginJudging b s).sender.tallyTimer = s.sender.tallyTimer
      ∧ (beginJudging b s).sender.stream = s.sender.stream
      ∧ (beginJudging b s).sender.rewindPending = s.sender.rewindPending
      ∧ (beginJudging b s).sender.announcePending = s.sender.announcePending
      ∧ (beginJudging b s).sender.pass = s.sender.pass
      ∧ (beginJudging b s).sender.cursor = s.sender.cursor
      ∧ (beginJudging b s).sender.passStopping = s.sender.passStopping
      ∧ (beginJudging b s).sender.passOwed = s.sender.passOwed
      ∧ (beginJudging b s).fibreJudge.settings = s.fibreJudge.settings
      ∧ (beginJudging b s).fibreJudge.penalty = s.fibreJudge.penalty
      ∧ (beginJudging b s).fibreJudge.suppressed = s.fibreJudge.suppressed
      ∧ (beginJudging b s).fibreJudge.decay = s.fibreJudge.decay
      ∧ (beginJudging b s).fibreJudge.damping = s.fibreJudge.damping
      ∧ (beginJudging b s).fibreJudge.handed = s.fibreJudge.handed
      ∧ (beginJudging b s).radioJudge.settings = s.radioJudge.settings
      ∧ (beginJudging b s).radioJudge.penalty = s.radioJudge.penalty
      ∧ (beginJudging b s).radioJudge.suppressed = s.radioJudge.suppressed
      ∧ (beginJudging b s).radioJudge.decay = s.radioJudge.decay
      ∧ (beginJudging b s).radioJudge.damping = s.radioJudge.damping
      ∧ (beginJudging b s).radioJudge.handed = s.radioJudge.handed
      ∧ (beginJudging b s).radio.status = s.radio.status
      ∧ (beginJudging b s).radio.modPwr = s.radio.modPwr
      ∧ (beginJudging b s).radio.rounds = s.radio.rounds
      ∧ (beginJudging b s).radio.linger = s.radio.linger
      ∧ (beginJudging b s).radio.rest = s.radio.rest
      ∧ (beginJudging b s).radio.cause = s.radio.cause
      ∧ (beginJudging b s).radio.releaseDue = s.radio.releaseDue
      ∧ (beginJudging b s).radio.wantedHeld = s.radio.wantedHeld
      ∧ (beginJudging b s).radio.lastReading = s.radio.lastReading
      ∧ (beginJudging b s).radio.leaving = s.radio.leaving
      ∧ (beginJudging b s).radio.held = s.radio.held
      ∧ (beginJudging b s).radio.handshake = s.radio.handshake
      ∧ (beginJudging b s).radio.stallCount = s.radio.stallCount
      ∧ (beginJudging b s).radio.settings = s.radio.settings := by cases b <;> simp [beginJudging]

@[simp] theorem sendCommand_frame (c : ModuleCommand) (s : State) :
    (sendCommand c s).pending = s.pending
      ∧ (sendCommand c s).clock = s.clock
      ∧ (sendCommand c s).ties = s.ties
      ∧ (sendCommand c s).resetHeld = s.resetHeld
      ∧ (sendCommand c s).home = s.home
      ∧ (sendCommand c s).classMap = s.classMap
      ∧ (sendCommand c s).lanes = s.lanes
      ∧ (sendCommand c s).pause = s.pause
      ∧ (sendCommand c s).session = s.session
      ∧ (sendCommand c s).sender = s.sender
      ∧ (sendCommand c s).receiver = s.receiver
      ∧ (sendCommand c s).carry = s.carry
      ∧ (sendCommand c s).fibre = s.fibre
      ∧ (sendCommand c s).fibreJudge = s.fibreJudge
      ∧ (sendCommand c s).radioJudge = s.radioJudge
      ∧ (sendCommand c s).selector = s.selector
      ∧ (sendCommand c s).link = s.link
      ∧ (sendCommand c s).events = s.events
      ∧ (sendCommand c s).counts = s.counts
      ∧ (sendCommand c s).radio.status = s.radio.status
      ∧ (sendCommand c s).radio.modPwr = s.radio.modPwr
      ∧ (sendCommand c s).radio.rounds = s.radio.rounds
      ∧ (sendCommand c s).radio.linger = s.radio.linger
      ∧ (sendCommand c s).radio.rest = s.radio.rest
      ∧ (sendCommand c s).radio.cause = s.radio.cause
      ∧ (sendCommand c s).radio.releaseDue = s.radio.releaseDue
      ∧ (sendCommand c s).radio.wantedHeld = s.radio.wantedHeld
      ∧ (sendCommand c s).radio.lastReading = s.radio.lastReading
      ∧ (sendCommand c s).radio.leaving = s.radio.leaving
      ∧ (sendCommand c s).radio.held = s.radio.held
      ∧ (sendCommand c s).radio.handshake = s.radio.handshake
      ∧ (sendCommand c s).radio.stallCount = s.radio.stallCount
      ∧ (sendCommand c s).radio.settings = s.radio.settings := by simp [sendCommand]

@[simp] theorem wake_frame (s : State) :
    (wake s).pending = s.pending
      ∧ (wake s).clock = s.clock
      ∧ (wake s).ties = s.ties
      ∧ (wake s).resetHeld = s.resetHeld
      ∧ (wake s).home = s.home
      ∧ (wake s).classMap = s.classMap
      ∧ (wake s).lanes = s.lanes
      ∧ (wake s).pause = s.pause
      ∧ (wake s).session = s.session
      ∧ (wake s).sender = s.sender
      ∧ (wake s).receiver = s.receiver
      ∧ (wake s).carry = s.carry
      ∧ (wake s).fibre = s.fibre
      ∧ (wake s).fibreJudge = s.fibreJudge
      ∧ (wake s).radioJudge = s.radioJudge
      ∧ (wake s).selector = s.selector
      ∧ (wake s).link = s.link
      ∧ (wake s).events = s.events
      ∧ (wake s).counts = s.counts
      ∧ (wake s).radio.rounds = s.radio.rounds
      ∧ (wake s).radio.linger = s.radio.linger
      ∧ (wake s).radio.rest = s.radio.rest
      ∧ (wake s).radio.cause = s.radio.cause
      ∧ (wake s).radio.releaseDue = s.radio.releaseDue
      ∧ (wake s).radio.wantedHeld = s.radio.wantedHeld
      ∧ (wake s).radio.lastReading = s.radio.lastReading
      ∧ (wake s).radio.leaving = s.radio.leaving
      ∧ (wake s).radio.held = s.radio.held
      ∧ (wake s).radio.handshake = s.radio.handshake
      ∧ (wake s).radio.stallCount = s.radio.stallCount
      ∧ (wake s).radio.settings = s.radio.settings := by simp [wake]

@[simp] theorem searchRound_frame (n : Nat) (s : State) :
    (searchRound n s).pending = s.pending
      ∧ (searchRound n s).clock = s.clock
      ∧ (searchRound n s).ties = s.ties
      ∧ (searchRound n s).resetHeld = s.resetHeld
      ∧ (searchRound n s).home = s.home
      ∧ (searchRound n s).classMap = s.classMap
      ∧ (searchRound n s).lanes = s.lanes
      ∧ (searchRound n s).pause = s.pause
      ∧ (searchRound n s).session = s.session
      ∧ (searchRound n s).sender = s.sender
      ∧ (searchRound n s).receiver = s.receiver
      ∧ (searchRound n s).carry = s.carry
      ∧ (searchRound n s).fibre = s.fibre
      ∧ (searchRound n s).fibreJudge = s.fibreJudge
      ∧ (searchRound n s).radioJudge = s.radioJudge
      ∧ (searchRound n s).selector = s.selector
      ∧ (searchRound n s).link = s.link
      ∧ (searchRound n s).events = s.events
      ∧ (searchRound n s).radio.modPwr = s.radio.modPwr
      ∧ (searchRound n s).radio.linger = s.radio.linger
      ∧ (searchRound n s).radio.rest = s.radio.rest
      ∧ (searchRound n s).radio.cause = s.radio.cause
      ∧ (searchRound n s).radio.releaseDue = s.radio.releaseDue
      ∧ (searchRound n s).radio.wantedHeld = s.radio.wantedHeld
      ∧ (searchRound n s).radio.lastReading = s.radio.lastReading
      ∧ (searchRound n s).radio.leaving = s.radio.leaving
      ∧ (searchRound n s).radio.held = s.radio.held
      ∧ (searchRound n s).radio.handshake = s.radio.handshake
      ∧ (searchRound n s).radio.stallCount = s.radio.stallCount
      ∧ (searchRound n s).radio.settings = s.radio.settings
      ∧ (searchRound n s).counts.lane = s.counts.lane
      ∧ (searchRound n s).counts.carry = s.counts.carry
      ∧ (searchRound n s).counts.probeFibre = s.counts.probeFibre
      ∧ (searchRound n s).counts.probeRadio = s.counts.probeRadio
      ∧ (searchRound n s).counts.link = s.counts.link := by simp [searchRound]

@[simp] theorem leaveReady_frame (s : State) :
    (leaveReady s).pending = s.pending
      ∧ (leaveReady s).clock = s.clock
      ∧ (leaveReady s).ties = s.ties
      ∧ (leaveReady s).resetHeld = s.resetHeld
      ∧ (leaveReady s).home = s.home
      ∧ (leaveReady s).classMap = s.classMap
      ∧ (leaveReady s).lanes = s.lanes
      ∧ (leaveReady s).session = s.session
      ∧ (leaveReady s).receiver = s.receiver
      ∧ (leaveReady s).carry = s.carry
      ∧ (leaveReady s).fibre = s.fibre
      ∧ (leaveReady s).selector = s.selector
      ∧ (leaveReady s).pause.session = s.pause.session
      ∧ (leaveReady s).pause.selector = s.pause.selector
      ∧ (leaveReady s).pause.pass = s.pause.pass
      ∧ (leaveReady s).sender.n = s.sender.n
      ∧ (leaveReady s).sender.store = s.sender.store
      ∧ (leaveReady s).sender.tallyOwed = s.sender.tallyOwed
      ∧ (leaveReady s).sender.tallyTimer = s.sender.tallyTimer
      ∧ (leaveReady s).sender.rewindPending = s.sender.rewindPending
      ∧ (leaveReady s).sender.announcePending = s.sender.announcePending
      ∧ (leaveReady s).sender.pass = s.sender.pass
      ∧ (leaveReady s).sender.cursor = s.sender.cursor
      ∧ (leaveReady s).sender.passStopping = s.sender.passStopping
      ∧ (leaveReady s).sender.passOwed = s.sender.passOwed
      ∧ (leaveReady s).fibreJudge.settings = s.fibreJudge.settings
      ∧ (leaveReady s).fibreJudge.penalty = s.fibreJudge.penalty
      ∧ (leaveReady s).fibreJudge.suppressed = s.fibreJudge.suppressed
      ∧ (leaveReady s).fibreJudge.decay = s.fibreJudge.decay
      ∧ (leaveReady s).fibreJudge.damping = s.fibreJudge.damping
      ∧ (leaveReady s).fibreJudge.handed = s.fibreJudge.handed
      ∧ (leaveReady s).fibreJudge.tag = s.fibreJudge.tag
      ∧ (leaveReady s).radioJudge.settings = s.radioJudge.settings
      ∧ (leaveReady s).radioJudge.penalty = s.radioJudge.penalty
      ∧ (leaveReady s).radioJudge.suppressed = s.radioJudge.suppressed
      ∧ (leaveReady s).radioJudge.decay = s.radioJudge.decay
      ∧ (leaveReady s).radioJudge.damping = s.radioJudge.damping
      ∧ (leaveReady s).radioJudge.handed = s.radioJudge.handed
      ∧ (leaveReady s).radioJudge.tag = s.radioJudge.tag
      ∧ (leaveReady s).radio.status = s.radio.status
      ∧ (leaveReady s).radio.modPwr = s.radio.modPwr
      ∧ (leaveReady s).radio.outstanding = s.radio.outstanding
      ∧ (leaveReady s).radio.rounds = s.radio.rounds
      ∧ (leaveReady s).radio.rest = s.radio.rest
      ∧ (leaveReady s).radio.cause = s.radio.cause
      ∧ (leaveReady s).radio.wantedHeld = s.radio.wantedHeld
      ∧ (leaveReady s).radio.lastReading = s.radio.lastReading
      ∧ (leaveReady s).radio.leaving = s.radio.leaving
      ∧ (leaveReady s).radio.stallCount = s.radio.stallCount
      ∧ (leaveReady s).radio.settings = s.radio.settings
      ∧ (leaveReady s).link.rx = s.link.rx
      ∧ (leaveReady s).link.rxTimer = s.link.rxTimer
      ∧ (leaveReady s).link.inbound = s.link.inbound
      ∧ (leaveReady s).link.sent = s.link.sent
      ∧ (leaveReady s).link.resetTaken = s.link.resetTaken
      ∧ (leaveReady s).events.mask = s.events.mask
      ∧ (leaveReady s).events.mode = s.events.mode
      ∧ (leaveReady s).events.attn = s.events.attn
      ∧ (leaveReady s).counts.lane = s.counts.lane
      ∧ (leaveReady s).counts.carry = s.counts.carry
      ∧ (leaveReady s).counts.probeFibre = s.counts.probeFibre
      ∧ (leaveReady s).counts.probeRadio = s.counts.probeRadio
      ∧ (leaveReady s).counts.module = s.counts.module := by simp [leaveReady]

@[simp] theorem enterReleasing_frame (cause : ReleaseCause) (s : State) :
    (enterReleasing cause s).pending = s.pending
      ∧ (enterReleasing cause s).clock = s.clock
      ∧ (enterReleasing cause s).ties = s.ties
      ∧ (enterReleasing cause s).resetHeld = s.resetHeld
      ∧ (enterReleasing cause s).home = s.home
      ∧ (enterReleasing cause s).classMap = s.classMap
      ∧ (enterReleasing cause s).lanes = s.lanes
      ∧ (enterReleasing cause s).session = s.session
      ∧ (enterReleasing cause s).receiver = s.receiver
      ∧ (enterReleasing cause s).carry = s.carry
      ∧ (enterReleasing cause s).fibre = s.fibre
      ∧ (enterReleasing cause s).selector = s.selector
      ∧ (enterReleasing cause s).pause.session = s.pause.session
      ∧ (enterReleasing cause s).pause.selector = s.pause.selector
      ∧ (enterReleasing cause s).pause.pass = s.pause.pass
      ∧ (enterReleasing cause s).sender.n = s.sender.n
      ∧ (enterReleasing cause s).sender.store = s.sender.store
      ∧ (enterReleasing cause s).sender.tallyOwed = s.sender.tallyOwed
      ∧ (enterReleasing cause s).sender.tallyTimer = s.sender.tallyTimer
      ∧ (enterReleasing cause s).sender.rewindPending = s.sender.rewindPending
      ∧ (enterReleasing cause s).sender.announcePending = s.sender.announcePending
      ∧ (enterReleasing cause s).sender.pass = s.sender.pass
      ∧ (enterReleasing cause s).sender.cursor = s.sender.cursor
      ∧ (enterReleasing cause s).sender.passStopping = s.sender.passStopping
      ∧ (enterReleasing cause s).sender.passOwed = s.sender.passOwed
      ∧ (enterReleasing cause s).fibreJudge.settings = s.fibreJudge.settings
      ∧ (enterReleasing cause s).fibreJudge.penalty = s.fibreJudge.penalty
      ∧ (enterReleasing cause s).fibreJudge.suppressed = s.fibreJudge.suppressed
      ∧ (enterReleasing cause s).fibreJudge.decay = s.fibreJudge.decay
      ∧ (enterReleasing cause s).fibreJudge.damping = s.fibreJudge.damping
      ∧ (enterReleasing cause s).fibreJudge.handed = s.fibreJudge.handed
      ∧ (enterReleasing cause s).fibreJudge.tag = s.fibreJudge.tag
      ∧ (enterReleasing cause s).radioJudge.settings = s.radioJudge.settings
      ∧ (enterReleasing cause s).radioJudge.penalty = s.radioJudge.penalty
      ∧ (enterReleasing cause s).radioJudge.suppressed = s.radioJudge.suppressed
      ∧ (enterReleasing cause s).radioJudge.decay = s.radioJudge.decay
      ∧ (enterReleasing cause s).radioJudge.damping = s.radioJudge.damping
      ∧ (enterReleasing cause s).radioJudge.handed = s.radioJudge.handed
      ∧ (enterReleasing cause s).radioJudge.tag = s.radioJudge.tag
      ∧ (enterReleasing cause s).radio.modPwr = s.radio.modPwr
      ∧ (enterReleasing cause s).radio.rounds = s.radio.rounds
      ∧ (enterReleasing cause s).radio.rest = s.radio.rest
      ∧ (enterReleasing cause s).radio.wantedHeld = s.radio.wantedHeld
      ∧ (enterReleasing cause s).radio.lastReading = s.radio.lastReading
      ∧ (enterReleasing cause s).radio.leaving = s.radio.leaving
      ∧ (enterReleasing cause s).radio.stallCount = s.radio.stallCount
      ∧ (enterReleasing cause s).radio.settings = s.radio.settings
      ∧ (enterReleasing cause s).link.rx = s.link.rx
      ∧ (enterReleasing cause s).link.rxTimer = s.link.rxTimer
      ∧ (enterReleasing cause s).link.inbound = s.link.inbound
      ∧ (enterReleasing cause s).link.sent = s.link.sent
      ∧ (enterReleasing cause s).link.resetTaken = s.link.resetTaken
      ∧ (enterReleasing cause s).events.mask = s.events.mask
      ∧ (enterReleasing cause s).events.mode = s.events.mode
      ∧ (enterReleasing cause s).events.attn = s.events.attn
      ∧ (enterReleasing cause s).counts.lane = s.counts.lane
      ∧ (enterReleasing cause s).counts.carry = s.counts.carry
      ∧ (enterReleasing cause s).counts.probeFibre = s.counts.probeFibre
      ∧ (enterReleasing cause s).counts.probeRadio = s.counts.probeRadio
      ∧ (enterReleasing cause s).counts.module = s.counts.module := by
  simp only [enterReleasing]
  split <;> simp

@[simp] theorem startLinger_frame (s : State) :
    (startLinger s).pending = s.pending
      ∧ (startLinger s).clock = s.clock
      ∧ (startLinger s).ties = s.ties
      ∧ (startLinger s).resetHeld = s.resetHeld
      ∧ (startLinger s).home = s.home
      ∧ (startLinger s).classMap = s.classMap
      ∧ (startLinger s).lanes = s.lanes
      ∧ (startLinger s).session = s.session
      ∧ (startLinger s).receiver = s.receiver
      ∧ (startLinger s).carry = s.carry
      ∧ (startLinger s).fibre = s.fibre
      ∧ (startLinger s).selector = s.selector
      ∧ (startLinger s).pause.session = s.pause.session
      ∧ (startLinger s).pause.selector = s.pause.selector
      ∧ (startLinger s).pause.pass = s.pause.pass
      ∧ (startLinger s).sender.n = s.sender.n
      ∧ (startLinger s).sender.store = s.sender.store
      ∧ (startLinger s).sender.tallyOwed = s.sender.tallyOwed
      ∧ (startLinger s).sender.tallyTimer = s.sender.tallyTimer
      ∧ (startLinger s).sender.rewindPending = s.sender.rewindPending
      ∧ (startLinger s).sender.announcePending = s.sender.announcePending
      ∧ (startLinger s).sender.pass = s.sender.pass
      ∧ (startLinger s).sender.cursor = s.sender.cursor
      ∧ (startLinger s).sender.passStopping = s.sender.passStopping
      ∧ (startLinger s).sender.passOwed = s.sender.passOwed
      ∧ (startLinger s).fibreJudge.settings = s.fibreJudge.settings
      ∧ (startLinger s).fibreJudge.penalty = s.fibreJudge.penalty
      ∧ (startLinger s).fibreJudge.suppressed = s.fibreJudge.suppressed
      ∧ (startLinger s).fibreJudge.decay = s.fibreJudge.decay
      ∧ (startLinger s).fibreJudge.damping = s.fibreJudge.damping
      ∧ (startLinger s).fibreJudge.handed = s.fibreJudge.handed
      ∧ (startLinger s).fibreJudge.tag = s.fibreJudge.tag
      ∧ (startLinger s).radioJudge.settings = s.radioJudge.settings
      ∧ (startLinger s).radioJudge.penalty = s.radioJudge.penalty
      ∧ (startLinger s).radioJudge.suppressed = s.radioJudge.suppressed
      ∧ (startLinger s).radioJudge.decay = s.radioJudge.decay
      ∧ (startLinger s).radioJudge.damping = s.radioJudge.damping
      ∧ (startLinger s).radioJudge.handed = s.radioJudge.handed
      ∧ (startLinger s).radioJudge.tag = s.radioJudge.tag
      ∧ (startLinger s).radio.modPwr = s.radio.modPwr
      ∧ (startLinger s).radio.rounds = s.radio.rounds
      ∧ (startLinger s).radio.rest = s.radio.rest
      ∧ (startLinger s).radio.wantedHeld = s.radio.wantedHeld
      ∧ (startLinger s).radio.lastReading = s.radio.lastReading
      ∧ (startLinger s).radio.leaving = s.radio.leaving
      ∧ (startLinger s).radio.stallCount = s.radio.stallCount
      ∧ (startLinger s).radio.settings = s.radio.settings
      ∧ (startLinger s).link.rx = s.link.rx
      ∧ (startLinger s).link.rxTimer = s.link.rxTimer
      ∧ (startLinger s).link.inbound = s.link.inbound
      ∧ (startLinger s).link.sent = s.link.sent
      ∧ (startLinger s).link.resetTaken = s.link.resetTaken
      ∧ (startLinger s).events.mask = s.events.mask
      ∧ (startLinger s).events.mode = s.events.mode
      ∧ (startLinger s).events.attn = s.events.attn
      ∧ (startLinger s).counts.lane = s.counts.lane
      ∧ (startLinger s).counts.carry = s.counts.carry
      ∧ (startLinger s).counts.probeFibre = s.counts.probeFibre
      ∧ (startLinger s).counts.probeRadio = s.counts.probeRadio
      ∧ (startLinger s).counts.module = s.counts.module := by
  simp only [startLinger]
  split <;> simp

@[simp] theorem actOnLevel_frame (s : State) :
    (actOnLevel s).pending = s.pending
      ∧ (actOnLevel s).clock = s.clock
      ∧ (actOnLevel s).ties = s.ties
      ∧ (actOnLevel s).resetHeld = s.resetHeld
      ∧ (actOnLevel s).home = s.home
      ∧ (actOnLevel s).classMap = s.classMap
      ∧ (actOnLevel s).lanes = s.lanes
      ∧ (actOnLevel s).session = s.session
      ∧ (actOnLevel s).receiver = s.receiver
      ∧ (actOnLevel s).carry = s.carry
      ∧ (actOnLevel s).fibre = s.fibre
      ∧ (actOnLevel s).selector = s.selector
      ∧ (actOnLevel s).pause.session = s.pause.session
      ∧ (actOnLevel s).pause.selector = s.pause.selector
      ∧ (actOnLevel s).pause.pass = s.pause.pass
      ∧ (actOnLevel s).sender.n = s.sender.n
      ∧ (actOnLevel s).sender.store = s.sender.store
      ∧ (actOnLevel s).sender.tallyOwed = s.sender.tallyOwed
      ∧ (actOnLevel s).sender.tallyTimer = s.sender.tallyTimer
      ∧ (actOnLevel s).sender.rewindPending = s.sender.rewindPending
      ∧ (actOnLevel s).sender.announcePending = s.sender.announcePending
      ∧ (actOnLevel s).sender.pass = s.sender.pass
      ∧ (actOnLevel s).sender.cursor = s.sender.cursor
      ∧ (actOnLevel s).sender.passStopping = s.sender.passStopping
      ∧ (actOnLevel s).sender.passOwed = s.sender.passOwed
      ∧ (actOnLevel s).fibreJudge.settings = s.fibreJudge.settings
      ∧ (actOnLevel s).fibreJudge.penalty = s.fibreJudge.penalty
      ∧ (actOnLevel s).fibreJudge.suppressed = s.fibreJudge.suppressed
      ∧ (actOnLevel s).fibreJudge.decay = s.fibreJudge.decay
      ∧ (actOnLevel s).fibreJudge.damping = s.fibreJudge.damping
      ∧ (actOnLevel s).fibreJudge.handed = s.fibreJudge.handed
      ∧ (actOnLevel s).fibreJudge.tag = s.fibreJudge.tag
      ∧ (actOnLevel s).radioJudge.settings = s.radioJudge.settings
      ∧ (actOnLevel s).radioJudge.penalty = s.radioJudge.penalty
      ∧ (actOnLevel s).radioJudge.suppressed = s.radioJudge.suppressed
      ∧ (actOnLevel s).radioJudge.decay = s.radioJudge.decay
      ∧ (actOnLevel s).radioJudge.damping = s.radioJudge.damping
      ∧ (actOnLevel s).radioJudge.handed = s.radioJudge.handed
      ∧ (actOnLevel s).radioJudge.tag = s.radioJudge.tag
      ∧ (actOnLevel s).radio.rounds = s.radio.rounds
      ∧ (actOnLevel s).radio.rest = s.radio.rest
      ∧ (actOnLevel s).radio.wantedHeld = s.radio.wantedHeld
      ∧ (actOnLevel s).radio.lastReading = s.radio.lastReading
      ∧ (actOnLevel s).radio.leaving = s.radio.leaving
      ∧ (actOnLevel s).radio.stallCount = s.radio.stallCount
      ∧ (actOnLevel s).radio.settings = s.radio.settings
      ∧ (actOnLevel s).link.rx = s.link.rx
      ∧ (actOnLevel s).link.rxTimer = s.link.rxTimer
      ∧ (actOnLevel s).link.inbound = s.link.inbound
      ∧ (actOnLevel s).link.sent = s.link.sent
      ∧ (actOnLevel s).link.resetTaken = s.link.resetTaken
      ∧ (actOnLevel s).events.mask = s.events.mask
      ∧ (actOnLevel s).events.mode = s.events.mode
      ∧ (actOnLevel s).events.attn = s.events.attn
      ∧ (actOnLevel s).counts.lane = s.counts.lane
      ∧ (actOnLevel s).counts.carry = s.counts.carry
      ∧ (actOnLevel s).counts.probeFibre = s.counts.probeFibre
      ∧ (actOnLevel s).counts.probeRadio = s.counts.probeRadio
      ∧ (actOnLevel s).counts.module = s.counts.module := by
  simp only [actOnLevel]
  (repeat' split) <;> simp

@[simp] theorem enterOff_frame (s : State) :
    (enterOff s).pending = s.pending
      ∧ (enterOff s).clock = s.clock
      ∧ (enterOff s).ties = s.ties
      ∧ (enterOff s).resetHeld = s.resetHeld
      ∧ (enterOff s).home = s.home
      ∧ (enterOff s).classMap = s.classMap
      ∧ (enterOff s).lanes = s.lanes
      ∧ (enterOff s).session = s.session
      ∧ (enterOff s).receiver = s.receiver
      ∧ (enterOff s).carry = s.carry
      ∧ (enterOff s).fibre = s.fibre
      ∧ (enterOff s).selector = s.selector
      ∧ (enterOff s).pause.session = s.pause.session
      ∧ (enterOff s).pause.selector = s.pause.selector
      ∧ (enterOff s).pause.pass = s.pause.pass
      ∧ (enterOff s).sender.n = s.sender.n
      ∧ (enterOff s).sender.store = s.sender.store
      ∧ (enterOff s).sender.tallyOwed = s.sender.tallyOwed
      ∧ (enterOff s).sender.tallyTimer = s.sender.tallyTimer
      ∧ (enterOff s).sender.rewindPending = s.sender.rewindPending
      ∧ (enterOff s).sender.announcePending = s.sender.announcePending
      ∧ (enterOff s).sender.pass = s.sender.pass
      ∧ (enterOff s).sender.cursor = s.sender.cursor
      ∧ (enterOff s).sender.passStopping = s.sender.passStopping
      ∧ (enterOff s).sender.passOwed = s.sender.passOwed
      ∧ (enterOff s).fibreJudge.settings = s.fibreJudge.settings
      ∧ (enterOff s).fibreJudge.penalty = s.fibreJudge.penalty
      ∧ (enterOff s).fibreJudge.suppressed = s.fibreJudge.suppressed
      ∧ (enterOff s).fibreJudge.decay = s.fibreJudge.decay
      ∧ (enterOff s).fibreJudge.damping = s.fibreJudge.damping
      ∧ (enterOff s).fibreJudge.handed = s.fibreJudge.handed
      ∧ (enterOff s).fibreJudge.tag = s.fibreJudge.tag
      ∧ (enterOff s).radioJudge.settings = s.radioJudge.settings
      ∧ (enterOff s).radioJudge.penalty = s.radioJudge.penalty
      ∧ (enterOff s).radioJudge.suppressed = s.radioJudge.suppressed
      ∧ (enterOff s).radioJudge.decay = s.radioJudge.decay
      ∧ (enterOff s).radioJudge.damping = s.radioJudge.damping
      ∧ (enterOff s).radioJudge.handed = s.radioJudge.handed
      ∧ (enterOff s).radioJudge.tag = s.radioJudge.tag
      ∧ (enterOff s).radio.rounds = s.radio.rounds
      ∧ (enterOff s).radio.wantedHeld = s.radio.wantedHeld
      ∧ (enterOff s).radio.lastReading = s.radio.lastReading
      ∧ (enterOff s).radio.leaving = s.radio.leaving
      ∧ (enterOff s).radio.stallCount = s.radio.stallCount
      ∧ (enterOff s).radio.settings = s.radio.settings
      ∧ (enterOff s).link.rx = s.link.rx
      ∧ (enterOff s).link.rxTimer = s.link.rxTimer
      ∧ (enterOff s).link.inbound = s.link.inbound
      ∧ (enterOff s).link.sent = s.link.sent
      ∧ (enterOff s).link.resetTaken = s.link.resetTaken
      ∧ (enterOff s).events.mask = s.events.mask
      ∧ (enterOff s).events.mode = s.events.mode
      ∧ (enterOff s).events.attn = s.events.attn
      ∧ (enterOff s).counts.lane = s.counts.lane
      ∧ (enterOff s).counts.carry = s.counts.carry
      ∧ (enterOff s).counts.probeFibre = s.counts.probeFibre
      ∧ (enterOff s).counts.probeRadio = s.counts.probeRadio
      ∧ (enterOff s).counts.module = s.counts.module := by simp [enterOff]

@[simp] theorem enterResting_frame (s : State) :
    (enterResting s).pending = s.pending
      ∧ (enterResting s).clock = s.clock
      ∧ (enterResting s).ties = s.ties
      ∧ (enterResting s).resetHeld = s.resetHeld
      ∧ (enterResting s).home = s.home
      ∧ (enterResting s).classMap = s.classMap
      ∧ (enterResting s).lanes = s.lanes
      ∧ (enterResting s).pause = s.pause
      ∧ (enterResting s).session = s.session
      ∧ (enterResting s).sender = s.sender
      ∧ (enterResting s).receiver = s.receiver
      ∧ (enterResting s).carry = s.carry
      ∧ (enterResting s).fibre = s.fibre
      ∧ (enterResting s).fibreJudge = s.fibreJudge
      ∧ (enterResting s).radioJudge = s.radioJudge
      ∧ (enterResting s).selector = s.selector
      ∧ (enterResting s).link = s.link
      ∧ (enterResting s).events = s.events
      ∧ (enterResting s).counts = s.counts
      ∧ (enterResting s).radio.rounds = s.radio.rounds
      ∧ (enterResting s).radio.linger = s.radio.linger
      ∧ (enterResting s).radio.releaseDue = s.radio.releaseDue
      ∧ (enterResting s).radio.wantedHeld = s.radio.wantedHeld
      ∧ (enterResting s).radio.lastReading = s.radio.lastReading
      ∧ (enterResting s).radio.leaving = s.radio.leaving
      ∧ (enterResting s).radio.held = s.radio.held
      ∧ (enterResting s).radio.handshake = s.radio.handshake
      ∧ (enterResting s).radio.stallCount = s.radio.stallCount
      ∧ (enterResting s).radio.settings = s.radio.settings := by simp [enterResting]

@[simp] theorem enterReady_frame (s : State) :
    (enterReady s).pending = s.pending
      ∧ (enterReady s).clock = s.clock
      ∧ (enterReady s).resetHeld = s.resetHeld
      ∧ (enterReady s).home = s.home
      ∧ (enterReady s).classMap = s.classMap
      ∧ (enterReady s).lanes = s.lanes
      ∧ (enterReady s).session = s.session
      ∧ (enterReady s).receiver = s.receiver
      ∧ (enterReady s).carry = s.carry
      ∧ (enterReady s).fibre = s.fibre
      ∧ (enterReady s).selector = s.selector
      ∧ (enterReady s).pause.session = s.pause.session
      ∧ (enterReady s).pause.selector = s.pause.selector
      ∧ (enterReady s).pause.pass = s.pause.pass
      ∧ (enterReady s).sender.n = s.sender.n
      ∧ (enterReady s).sender.store = s.sender.store
      ∧ (enterReady s).sender.tallyOwed = s.sender.tallyOwed
      ∧ (enterReady s).sender.tallyTimer = s.sender.tallyTimer
      ∧ (enterReady s).sender.rewindPending = s.sender.rewindPending
      ∧ (enterReady s).sender.announcePending = s.sender.announcePending
      ∧ (enterReady s).sender.pass = s.sender.pass
      ∧ (enterReady s).sender.cursor = s.sender.cursor
      ∧ (enterReady s).sender.passStopping = s.sender.passStopping
      ∧ (enterReady s).sender.passOwed = s.sender.passOwed
      ∧ (enterReady s).fibreJudge.settings = s.fibreJudge.settings
      ∧ (enterReady s).fibreJudge.penalty = s.fibreJudge.penalty
      ∧ (enterReady s).fibreJudge.suppressed = s.fibreJudge.suppressed
      ∧ (enterReady s).fibreJudge.decay = s.fibreJudge.decay
      ∧ (enterReady s).fibreJudge.damping = s.fibreJudge.damping
      ∧ (enterReady s).fibreJudge.handed = s.fibreJudge.handed
      ∧ (enterReady s).radioJudge.settings = s.radioJudge.settings
      ∧ (enterReady s).radioJudge.penalty = s.radioJudge.penalty
      ∧ (enterReady s).radioJudge.suppressed = s.radioJudge.suppressed
      ∧ (enterReady s).radioJudge.decay = s.radioJudge.decay
      ∧ (enterReady s).radioJudge.damping = s.radioJudge.damping
      ∧ (enterReady s).radioJudge.handed = s.radioJudge.handed
      ∧ (enterReady s).radio.modPwr = s.radio.modPwr
      ∧ (enterReady s).radio.rounds = s.radio.rounds
      ∧ (enterReady s).radio.rest = s.radio.rest
      ∧ (enterReady s).radio.wantedHeld = s.radio.wantedHeld
      ∧ (enterReady s).radio.lastReading = s.radio.lastReading
      ∧ (enterReady s).radio.leaving = s.radio.leaving
      ∧ (enterReady s).radio.settings = s.radio.settings
      ∧ (enterReady s).link.rx = s.link.rx
      ∧ (enterReady s).link.rxTimer = s.link.rxTimer
      ∧ (enterReady s).link.inbound = s.link.inbound
      ∧ (enterReady s).link.sent = s.link.sent
      ∧ (enterReady s).link.resetTaken = s.link.resetTaken
      ∧ (enterReady s).events.mask = s.events.mask
      ∧ (enterReady s).events.mode = s.events.mode
      ∧ (enterReady s).events.attn = s.events.attn
      ∧ (enterReady s).counts.lane = s.counts.lane
      ∧ (enterReady s).counts.carry = s.counts.carry
      ∧ (enterReady s).counts.probeFibre = s.counts.probeFibre
      ∧ (enterReady s).counts.probeRadio = s.counts.probeRadio
      ∧ (enterReady s).counts.module = s.counts.module := by
  simp only [enterReady]
  (repeat' split) <;> simp

end Sys2Proof.Machine
end

