-- ==== Sys2Proof/Laws/Selector.lean ====
section
/-! SUPPORT. Frame lemmas: what the path selector's operations leave as they are. -/

namespace Sys2Proof.Machine

@[simp] theorem handWanted_frame (s : State) :
    (handWanted s).pending = s.pending
      ∧ (handWanted s).clock = s.clock
      ∧ (handWanted s).ties = s.ties
      ∧ (handWanted s).resetHeld = s.resetHeld
      ∧ (handWanted s).home = s.home
      ∧ (handWanted s).classMap = s.classMap
      ∧ (handWanted s).lanes = s.lanes
      ∧ (handWanted s).session = s.session
      ∧ (handWanted s).receiver = s.receiver
      ∧ (handWanted s).carry = s.carry
      ∧ (handWanted s).fibre = s.fibre
      ∧ (handWanted s).pause.session = s.pause.session
      ∧ (handWanted s).pause.selector = s.pause.selector
      ∧ (handWanted s).pause.pass = s.pause.pass
      ∧ (handWanted s).sender.n = s.sender.n
      ∧ (handWanted s).sender.store = s.sender.store
      ∧ (handWanted s).sender.tallyOwed = s.sender.tallyOwed
      ∧ (handWanted s).sender.tallyTimer = s.sender.tallyTimer
      ∧ (handWanted s).sender.rewindPending = s.sender.rewindPending
      ∧ (handWanted s).sender.announcePending = s.sender.announcePending
      ∧ (handWanted s).sender.pass = s.sender.pass
      ∧ (handWanted s).sender.cursor = s.sender.cursor
      ∧ (handWanted s).sender.passStopping = s.sender.passStopping
      ∧ (handWanted s).sender.passOwed = s.sender.passOwed
      ∧ (handWanted s).fibreJudge.settings = s.fibreJudge.settings
      ∧ (handWanted s).fibreJudge.penalty = s.fibreJudge.penalty
      ∧ (handWanted s).fibreJudge.suppressed = s.fibreJudge.suppressed
      ∧ (handWanted s).fibreJudge.decay = s.fibreJudge.decay
      ∧ (handWanted s).fibreJudge.damping = s.fibreJudge.damping
      ∧ (handWanted s).fibreJudge.handed = s.fibreJudge.handed
      ∧ (handWanted s).fibreJudge.tag = s.fibreJudge.tag
      ∧ (handWanted s).radioJudge.settings = s.radioJudge.settings
      ∧ (handWanted s).radioJudge.penalty = s.radioJudge.penalty
      ∧ (handWanted s).radioJudge.suppressed = s.radioJudge.suppressed
      ∧ (handWanted s).radioJudge.decay = s.radioJudge.decay
      ∧ (handWanted s).radioJudge.damping = s.radioJudge.damping
      ∧ (handWanted s).radioJudge.tag = s.radioJudge.tag
      ∧ (handWanted s).selector.status = s.selector.status
      ∧ (handWanted s).selector.pin = s.selector.pin
      ∧ (handWanted s).selector.drainTimer = s.selector.drainTimer
      ∧ (handWanted s).selector.holdTimer = s.selector.holdTimer
      ∧ (handWanted s).selector.record = s.selector.record
      ∧ (handWanted s).radio.rounds = s.radio.rounds
      ∧ (handWanted s).radio.rest = s.radio.rest
      ∧ (handWanted s).radio.lastReading = s.radio.lastReading
      ∧ (handWanted s).radio.leaving = s.radio.leaving
      ∧ (handWanted s).radio.stallCount = s.radio.stallCount
      ∧ (handWanted s).radio.settings = s.radio.settings
      ∧ (handWanted s).link.rx = s.link.rx
      ∧ (handWanted s).link.rxTimer = s.link.rxTimer
      ∧ (handWanted s).link.inbound = s.link.inbound
      ∧ (handWanted s).link.sent = s.link.sent
      ∧ (handWanted s).link.resetTaken = s.link.resetTaken
      ∧ (handWanted s).events.mask = s.events.mask
      ∧ (handWanted s).events.mode = s.events.mode
      ∧ (handWanted s).events.attn = s.events.attn
      ∧ (handWanted s).counts.lane = s.counts.lane
      ∧ (handWanted s).counts.carry = s.counts.carry
      ∧ (handWanted s).counts.probeFibre = s.counts.probeFibre
      ∧ (handWanted s).counts.probeRadio = s.counts.probeRadio
      ∧ (handWanted s).counts.module = s.counts.module := by
  simp only [handWanted]
  split <;> simp

@[simp] theorem endActive_frame (s : State) :
    (endActive s).pending = s.pending
      ∧ (endActive s).clock = s.clock
      ∧ (endActive s).ties = s.ties
      ∧ (endActive s).resetHeld = s.resetHeld
      ∧ (endActive s).home = s.home
      ∧ (endActive s).classMap = s.classMap
      ∧ (endActive s).lanes = s.lanes
      ∧ (endActive s).session = s.session
      ∧ (endActive s).receiver = s.receiver
      ∧ (endActive s).carry = s.carry
      ∧ (endActive s).fibre = s.fibre
      ∧ (endActive s).fibreJudge = s.fibreJudge
      ∧ (endActive s).radioJudge = s.radioJudge
      ∧ (endActive s).selector = s.selector
      ∧ (endActive s).radio = s.radio
      ∧ (endActive s).link = s.link
      ∧ (endActive s).events = s.events
      ∧ (endActive s).counts = s.counts
      ∧ (endActive s).pause.session = s.pause.session
      ∧ (endActive s).pause.selector = s.pause.selector
      ∧ (endActive s).sender.n = s.sender.n
      ∧ (endActive s).sender.store = s.sender.store
      ∧ (endActive s).sender.passOwed = s.sender.passOwed := by simp [endActive]

@[simp] theorem sessionOn_frame (b : Bearer) (s : State) :
    (sessionOn b s).pending = s.pending
      ∧ (sessionOn b s).clock = s.clock
      ∧ (sessionOn b s).ties = s.ties
      ∧ (sessionOn b s).resetHeld = s.resetHeld
      ∧ (sessionOn b s).home = s.home
      ∧ (sessionOn b s).classMap = s.classMap
      ∧ (sessionOn b s).lanes = s.lanes
      ∧ (sessionOn b s).carry = s.carry
      ∧ (sessionOn b s).fibre = s.fibre
      ∧ (sessionOn b s).fibreJudge = s.fibreJudge
      ∧ (sessionOn b s).radioJudge = s.radioJudge
      ∧ (sessionOn b s).selector = s.selector
      ∧ (sessionOn b s).radio = s.radio
      ∧ (sessionOn b s).link = s.link
      ∧ (sessionOn b s).events = s.events
      ∧ (sessionOn b s).counts = s.counts
      ∧ (sessionOn b s).pause.selector = s.pause.selector
      ∧ (sessionOn b s).sender.n = s.sender.n
      ∧ (sessionOn b s).sender.store = s.sender.store
      ∧ (sessionOn b s).sender.tallyOwed = s.sender.tallyOwed
      ∧ (sessionOn b s).sender.tallyTimer = s.sender.tallyTimer
      ∧ (sessionOn b s).sender.stream = s.sender.stream
      ∧ (sessionOn b s).receiver.e = s.receiver.e
      ∧ (sessionOn b s).receiver.discard = s.receiver.discard
      ∧ (sessionOn b s).receiver.marksFibre = s.receiver.marksFibre
      ∧ (sessionOn b s).receiver.marksRadio = s.receiver.marksRadio := by
  simp only [sessionOn]
  split <;> simp

@[simp] theorem makeActive_frame (b : Bearer) (fromNone : Bool) (s : State) :
    (makeActive b fromNone s).pending = s.pending
      ∧ (makeActive b fromNone s).clock = s.clock
      ∧ (makeActive b fromNone s).ties = s.ties
      ∧ (makeActive b fromNone s).resetHeld = s.resetHeld
      ∧ (makeActive b fromNone s).home = s.home
      ∧ (makeActive b fromNone s).classMap = s.classMap
      ∧ (makeActive b fromNone s).lanes = s.lanes
      ∧ (makeActive b fromNone s).carry = s.carry
      ∧ (makeActive b fromNone s).fibre = s.fibre
      ∧ (makeActive b fromNone s).fibreJudge = s.fibreJudge
      ∧ (makeActive b fromNone s).radioJudge = s.radioJudge
      ∧ (makeActive b fromNone s).radio = s.radio
      ∧ (makeActive b fromNone s).sender.n = s.sender.n
      ∧ (makeActive b fromNone s).sender.store = s.sender.store
      ∧ (makeActive b fromNone s).receiver.e = s.receiver.e
      ∧ (makeActive b fromNone s).receiver.discard = s.receiver.discard
      ∧ (makeActive b fromNone s).receiver.marksFibre = s.receiver.marksFibre
      ∧ (makeActive b fromNone s).receiver.marksRadio = s.receiver.marksRadio
      ∧ (makeActive b fromNone s).selector.pin = s.selector.pin
      ∧ (makeActive b fromNone s).selector.drainTimer = s.selector.drainTimer
      ∧ (makeActive b fromNone s).selector.holdTimer = s.selector.holdTimer
      ∧ (makeActive b fromNone s).selector.record = s.selector.record
      ∧ (makeActive b fromNone s).selector.wanted = s.selector.wanted
      ∧ (makeActive b fromNone s).link.rx = s.link.rx
      ∧ (makeActive b fromNone s).link.rxTimer = s.link.rxTimer
      ∧ (makeActive b fromNone s).link.inbound = s.link.inbound
      ∧ (makeActive b fromNone s).link.sent = s.link.sent
      ∧ (makeActive b fromNone s).link.resetTaken = s.link.resetTaken
      ∧ (makeActive b fromNone s).events.mask = s.events.mask
      ∧ (makeActive b fromNone s).events.mode = s.events.mode
      ∧ (makeActive b fromNone s).events.attn = s.events.attn
      ∧ (makeActive b fromNone s).counts.lane = s.counts.lane
      ∧ (makeActive b fromNone s).counts.carry = s.counts.carry
      ∧ (makeActive b fromNone s).counts.probeFibre = s.counts.probeFibre
      ∧ (makeActive b fromNone s).counts.probeRadio = s.counts.probeRadio
      ∧ (makeActive b fromNone s).counts.module = s.counts.module := by simp [makeActive]

@[simp] theorem writeRecord_frame (source : Option Bearer) (target : Bearer) (kind : HandoverKind) (outcome : Option HandoverOutcome) (s : State) :
    (writeRecord source target kind outcome s).pending = s.pending
      ∧ (writeRecord source target kind outcome s).clock = s.clock
      ∧ (writeRecord source target kind outcome s).ties = s.ties
      ∧ (writeRecord source target kind outcome s).resetHeld = s.resetHeld
      ∧ (writeRecord source target kind outcome s).home = s.home
      ∧ (writeRecord source target kind outcome s).classMap = s.classMap
      ∧ (writeRecord source target kind outcome s).lanes = s.lanes
      ∧ (writeRecord source target kind outcome s).pause = s.pause
      ∧ (writeRecord source target kind outcome s).session = s.session
      ∧ (writeRecord source target kind outcome s).sender = s.sender
      ∧ (writeRecord source target kind outcome s).receiver = s.receiver
      ∧ (writeRecord source target kind outcome s).carry = s.carry
      ∧ (writeRecord source target kind outcome s).fibre = s.fibre
      ∧ (writeRecord source target kind outcome s).fibreJudge = s.fibreJudge
      ∧ (writeRecord source target kind outcome s).radioJudge = s.radioJudge
      ∧ (writeRecord source target kind outcome s).radio = s.radio
      ∧ (writeRecord source target kind outcome s).link = s.link
      ∧ (writeRecord source target kind outcome s).events = s.events
      ∧ (writeRecord source target kind outcome s).counts = s.counts
      ∧ (writeRecord source target kind outcome s).selector.status = s.selector.status
      ∧ (writeRecord source target kind outcome s).selector.pin = s.selector.pin
      ∧ (writeRecord source target kind outcome s).selector.drainTimer = s.selector.drainTimer
      ∧ (writeRecord source target kind outcome s).selector.holdTimer = s.selector.holdTimer
      ∧ (writeRecord source target kind outcome s).selector.wanted = s.selector.wanted := by simp [writeRecord]

@[simp] theorem completeRecord_frame (outcome : HandoverOutcome) (s : State) :
    (completeRecord outcome s).pending = s.pending
      ∧ (completeRecord outcome s).clock = s.clock
      ∧ (completeRecord outcome s).ties = s.ties
      ∧ (completeRecord outcome s).resetHeld = s.resetHeld
      ∧ (completeRecord outcome s).home = s.home
      ∧ (completeRecord outcome s).classMap = s.classMap
      ∧ (completeRecord outcome s).lanes = s.lanes
      ∧ (completeRecord outcome s).pause = s.pause
      ∧ (completeRecord outcome s).session = s.session
      ∧ (completeRecord outcome s).sender = s.sender
      ∧ (completeRecord outcome s).receiver = s.receiver
      ∧ (completeRecord outcome s).carry = s.carry
      ∧ (completeRecord outcome s).fibre = s.fibre
      ∧ (completeRecord outcome s).fibreJudge = s.fibreJudge
      ∧ (completeRecord outcome s).radioJudge = s.radioJudge
      ∧ (completeRecord outcome s).radio = s.radio
      ∧ (completeRecord outcome s).link = s.link
      ∧ (completeRecord outcome s).events = s.events
      ∧ (completeRecord outcome s).counts = s.counts
      ∧ (completeRecord outcome s).selector.status = s.selector.status
      ∧ (completeRecord outcome s).selector.pin = s.selector.pin
      ∧ (completeRecord outcome s).selector.drainTimer = s.selector.drainTimer
      ∧ (completeRecord outcome s).selector.holdTimer = s.selector.holdTimer
      ∧ (completeRecord outcome s).selector.wanted = s.selector.wanted := by simp [completeRecord]

@[simp] theorem enterOutage_frame (s : State) :
    (enterOutage s).pending = s.pending
      ∧ (enterOutage s).clock = s.clock
      ∧ (enterOutage s).ties = s.ties
      ∧ (enterOutage s).resetHeld = s.resetHeld
      ∧ (enterOutage s).home = s.home
      ∧ (enterOutage s).classMap = s.classMap
      ∧ (enterOutage s).lanes = s.lanes
      ∧ (enterOutage s).carry = s.carry
      ∧ (enterOutage s).fibre = s.fibre
      ∧ (enterOutage s).pause.session = s.pause.session
      ∧ (enterOutage s).session.status = s.session.status
      ∧ (enterOutage s).session.epoch = s.session.epoch
      ∧ (enterOutage s).sender.n = s.sender.n
      ∧ (enterOutage s).sender.store = s.sender.store
      ∧ (enterOutage s).sender.passOwed = s.sender.passOwed
      ∧ (enterOutage s).receiver.e = s.receiver.e
      ∧ (enterOutage s).receiver.discard = s.receiver.discard
      ∧ (enterOutage s).receiver.attempts = s.receiver.attempts
      ∧ (enterOutage s).receiver.marksFibre = s.receiver.marksFibre
      ∧ (enterOutage s).receiver.marksRadio = s.receiver.marksRadio
      ∧ (enterOutage s).fibreJudge.settings = s.fibreJudge.settings
      ∧ (enterOutage s).fibreJudge.penalty = s.fibreJudge.penalty
      ∧ (enterOutage s).fibreJudge.suppressed = s.fibreJudge.suppressed
      ∧ (enterOutage s).fibreJudge.decay = s.fibreJudge.decay
      ∧ (enterOutage s).fibreJudge.damping = s.fibreJudge.damping
      ∧ (enterOutage s).fibreJudge.handed = s.fibreJudge.handed
      ∧ (enterOutage s).fibreJudge.tag = s.fibreJudge.tag
      ∧ (enterOutage s).radioJudge.settings = s.radioJudge.settings
      ∧ (enterOutage s).radioJudge.penalty = s.radioJudge.penalty
      ∧ (enterOutage s).radioJudge.suppressed = s.radioJudge.suppressed
      ∧ (enterOutage s).radioJudge.decay = s.radioJudge.decay
      ∧ (enterOutage s).radioJudge.damping = s.radioJudge.damping
      ∧ (enterOutage s).radioJudge.tag = s.radioJudge.tag
      ∧ (enterOutage s).selector.pin = s.selector.pin
      ∧ (enterOutage s).selector.drainTimer = s.selector.drainTimer
      ∧ (enterOutage s).selector.record = s.selector.record
      ∧ (enterOutage s).radio.rounds = s.radio.rounds
      ∧ (enterOutage s).radio.rest = s.radio.rest
      ∧ (enterOutage s).radio.lastReading = s.radio.lastReading
      ∧ (enterOutage s).radio.leaving = s.radio.leaving
      ∧ (enterOutage s).radio.stallCount = s.radio.stallCount
      ∧ (enterOutage s).radio.settings = s.radio.settings
      ∧ (enterOutage s).link.rx = s.link.rx
      ∧ (enterOutage s).link.rxTimer = s.link.rxTimer
      ∧ (enterOutage s).link.inbound = s.link.inbound
      ∧ (enterOutage s).link.sent = s.link.sent
      ∧ (enterOutage s).link.resetTaken = s.link.resetTaken
      ∧ (enterOutage s).events.mask = s.events.mask
      ∧ (enterOutage s).events.mode = s.events.mode
      ∧ (enterOutage s).events.attn = s.events.attn
      ∧ (enterOutage s).counts.lane = s.counts.lane
      ∧ (enterOutage s).counts.carry = s.counts.carry
      ∧ (enterOutage s).counts.probeFibre = s.counts.probeFibre
      ∧ (enterOutage s).counts.probeRadio = s.counts.probeRadio
      ∧ (enterOutage s).counts.module = s.counts.module := by simp [enterOutage]

@[simp] theorem switchDrain_id_frame (b : Bearer) (outcome : HandoverOutcome) (s : State) :
    (switchDrain id b outcome s).pending = s.pending
      ∧ (switchDrain id b outcome s).clock = s.clock
      ∧ (switchDrain id b outcome s).ties = s.ties
      ∧ (switchDrain id b outcome s).resetHeld = s.resetHeld
      ∧ (switchDrain id b outcome s).home = s.home
      ∧ (switchDrain id b outcome s).classMap = s.classMap
      ∧ (switchDrain id b outcome s).lanes = s.lanes
      ∧ (switchDrain id b outcome s).carry = s.carry
      ∧ (switchDrain id b outcome s).fibre = s.fibre
      ∧ (switchDrain id b outcome s).sender.n = s.sender.n
      ∧ (switchDrain id b outcome s).sender.store = s.sender.store
      ∧ (switchDrain id b outcome s).receiver.e = s.receiver.e
      ∧ (switchDrain id b outcome s).receiver.discard = s.receiver.discard
      ∧ (switchDrain id b outcome s).receiver.marksFibre = s.receiver.marksFibre
      ∧ (switchDrain id b outcome s).receiver.marksRadio = s.receiver.marksRadio
      ∧ (switchDrain id b outcome s).fibreJudge.settings = s.fibreJudge.settings
      ∧ (switchDrain id b outcome s).fibreJudge.penalty = s.fibreJudge.penalty
      ∧ (switchDrain id b outcome s).fibreJudge.suppressed = s.fibreJudge.suppressed
      ∧ (switchDrain id b outcome s).fibreJudge.decay = s.fibreJudge.decay
      ∧ (switchDrain id b outcome s).fibreJudge.damping = s.fibreJudge.damping
      ∧ (switchDrain id b outcome s).fibreJudge.handed = s.fibreJudge.handed
      ∧ (switchDrain id b outcome s).fibreJudge.tag = s.fibreJudge.tag
      ∧ (switchDrain id b outcome s).radioJudge.settings = s.radioJudge.settings
      ∧ (switchDrain id b outcome s).radioJudge.penalty = s.radioJudge.penalty
      ∧ (switchDrain id b outcome s).radioJudge.suppressed = s.radioJudge.suppressed
      ∧ (switchDrain id b outcome s).radioJudge.decay = s.radioJudge.decay
      ∧ (switchDrain id b outcome s).radioJudge.damping = s.radioJudge.damping
      ∧ (switchDrain id b outcome s).radioJudge.tag = s.radioJudge.tag
      ∧ (switchDrain id b outcome s).selector.pin = s.selector.pin
      ∧ (switchDrain id b outcome s).selector.holdTimer = s.selector.holdTimer
      ∧ (switchDrain id b outcome s).radio.rounds = s.radio.rounds
      ∧ (switchDrain id b outcome s).radio.rest = s.radio.rest
      ∧ (switchDrain id b outcome s).radio.lastReading = s.radio.lastReading
      ∧ (switchDrain id b outcome s).radio.leaving = s.radio.leaving
      ∧ (switchDrain id b outcome s).radio.stallCount = s.radio.stallCount
      ∧ (switchDrain id b outcome s).radio.settings = s.radio.settings
      ∧ (switchDrain id b outcome s).link.rx = s.link.rx
      ∧ (switchDrain id b outcome s).link.rxTimer = s.link.rxTimer
      ∧ (switchDrain id b outcome s).link.inbound = s.link.inbound
      ∧ (switchDrain id b outcome s).link.sent = s.link.sent
      ∧ (switchDrain id b outcome s).link.resetTaken = s.link.resetTaken
      ∧ (switchDrain id b outcome s).events.mask = s.events.mask
      ∧ (switchDrain id b outcome s).events.mode = s.events.mode
      ∧ (switchDrain id b outcome s).events.attn = s.events.attn
      ∧ (switchDrain id b outcome s).counts.lane = s.counts.lane
      ∧ (switchDrain id b outcome s).counts.carry = s.counts.carry
      ∧ (switchDrain id b outcome s).counts.probeFibre = s.counts.probeFibre
      ∧ (switchDrain id b outcome s).counts.probeRadio = s.counts.probeRadio
      ∧ (switchDrain id b outcome s).counts.module = s.counts.module := by simp [switchDrain]

@[simp] theorem enterDrain_frame (b : Bearer) (s : State) :
    (enterDrain b s).pending = s.pending
      ∧ (enterDrain b s).clock = s.clock
      ∧ (enterDrain b s).ties = s.ties
      ∧ (enterDrain b s).resetHeld = s.resetHeld
      ∧ (enterDrain b s).home = s.home
      ∧ (enterDrain b s).classMap = s.classMap
      ∧ (enterDrain b s).lanes = s.lanes
      ∧ (enterDrain b s).session = s.session
      ∧ (enterDrain b s).sender = s.sender
      ∧ (enterDrain b s).receiver = s.receiver
      ∧ (enterDrain b s).carry = s.carry
      ∧ (enterDrain b s).fibre = s.fibre
      ∧ (enterDrain b s).fibreJudge = s.fibreJudge
      ∧ (enterDrain b s).radioJudge = s.radioJudge
      ∧ (enterDrain b s).radio = s.radio
      ∧ (enterDrain b s).link = s.link
      ∧ (enterDrain b s).events = s.events
      ∧ (enterDrain b s).counts = s.counts
      ∧ (enterDrain b s).pause.session = s.pause.session
      ∧ (enterDrain b s).pause.pass = s.pause.pass
      ∧ (enterDrain b s).pause.stream = s.pause.stream
      ∧ (enterDrain b s).selector.pin = s.selector.pin
      ∧ (enterDrain b s).selector.wanted = s.selector.wanted := by simp [enterDrain]

@[simp] theorem startDrain_id_frame (b : Bearer) (s : State) :
    (startDrain id b s).pending = s.pending
      ∧ (startDrain id b s).clock = s.clock
      ∧ (startDrain id b s).ties = s.ties
      ∧ (startDrain id b s).resetHeld = s.resetHeld
      ∧ (startDrain id b s).home = s.home
      ∧ (startDrain id b s).classMap = s.classMap
      ∧ (startDrain id b s).lanes = s.lanes
      ∧ (startDrain id b s).carry = s.carry
      ∧ (startDrain id b s).fibre = s.fibre
      ∧ (startDrain id b s).sender.n = s.sender.n
      ∧ (startDrain id b s).sender.store = s.sender.store
      ∧ (startDrain id b s).receiver.e = s.receiver.e
      ∧ (startDrain id b s).receiver.discard = s.receiver.discard
      ∧ (startDrain id b s).receiver.marksFibre = s.receiver.marksFibre
      ∧ (startDrain id b s).receiver.marksRadio = s.receiver.marksRadio
      ∧ (startDrain id b s).fibreJudge.settings = s.fibreJudge.settings
      ∧ (startDrain id b s).fibreJudge.penalty = s.fibreJudge.penalty
      ∧ (startDrain id b s).fibreJudge.suppressed = s.fibreJudge.suppressed
      ∧ (startDrain id b s).fibreJudge.decay = s.fibreJudge.decay
      ∧ (startDrain id b s).fibreJudge.damping = s.fibreJudge.damping
      ∧ (startDrain id b s).fibreJudge.handed = s.fibreJudge.handed
      ∧ (startDrain id b s).fibreJudge.tag = s.fibreJudge.tag
      ∧ (startDrain id b s).radioJudge.settings = s.radioJudge.settings
      ∧ (startDrain id b s).radioJudge.penalty = s.radioJudge.penalty
      ∧ (startDrain id b s).radioJudge.suppressed = s.radioJudge.suppressed
      ∧ (startDrain id b s).radioJudge.decay = s.radioJudge.decay
      ∧ (startDrain id b s).radioJudge.damping = s.radioJudge.damping
      ∧ (startDrain id b s).radioJudge.tag = s.radioJudge.tag
      ∧ (startDrain id b s).selector.pin = s.selector.pin
      ∧ (startDrain id b s).radio.rounds = s.radio.rounds
      ∧ (startDrain id b s).radio.rest = s.radio.rest
      ∧ (startDrain id b s).radio.lastReading = s.radio.lastReading
      ∧ (startDrain id b s).radio.leaving = s.radio.leaving
      ∧ (startDrain id b s).radio.stallCount = s.radio.stallCount
      ∧ (startDrain id b s).radio.settings = s.radio.settings
      ∧ (startDrain id b s).link.rx = s.link.rx
      ∧ (startDrain id b s).link.rxTimer = s.link.rxTimer
      ∧ (startDrain id b s).link.inbound = s.link.inbound
      ∧ (startDrain id b s).link.sent = s.link.sent
      ∧ (startDrain id b s).link.resetTaken = s.link.resetTaken
      ∧ (startDrain id b s).events.mask = s.events.mask
      ∧ (startDrain id b s).events.mode = s.events.mode
      ∧ (startDrain id b s).events.attn = s.events.attn
      ∧ (startDrain id b s).counts.lane = s.counts.lane
      ∧ (startDrain id b s).counts.carry = s.counts.carry
      ∧ (startDrain id b s).counts.probeFibre = s.counts.probeFibre
      ∧ (startDrain id b s).counts.probeRadio = s.counts.probeRadio
      ∧ (startDrain id b s).counts.module = s.counts.module := by
  simp only [startDrain]
  split <;> simp

@[simp] theorem updateHold_frame (s : State) :
    (updateHold s).pending = s.pending
      ∧ (updateHold s).clock = s.clock
      ∧ (updateHold s).ties = s.ties
      ∧ (updateHold s).resetHeld = s.resetHeld
      ∧ (updateHold s).home = s.home
      ∧ (updateHold s).classMap = s.classMap
      ∧ (updateHold s).lanes = s.lanes
      ∧ (updateHold s).carry = s.carry
      ∧ (updateHold s).fibre = s.fibre
      ∧ (updateHold s).sender.n = s.sender.n
      ∧ (updateHold s).sender.store = s.sender.store
      ∧ (updateHold s).receiver.e = s.receiver.e
      ∧ (updateHold s).receiver.discard = s.receiver.discard
      ∧ (updateHold s).receiver.marksFibre = s.receiver.marksFibre
      ∧ (updateHold s).receiver.marksRadio = s.receiver.marksRadio
      ∧ (updateHold s).fibreJudge.settings = s.fibreJudge.settings
      ∧ (updateHold s).fibreJudge.penalty = s.fibreJudge.penalty
      ∧ (updateHold s).fibreJudge.suppressed = s.fibreJudge.suppressed
      ∧ (updateHold s).fibreJudge.decay = s.fibreJudge.decay
      ∧ (updateHold s).fibreJudge.damping = s.fibreJudge.damping
      ∧ (updateHold s).fibreJudge.handed = s.fibreJudge.handed
      ∧ (updateHold s).fibreJudge.tag = s.fibreJudge.tag
      ∧ (updateHold s).radioJudge.settings = s.radioJudge.settings
      ∧ (updateHold s).radioJudge.penalty = s.radioJudge.penalty
      ∧ (updateHold s).radioJudge.suppressed = s.radioJudge.suppressed
      ∧ (updateHold s).radioJudge.decay = s.radioJudge.decay
      ∧ (updateHold s).radioJudge.damping = s.radioJudge.damping
      ∧ (updateHold s).radioJudge.tag = s.radioJudge.tag
      ∧ (updateHold s).selector.pin = s.selector.pin
      ∧ (updateHold s).radio.rounds = s.radio.rounds
      ∧ (updateHold s).radio.rest = s.radio.rest
      ∧ (updateHold s).radio.lastReading = s.radio.lastReading
      ∧ (updateHold s).radio.leaving = s.radio.leaving
      ∧ (updateHold s).radio.stallCount = s.radio.stallCount
      ∧ (updateHold s).radio.settings = s.radio.settings
      ∧ (updateHold s).link.rx = s.link.rx
      ∧ (updateHold s).link.rxTimer = s.link.rxTimer
      ∧ (updateHold s).link.inbound = s.link.inbound
      ∧ (updateHold s).link.sent = s.link.sent
      ∧ (updateHold s).link.resetTaken = s.link.resetTaken
      ∧ (updateHold s).events.mask = s.events.mask
      ∧ (updateHold s).events.mode = s.events.mode
      ∧ (updateHold s).events.attn = s.events.attn
      ∧ (updateHold s).counts.lane = s.counts.lane
      ∧ (updateHold s).counts.carry = s.counts.carry
      ∧ (updateHold s).counts.probeFibre = s.counts.probeFibre
      ∧ (updateHold s).counts.probeRadio = s.counts.probeRadio
      ∧ (updateHold s).counts.module = s.counts.module := by
  simp only [updateHold]
  (repeat' split) <;> simp

@[simp] theorem switchDrain_frame (b : Bearer) (outcome : HandoverOutcome) (s : State) :
    (switchDrain updateHold b outcome s).pending = s.pending
      ∧ (switchDrain updateHold b outcome s).clock = s.clock
      ∧ (switchDrain updateHold b outcome s).ties = s.ties
      ∧ (switchDrain updateHold b outcome s).resetHeld = s.resetHeld
      ∧ (switchDrain updateHold b outcome s).home = s.home
      ∧ (switchDrain updateHold b outcome s).classMap = s.classMap
      ∧ (switchDrain updateHold b outcome s).lanes = s.lanes
      ∧ (switchDrain updateHold b outcome s).carry = s.carry
      ∧ (switchDrain updateHold b outcome s).fibre = s.fibre
      ∧ (switchDrain updateHold b outcome s).sender.n = s.sender.n
      ∧ (switchDrain updateHold b outcome s).sender.store = s.sender.store
      ∧ (switchDrain updateHold b outcome s).receiver.e = s.receiver.e
      ∧ (switchDrain updateHold b outcome s).receiver.discard = s.receiver.discard
      ∧ (switchDrain updateHold b outcome s).receiver.marksFibre = s.receiver.marksFibre
      ∧ (switchDrain updateHold b outcome s).receiver.marksRadio = s.receiver.marksRadio
      ∧ (switchDrain updateHold b outcome s).fibreJudge.settings = s.fibreJudge.settings
      ∧ (switchDrain updateHold b outcome s).fibreJudge.penalty = s.fibreJudge.penalty
      ∧ (switchDrain updateHold b outcome s).fibreJudge.suppressed = s.fibreJudge.suppressed
      ∧ (switchDrain updateHold b outcome s).fibreJudge.decay = s.fibreJudge.decay
      ∧ (switchDrain updateHold b outcome s).fibreJudge.damping = s.fibreJudge.damping
      ∧ (switchDrain updateHold b outcome s).fibreJudge.handed = s.fibreJudge.handed
      ∧ (switchDrain updateHold b outcome s).fibreJudge.tag = s.fibreJudge.tag
      ∧ (switchDrain updateHold b outcome s).radioJudge.settings = s.radioJudge.settings
      ∧ (switchDrain updateHold b outcome s).radioJudge.penalty = s.radioJudge.penalty
      ∧ (switchDrain updateHold b outcome s).radioJudge.suppressed = s.radioJudge.suppressed
      ∧ (switchDrain updateHold b outcome s).radioJudge.decay = s.radioJudge.decay
      ∧ (switchDrain updateHold b outcome s).radioJudge.damping = s.radioJudge.damping
      ∧ (switchDrain updateHold b outcome s).radioJudge.tag = s.radioJudge.tag
      ∧ (switchDrain updateHold b outcome s).selector.pin = s.selector.pin
      ∧ (switchDrain updateHold b outcome s).radio.rounds = s.radio.rounds
      ∧ (switchDrain updateHold b outcome s).radio.rest = s.radio.rest
      ∧ (switchDrain updateHold b outcome s).radio.lastReading = s.radio.lastReading
      ∧ (switchDrain updateHold b outcome s).radio.leaving = s.radio.leaving
      ∧ (switchDrain updateHold b outcome s).radio.stallCount = s.radio.stallCount
      ∧ (switchDrain updateHold b outcome s).radio.settings = s.radio.settings
      ∧ (switchDrain updateHold b outcome s).link.rx = s.link.rx
      ∧ (switchDrain updateHold b outcome s).link.rxTimer = s.link.rxTimer
      ∧ (switchDrain updateHold b outcome s).link.inbound = s.link.inbound
      ∧ (switchDrain updateHold b outcome s).link.sent = s.link.sent
      ∧ (switchDrain updateHold b outcome s).link.resetTaken = s.link.resetTaken
      ∧ (switchDrain updateHold b outcome s).events.mask = s.events.mask
      ∧ (switchDrain updateHold b outcome s).events.mode = s.events.mode
      ∧ (switchDrain updateHold b outcome s).events.attn = s.events.attn
      ∧ (switchDrain updateHold b outcome s).counts.lane = s.counts.lane
      ∧ (switchDrain updateHold b outcome s).counts.carry = s.counts.carry
      ∧ (switchDrain updateHold b outcome s).counts.probeFibre = s.counts.probeFibre
      ∧ (switchDrain updateHold b outcome s).counts.probeRadio = s.counts.probeRadio
      ∧ (switchDrain updateHold b outcome s).counts.module = s.counts.module := by simp [switchDrain]

@[simp] theorem startDrain_frame (b : Bearer) (s : State) :
    (startDrain updateHold b s).pending = s.pending
      ∧ (startDrain updateHold b s).clock = s.clock
      ∧ (startDrain updateHold b s).ties = s.ties
      ∧ (startDrain updateHold b s).resetHeld = s.resetHeld
      ∧ (startDrain updateHold b s).home = s.home
      ∧ (startDrain updateHold b s).classMap = s.classMap
      ∧ (startDrain updateHold b s).lanes = s.lanes
      ∧ (startDrain updateHold b s).carry = s.carry
      ∧ (startDrain updateHold b s).fibre = s.fibre
      ∧ (startDrain updateHold b s).sender.n = s.sender.n
      ∧ (startDrain updateHold b s).sender.store = s.sender.store
      ∧ (startDrain updateHold b s).receiver.e = s.receiver.e
      ∧ (startDrain updateHold b s).receiver.discard = s.receiver.discard
      ∧ (startDrain updateHold b s).receiver.marksFibre = s.receiver.marksFibre
      ∧ (startDrain updateHold b s).receiver.marksRadio = s.receiver.marksRadio
      ∧ (startDrain updateHold b s).fibreJudge.settings = s.fibreJudge.settings
      ∧ (startDrain updateHold b s).fibreJudge.penalty = s.fibreJudge.penalty
      ∧ (startDrain updateHold b s).fibreJudge.suppressed = s.fibreJudge.suppressed
      ∧ (startDrain updateHold b s).fibreJudge.decay = s.fibreJudge.decay
      ∧ (startDrain updateHold b s).fibreJudge.damping = s.fibreJudge.damping
      ∧ (startDrain updateHold b s).fibreJudge.handed = s.fibreJudge.handed
      ∧ (startDrain updateHold b s).fibreJudge.tag = s.fibreJudge.tag
      ∧ (startDrain updateHold b s).radioJudge.settings = s.radioJudge.settings
      ∧ (startDrain updateHold b s).radioJudge.penalty = s.radioJudge.penalty
      ∧ (startDrain updateHold b s).radioJudge.suppressed = s.radioJudge.suppressed
      ∧ (startDrain updateHold b s).radioJudge.decay = s.radioJudge.decay
      ∧ (startDrain updateHold b s).radioJudge.damping = s.radioJudge.damping
      ∧ (startDrain updateHold b s).radioJudge.tag = s.radioJudge.tag
      ∧ (startDrain updateHold b s).selector.pin = s.selector.pin
      ∧ (startDrain updateHold b s).radio.rounds = s.radio.rounds
      ∧ (startDrain updateHold b s).radio.rest = s.radio.rest
      ∧ (startDrain updateHold b s).radio.lastReading = s.radio.lastReading
      ∧ (startDrain updateHold b s).radio.leaving = s.radio.leaving
      ∧ (startDrain updateHold b s).radio.stallCount = s.radio.stallCount
      ∧ (startDrain updateHold b s).radio.settings = s.radio.settings
      ∧ (startDrain updateHold b s).link.rx = s.link.rx
      ∧ (startDrain updateHold b s).link.rxTimer = s.link.rxTimer
      ∧ (startDrain updateHold b s).link.inbound = s.link.inbound
      ∧ (startDrain updateHold b s).link.sent = s.link.sent
      ∧ (startDrain updateHold b s).link.resetTaken = s.link.resetTaken
      ∧ (startDrain updateHold b s).events.mask = s.events.mask
      ∧ (startDrain updateHold b s).events.mode = s.events.mode
      ∧ (startDrain updateHold b s).events.attn = s.events.attn
      ∧ (startDrain updateHold b s).counts.lane = s.counts.lane
      ∧ (startDrain updateHold b s).counts.carry = s.counts.carry
      ∧ (startDrain updateHold b s).counts.probeFibre = s.counts.probeFibre
      ∧ (startDrain updateHold b s).counts.probeRadio = s.counts.probeRadio
      ∧ (startDrain updateHold b s).counts.module = s.counts.module := by
  simp only [startDrain]
  split <;> simp

@[simp] theorem forceTo_frame (source : Option Bearer) (b : Bearer) (s : State) :
    (forceTo source b s).pending = s.pending
      ∧ (forceTo source b s).clock = s.clock
      ∧ (forceTo source b s).ties = s.ties
      ∧ (forceTo source b s).resetHeld = s.resetHeld
      ∧ (forceTo source b s).home = s.home
      ∧ (forceTo source b s).classMap = s.classMap
      ∧ (forceTo source b s).lanes = s.lanes
      ∧ (forceTo source b s).carry = s.carry
      ∧ (forceTo source b s).fibre = s.fibre
      ∧ (forceTo source b s).sender.n = s.sender.n
      ∧ (forceTo source b s).sender.store = s.sender.store
      ∧ (forceTo source b s).receiver.e = s.receiver.e
      ∧ (forceTo source b s).receiver.discard = s.receiver.discard
      ∧ (forceTo source b s).receiver.marksFibre = s.receiver.marksFibre
      ∧ (forceTo source b s).receiver.marksRadio = s.receiver.marksRadio
      ∧ (forceTo source b s).fibreJudge.settings = s.fibreJudge.settings
      ∧ (forceTo source b s).fibreJudge.penalty = s.fibreJudge.penalty
      ∧ (forceTo source b s).fibreJudge.suppressed = s.fibreJudge.suppressed
      ∧ (forceTo source b s).fibreJudge.decay = s.fibreJudge.decay
      ∧ (forceTo source b s).fibreJudge.damping = s.fibreJudge.damping
      ∧ (forceTo source b s).fibreJudge.handed = s.fibreJudge.handed
      ∧ (forceTo source b s).fibreJudge.tag = s.fibreJudge.tag
      ∧ (forceTo source b s).radioJudge.settings = s.radioJudge.settings
      ∧ (forceTo source b s).radioJudge.penalty = s.radioJudge.penalty
      ∧ (forceTo source b s).radioJudge.suppressed = s.radioJudge.suppressed
      ∧ (forceTo source b s).radioJudge.decay = s.radioJudge.decay
      ∧ (forceTo source b s).radioJudge.damping = s.radioJudge.damping
      ∧ (forceTo source b s).radioJudge.tag = s.radioJudge.tag
      ∧ (forceTo source b s).selector.pin = s.selector.pin
      ∧ (forceTo source b s).radio.rounds = s.radio.rounds
      ∧ (forceTo source b s).radio.rest = s.radio.rest
      ∧ (forceTo source b s).radio.lastReading = s.radio.lastReading
      ∧ (forceTo source b s).radio.leaving = s.radio.leaving
      ∧ (forceTo source b s).radio.stallCount = s.radio.stallCount
      ∧ (forceTo source b s).radio.settings = s.radio.settings
      ∧ (forceTo source b s).link.rx = s.link.rx
      ∧ (forceTo source b s).link.rxTimer = s.link.rxTimer
      ∧ (forceTo source b s).link.inbound = s.link.inbound
      ∧ (forceTo source b s).link.sent = s.link.sent
      ∧ (forceTo source b s).link.resetTaken = s.link.resetTaken
      ∧ (forceTo source b s).events.mask = s.events.mask
      ∧ (forceTo source b s).events.mode = s.events.mode
      ∧ (forceTo source b s).events.attn = s.events.attn
      ∧ (forceTo source b s).counts.lane = s.counts.lane
      ∧ (forceTo source b s).counts.carry = s.counts.carry
      ∧ (forceTo source b s).counts.probeFibre = s.counts.probeFibre
      ∧ (forceTo source b s).counts.probeRadio = s.counts.probeRadio
      ∧ (forceTo source b s).counts.module = s.counts.module := by simp [forceTo]

@[simp] theorem loseActive_frame (b : Bearer) (s : State) :
    (loseActive b s).pending = s.pending
      ∧ (loseActive b s).clock = s.clock
      ∧ (loseActive b s).ties = s.ties
      ∧ (loseActive b s).resetHeld = s.resetHeld
      ∧ (loseActive b s).home = s.home
      ∧ (loseActive b s).classMap = s.classMap
      ∧ (loseActive b s).lanes = s.lanes
      ∧ (loseActive b s).carry = s.carry
      ∧ (loseActive b s).fibre = s.fibre
      ∧ (loseActive b s).sender.n = s.sender.n
      ∧ (loseActive b s).sender.store = s.sender.store
      ∧ (loseActive b s).receiver.e = s.receiver.e
      ∧ (loseActive b s).receiver.discard = s.receiver.discard
      ∧ (loseActive b s).receiver.marksFibre = s.receiver.marksFibre
      ∧ (loseActive b s).receiver.marksRadio = s.receiver.marksRadio
      ∧ (loseActive b s).fibreJudge.settings = s.fibreJudge.settings
      ∧ (loseActive b s).fibreJudge.penalty = s.fibreJudge.penalty
      ∧ (loseActive b s).fibreJudge.suppressed = s.fibreJudge.suppressed
      ∧ (loseActive b s).fibreJudge.decay = s.fibreJudge.decay
      ∧ (loseActive b s).fibreJudge.damping = s.fibreJudge.damping
      ∧ (loseActive b s).fibreJudge.handed = s.fibreJudge.handed
      ∧ (loseActive b s).fibreJudge.tag = s.fibreJudge.tag
      ∧ (loseActive b s).radioJudge.settings = s.radioJudge.settings
      ∧ (loseActive b s).radioJudge.penalty = s.radioJudge.penalty
      ∧ (loseActive b s).radioJudge.suppressed = s.radioJudge.suppressed
      ∧ (loseActive b s).radioJudge.decay = s.radioJudge.decay
      ∧ (loseActive b s).radioJudge.damping = s.radioJudge.damping
      ∧ (loseActive b s).radioJudge.tag = s.radioJudge.tag
      ∧ (loseActive b s).selector.pin = s.selector.pin
      ∧ (loseActive b s).radio.rounds = s.radio.rounds
      ∧ (loseActive b s).radio.rest = s.radio.rest
      ∧ (loseActive b s).radio.lastReading = s.radio.lastReading
      ∧ (loseActive b s).radio.leaving = s.radio.leaving
      ∧ (loseActive b s).radio.stallCount = s.radio.stallCount
      ∧ (loseActive b s).radio.settings = s.radio.settings
      ∧ (loseActive b s).link.rx = s.link.rx
      ∧ (loseActive b s).link.rxTimer = s.link.rxTimer
      ∧ (loseActive b s).link.inbound = s.link.inbound
      ∧ (loseActive b s).link.sent = s.link.sent
      ∧ (loseActive b s).link.resetTaken = s.link.resetTaken
      ∧ (loseActive b s).events.mask = s.events.mask
      ∧ (loseActive b s).events.mode = s.events.mode
      ∧ (loseActive b s).events.attn = s.events.attn
      ∧ (loseActive b s).counts.lane = s.counts.lane
      ∧ (loseActive b s).counts.carry = s.counts.carry
      ∧ (loseActive b s).counts.probeFibre = s.counts.probeFibre
      ∧ (loseActive b s).counts.probeRadio = s.counts.probeRadio
      ∧ (loseActive b s).counts.module = s.counts.module := by
  simp only [loseActive]
  split <;> simp

@[simp] theorem abandonDrain_frame (b : Bearer) (outcome : HandoverOutcome) (s : State) :
    (abandonDrain b outcome s).pending = s.pending
      ∧ (abandonDrain b outcome s).clock = s.clock
      ∧ (abandonDrain b outcome s).ties = s.ties
      ∧ (abandonDrain b outcome s).resetHeld = s.resetHeld
      ∧ (abandonDrain b outcome s).home = s.home
      ∧ (abandonDrain b outcome s).classMap = s.classMap
      ∧ (abandonDrain b outcome s).lanes = s.lanes
      ∧ (abandonDrain b outcome s).carry = s.carry
      ∧ (abandonDrain b outcome s).fibre = s.fibre
      ∧ (abandonDrain b outcome s).sender.n = s.sender.n
      ∧ (abandonDrain b outcome s).sender.store = s.sender.store
      ∧ (abandonDrain b outcome s).receiver.e = s.receiver.e
      ∧ (abandonDrain b outcome s).receiver.discard = s.receiver.discard
      ∧ (abandonDrain b outcome s).receiver.marksFibre = s.receiver.marksFibre
      ∧ (abandonDrain b outcome s).receiver.marksRadio = s.receiver.marksRadio
      ∧ (abandonDrain b outcome s).fibreJudge.settings = s.fibreJudge.settings
      ∧ (abandonDrain b outcome s).fibreJudge.penalty = s.fibreJudge.penalty
      ∧ (abandonDrain b outcome s).fibreJudge.suppressed = s.fibreJudge.suppressed
      ∧ (abandonDrain b outcome s).fibreJudge.decay = s.fibreJudge.decay
      ∧ (abandonDrain b outcome s).fibreJudge.damping = s.fibreJudge.damping
      ∧ (abandonDrain b outcome s).fibreJudge.handed = s.fibreJudge.handed
      ∧ (abandonDrain b outcome s).fibreJudge.tag = s.fibreJudge.tag
      ∧ (abandonDrain b outcome s).radioJudge.settings = s.radioJudge.settings
      ∧ (abandonDrain b outcome s).radioJudge.penalty = s.radioJudge.penalty
      ∧ (abandonDrain b outcome s).radioJudge.suppressed = s.radioJudge.suppressed
      ∧ (abandonDrain b outcome s).radioJudge.decay = s.radioJudge.decay
      ∧ (abandonDrain b outcome s).radioJudge.damping = s.radioJudge.damping
      ∧ (abandonDrain b outcome s).radioJudge.tag = s.radioJudge.tag
      ∧ (abandonDrain b outcome s).selector.pin = s.selector.pin
      ∧ (abandonDrain b outcome s).radio.rounds = s.radio.rounds
      ∧ (abandonDrain b outcome s).radio.rest = s.radio.rest
      ∧ (abandonDrain b outcome s).radio.lastReading = s.radio.lastReading
      ∧ (abandonDrain b outcome s).radio.leaving = s.radio.leaving
      ∧ (abandonDrain b outcome s).radio.stallCount = s.radio.stallCount
      ∧ (abandonDrain b outcome s).radio.settings = s.radio.settings
      ∧ (abandonDrain b outcome s).link.rx = s.link.rx
      ∧ (abandonDrain b outcome s).link.rxTimer = s.link.rxTimer
      ∧ (abandonDrain b outcome s).link.inbound = s.link.inbound
      ∧ (abandonDrain b outcome s).link.sent = s.link.sent
      ∧ (abandonDrain b outcome s).link.resetTaken = s.link.resetTaken
      ∧ (abandonDrain b outcome s).events.mask = s.events.mask
      ∧ (abandonDrain b outcome s).events.mode = s.events.mode
      ∧ (abandonDrain b outcome s).events.attn = s.events.attn
      ∧ (abandonDrain b outcome s).counts.lane = s.counts.lane
      ∧ (abandonDrain b outcome s).counts.carry = s.counts.carry
      ∧ (abandonDrain b outcome s).counts.probeFibre = s.counts.probeFibre
      ∧ (abandonDrain b outcome s).counts.probeRadio = s.counts.probeRadio
      ∧ (abandonDrain b outcome s).counts.module = s.counts.module := by
  simp only [abandonDrain]
  split <;> simp

@[simp] theorem onEligibility_frame (b : Bearer) (s : State) :
    (onEligibility b s).pending = s.pending
      ∧ (onEligibility b s).clock = s.clock
      ∧ (onEligibility b s).ties = s.ties
      ∧ (onEligibility b s).resetHeld = s.resetHeld
      ∧ (onEligibility b s).home = s.home
      ∧ (onEligibility b s).classMap = s.classMap
      ∧ (onEligibility b s).lanes = s.lanes
      ∧ (onEligibility b s).carry = s.carry
      ∧ (onEligibility b s).fibre = s.fibre
      ∧ (onEligibility b s).sender.n = s.sender.n
      ∧ (onEligibility b s).sender.store = s.sender.store
      ∧ (onEligibility b s).receiver.e = s.receiver.e
      ∧ (onEligibility b s).receiver.discard = s.receiver.discard
      ∧ (onEligibility b s).receiver.marksFibre = s.receiver.marksFibre
      ∧ (onEligibility b s).receiver.marksRadio = s.receiver.marksRadio
      ∧ (onEligibility b s).fibreJudge.settings = s.fibreJudge.settings
      ∧ (onEligibility b s).fibreJudge.penalty = s.fibreJudge.penalty
      ∧ (onEligibility b s).fibreJudge.suppressed = s.fibreJudge.suppressed
      ∧ (onEligibility b s).fibreJudge.decay = s.fibreJudge.decay
      ∧ (onEligibility b s).fibreJudge.damping = s.fibreJudge.damping
      ∧ (onEligibility b s).fibreJudge.handed = s.fibreJudge.handed
      ∧ (onEligibility b s).fibreJudge.tag = s.fibreJudge.tag
      ∧ (onEligibility b s).radioJudge.settings = s.radioJudge.settings
      ∧ (onEligibility b s).radioJudge.penalty = s.radioJudge.penalty
      ∧ (onEligibility b s).radioJudge.suppressed = s.radioJudge.suppressed
      ∧ (onEligibility b s).radioJudge.decay = s.radioJudge.decay
      ∧ (onEligibility b s).radioJudge.damping = s.radioJudge.damping
      ∧ (onEligibility b s).radioJudge.tag = s.radioJudge.tag
      ∧ (onEligibility b s).selector.pin = s.selector.pin
      ∧ (onEligibility b s).radio.rounds = s.radio.rounds
      ∧ (onEligibility b s).radio.rest = s.radio.rest
      ∧ (onEligibility b s).radio.lastReading = s.radio.lastReading
      ∧ (onEligibility b s).radio.leaving = s.radio.leaving
      ∧ (onEligibility b s).radio.stallCount = s.radio.stallCount
      ∧ (onEligibility b s).radio.settings = s.radio.settings
      ∧ (onEligibility b s).link.rx = s.link.rx
      ∧ (onEligibility b s).link.rxTimer = s.link.rxTimer
      ∧ (onEligibility b s).link.inbound = s.link.inbound
      ∧ (onEligibility b s).link.sent = s.link.sent
      ∧ (onEligibility b s).link.resetTaken = s.link.resetTaken
      ∧ (onEligibility b s).events.mask = s.events.mask
      ∧ (onEligibility b s).events.mode = s.events.mode
      ∧ (onEligibility b s).events.attn = s.events.attn
      ∧ (onEligibility b s).counts.lane = s.counts.lane
      ∧ (onEligibility b s).counts.carry = s.counts.carry
      ∧ (onEligibility b s).counts.probeFibre = s.counts.probeFibre
      ∧ (onEligibility b s).counts.probeRadio = s.counts.probeRadio
      ∧ (onEligibility b s).counts.module = s.counts.module := by
  simp only [onEligibility]
  (repeat' split) <;> simp

@[simp] theorem rework_frame (b : Bearer) (s : State) :
    (rework b s).pending = s.pending
      ∧ (rework b s).clock = s.clock
      ∧ (rework b s).ties = s.ties
      ∧ (rework b s).resetHeld = s.resetHeld
      ∧ (rework b s).home = s.home
      ∧ (rework b s).classMap = s.classMap
      ∧ (rework b s).lanes = s.lanes
      ∧ (rework b s).carry = s.carry
      ∧ (rework b s).fibre = s.fibre
      ∧ (rework b s).sender.n = s.sender.n
      ∧ (rework b s).sender.store = s.sender.store
      ∧ (rework b s).receiver.e = s.receiver.e
      ∧ (rework b s).receiver.discard = s.receiver.discard
      ∧ (rework b s).receiver.marksFibre = s.receiver.marksFibre
      ∧ (rework b s).receiver.marksRadio = s.receiver.marksRadio
      ∧ (rework b s).fibreJudge.settings = s.fibreJudge.settings
      ∧ (rework b s).fibreJudge.penalty = s.fibreJudge.penalty
      ∧ (rework b s).fibreJudge.suppressed = s.fibreJudge.suppressed
      ∧ (rework b s).fibreJudge.decay = s.fibreJudge.decay
      ∧ (rework b s).fibreJudge.damping = s.fibreJudge.damping
      ∧ (rework b s).fibreJudge.tag = s.fibreJudge.tag
      ∧ (rework b s).radioJudge.settings = s.radioJudge.settings
      ∧ (rework b s).radioJudge.penalty = s.radioJudge.penalty
      ∧ (rework b s).radioJudge.suppressed = s.radioJudge.suppressed
      ∧ (rework b s).radioJudge.decay = s.radioJudge.decay
      ∧ (rework b s).radioJudge.damping = s.radioJudge.damping
      ∧ (rework b s).radioJudge.tag = s.radioJudge.tag
      ∧ (rework b s).selector.pin = s.selector.pin
      ∧ (rework b s).radio.rounds = s.radio.rounds
      ∧ (rework b s).radio.rest = s.radio.rest
      ∧ (rework b s).radio.lastReading = s.radio.lastReading
      ∧ (rework b s).radio.leaving = s.radio.leaving
      ∧ (rework b s).radio.stallCount = s.radio.stallCount
      ∧ (rework b s).radio.settings = s.radio.settings
      ∧ (rework b s).link.rx = s.link.rx
      ∧ (rework b s).link.rxTimer = s.link.rxTimer
      ∧ (rework b s).link.inbound = s.link.inbound
      ∧ (rework b s).link.sent = s.link.sent
      ∧ (rework b s).link.resetTaken = s.link.resetTaken
      ∧ (rework b s).events.mask = s.events.mask
      ∧ (rework b s).events.mode = s.events.mode
      ∧ (rework b s).events.attn = s.events.attn
      ∧ (rework b s).counts.lane = s.counts.lane
      ∧ (rework b s).counts.carry = s.counts.carry
      ∧ (rework b s).counts.probeFibre = s.counts.probeFibre
      ∧ (rework b s).counts.probeRadio = s.counts.probeRadio
      ∧ (rework b s).counts.module = s.counts.module := by
  simp only [rework]
  cases b <;> (repeat' split) <;> simp

@[simp] theorem drainEmptied_frame (s : State) :
    (drainEmptied s).pending = s.pending
      ∧ (drainEmptied s).clock = s.clock
      ∧ (drainEmptied s).ties = s.ties
      ∧ (drainEmptied s).resetHeld = s.resetHeld
      ∧ (drainEmptied s).home = s.home
      ∧ (drainEmptied s).classMap = s.classMap
      ∧ (drainEmptied s).lanes = s.lanes
      ∧ (drainEmptied s).carry = s.carry
      ∧ (drainEmptied s).fibre = s.fibre
      ∧ (drainEmptied s).sender.n = s.sender.n
      ∧ (drainEmptied s).sender.store = s.sender.store
      ∧ (drainEmptied s).receiver.e = s.receiver.e
      ∧ (drainEmptied s).receiver.discard = s.receiver.discard
      ∧ (drainEmptied s).receiver.marksFibre = s.receiver.marksFibre
      ∧ (drainEmptied s).receiver.marksRadio = s.receiver.marksRadio
      ∧ (drainEmptied s).fibreJudge.settings = s.fibreJudge.settings
      ∧ (drainEmptied s).fibreJudge.penalty = s.fibreJudge.penalty
      ∧ (drainEmptied s).fibreJudge.suppressed = s.fibreJudge.suppressed
      ∧ (drainEmptied s).fibreJudge.decay = s.fibreJudge.decay
      ∧ (drainEmptied s).fibreJudge.damping = s.fibreJudge.damping
      ∧ (drainEmptied s).fibreJudge.handed = s.fibreJudge.handed
      ∧ (drainEmptied s).fibreJudge.tag = s.fibreJudge.tag
      ∧ (drainEmptied s).radioJudge.settings = s.radioJudge.settings
      ∧ (drainEmptied s).radioJudge.penalty = s.radioJudge.penalty
      ∧ (drainEmptied s).radioJudge.suppressed = s.radioJudge.suppressed
      ∧ (drainEmptied s).radioJudge.decay = s.radioJudge.decay
      ∧ (drainEmptied s).radioJudge.damping = s.radioJudge.damping
      ∧ (drainEmptied s).radioJudge.tag = s.radioJudge.tag
      ∧ (drainEmptied s).selector.pin = s.selector.pin
      ∧ (drainEmptied s).radio.rounds = s.radio.rounds
      ∧ (drainEmptied s).radio.rest = s.radio.rest
      ∧ (drainEmptied s).radio.lastReading = s.radio.lastReading
      ∧ (drainEmptied s).radio.leaving = s.radio.leaving
      ∧ (drainEmptied s).radio.stallCount = s.radio.stallCount
      ∧ (drainEmptied s).radio.settings = s.radio.settings
      ∧ (drainEmptied s).link.rx = s.link.rx
      ∧ (drainEmptied s).link.rxTimer = s.link.rxTimer
      ∧ (drainEmptied s).link.inbound = s.link.inbound
      ∧ (drainEmptied s).link.sent = s.link.sent
      ∧ (drainEmptied s).link.resetTaken = s.link.resetTaken
      ∧ (drainEmptied s).events.mask = s.events.mask
      ∧ (drainEmptied s).events.mode = s.events.mode
      ∧ (drainEmptied s).events.attn = s.events.attn
      ∧ (drainEmptied s).counts.lane = s.counts.lane
      ∧ (drainEmptied s).counts.carry = s.counts.carry
      ∧ (drainEmptied s).counts.probeFibre = s.counts.probeFibre
      ∧ (drainEmptied s).counts.probeRadio = s.counts.probeRadio
      ∧ (drainEmptied s).counts.module = s.counts.module := by
  simp only [drainEmptied]
  split <;> simp

@[simp] theorem takeFromOutage_frame (s : State) :
    (takeFromOutage s).pending = s.pending
      ∧ (takeFromOutage s).clock = s.clock
      ∧ (takeFromOutage s).ties = s.ties
      ∧ (takeFromOutage s).resetHeld = s.resetHeld
      ∧ (takeFromOutage s).home = s.home
      ∧ (takeFromOutage s).classMap = s.classMap
      ∧ (takeFromOutage s).lanes = s.lanes
      ∧ (takeFromOutage s).carry = s.carry
      ∧ (takeFromOutage s).fibre = s.fibre
      ∧ (takeFromOutage s).sender.n = s.sender.n
      ∧ (takeFromOutage s).sender.store = s.sender.store
      ∧ (takeFromOutage s).receiver.e = s.receiver.e
      ∧ (takeFromOutage s).receiver.discard = s.receiver.discard
      ∧ (takeFromOutage s).receiver.marksFibre = s.receiver.marksFibre
      ∧ (takeFromOutage s).receiver.marksRadio = s.receiver.marksRadio
      ∧ (takeFromOutage s).fibreJudge.settings = s.fibreJudge.settings
      ∧ (takeFromOutage s).fibreJudge.penalty = s.fibreJudge.penalty
      ∧ (takeFromOutage s).fibreJudge.suppressed = s.fibreJudge.suppressed
      ∧ (takeFromOutage s).fibreJudge.decay = s.fibreJudge.decay
      ∧ (takeFromOutage s).fibreJudge.damping = s.fibreJudge.damping
      ∧ (takeFromOutage s).fibreJudge.handed = s.fibreJudge.handed
      ∧ (takeFromOutage s).fibreJudge.tag = s.fibreJudge.tag
      ∧ (takeFromOutage s).radioJudge.settings = s.radioJudge.settings
      ∧ (takeFromOutage s).radioJudge.penalty = s.radioJudge.penalty
      ∧ (takeFromOutage s).radioJudge.suppressed = s.radioJudge.suppressed
      ∧ (takeFromOutage s).radioJudge.decay = s.radioJudge.decay
      ∧ (takeFromOutage s).radioJudge.damping = s.radioJudge.damping
      ∧ (takeFromOutage s).radioJudge.tag = s.radioJudge.tag
      ∧ (takeFromOutage s).selector.pin = s.selector.pin
      ∧ (takeFromOutage s).radio.rounds = s.radio.rounds
      ∧ (takeFromOutage s).radio.rest = s.radio.rest
      ∧ (takeFromOutage s).radio.lastReading = s.radio.lastReading
      ∧ (takeFromOutage s).radio.leaving = s.radio.leaving
      ∧ (takeFromOutage s).radio.stallCount = s.radio.stallCount
      ∧ (takeFromOutage s).radio.settings = s.radio.settings
      ∧ (takeFromOutage s).link.rx = s.link.rx
      ∧ (takeFromOutage s).link.rxTimer = s.link.rxTimer
      ∧ (takeFromOutage s).link.inbound = s.link.inbound
      ∧ (takeFromOutage s).link.sent = s.link.sent
      ∧ (takeFromOutage s).link.resetTaken = s.link.resetTaken
      ∧ (takeFromOutage s).events.mask = s.events.mask
      ∧ (takeFromOutage s).events.mode = s.events.mode
      ∧ (takeFromOutage s).events.attn = s.events.attn
      ∧ (takeFromOutage s).counts.lane = s.counts.lane
      ∧ (takeFromOutage s).counts.carry = s.counts.carry
      ∧ (takeFromOutage s).counts.probeFibre = s.counts.probeFibre
      ∧ (takeFromOutage s).counts.probeRadio = s.counts.probeRadio
      ∧ (takeFromOutage s).counts.module = s.counts.module := by
  simp only [takeFromOutage]
  (repeat' split) <;> simp

end Sys2Proof.Machine
end

