-- ==== Sys2Proof/Laws/Judge.lean ====
section
/-! SUPPORT. Frame lemmas: what the judges' operations leave as they are. -/

namespace Sys2Proof.Machine

@[simp] theorem setSuppressed_frame (b : Bearer) (v : Bool) (s : State) :
    (setSuppressed b v s).pending = s.pending
      ∧ (setSuppressed b v s).clock = s.clock
      ∧ (setSuppressed b v s).ties = s.ties
      ∧ (setSuppressed b v s).resetHeld = s.resetHeld
      ∧ (setSuppressed b v s).home = s.home
      ∧ (setSuppressed b v s).classMap = s.classMap
      ∧ (setSuppressed b v s).lanes = s.lanes
      ∧ (setSuppressed b v s).pause = s.pause
      ∧ (setSuppressed b v s).session = s.session
      ∧ (setSuppressed b v s).sender = s.sender
      ∧ (setSuppressed b v s).receiver = s.receiver
      ∧ (setSuppressed b v s).carry = s.carry
      ∧ (setSuppressed b v s).fibre = s.fibre
      ∧ (setSuppressed b v s).selector = s.selector
      ∧ (setSuppressed b v s).radio = s.radio
      ∧ (setSuppressed b v s).fibreJudge.settings = s.fibreJudge.settings
      ∧ (setSuppressed b v s).fibreJudge.timer = s.fibreJudge.timer
      ∧ (setSuppressed b v s).fibreJudge.count = s.fibreJudge.count
      ∧ (setSuppressed b v s).fibreJudge.verdict = s.fibreJudge.verdict
      ∧ (setSuppressed b v s).fibreJudge.penalty = s.fibreJudge.penalty
      ∧ (setSuppressed b v s).fibreJudge.decay = s.fibreJudge.decay
      ∧ (setSuppressed b v s).fibreJudge.damping = s.fibreJudge.damping
      ∧ (setSuppressed b v s).fibreJudge.handed = s.fibreJudge.handed
      ∧ (setSuppressed b v s).fibreJudge.srtt = s.fibreJudge.srtt
      ∧ (setSuppressed b v s).fibreJudge.table = s.fibreJudge.table
      ∧ (setSuppressed b v s).fibreJudge.tag = s.fibreJudge.tag
      ∧ (setSuppressed b v s).radioJudge.settings = s.radioJudge.settings
      ∧ (setSuppressed b v s).radioJudge.timer = s.radioJudge.timer
      ∧ (setSuppressed b v s).radioJudge.count = s.radioJudge.count
      ∧ (setSuppressed b v s).radioJudge.verdict = s.radioJudge.verdict
      ∧ (setSuppressed b v s).radioJudge.penalty = s.radioJudge.penalty
      ∧ (setSuppressed b v s).radioJudge.decay = s.radioJudge.decay
      ∧ (setSuppressed b v s).radioJudge.damping = s.radioJudge.damping
      ∧ (setSuppressed b v s).radioJudge.handed = s.radioJudge.handed
      ∧ (setSuppressed b v s).radioJudge.srtt = s.radioJudge.srtt
      ∧ (setSuppressed b v s).radioJudge.table = s.radioJudge.table
      ∧ (setSuppressed b v s).radioJudge.tag = s.radioJudge.tag
      ∧ (setSuppressed b v s).link.rx = s.link.rx
      ∧ (setSuppressed b v s).link.rxTimer = s.link.rxTimer
      ∧ (setSuppressed b v s).link.inbound = s.link.inbound
      ∧ (setSuppressed b v s).link.sent = s.link.sent
      ∧ (setSuppressed b v s).link.resetTaken = s.link.resetTaken
      ∧ (setSuppressed b v s).events.mask = s.events.mask
      ∧ (setSuppressed b v s).events.mode = s.events.mode
      ∧ (setSuppressed b v s).events.attn = s.events.attn
      ∧ (setSuppressed b v s).counts.lane = s.counts.lane
      ∧ (setSuppressed b v s).counts.carry = s.counts.carry
      ∧ (setSuppressed b v s).counts.probeFibre = s.counts.probeFibre
      ∧ (setSuppressed b v s).counts.probeRadio = s.counts.probeRadio
      ∧ (setSuppressed b v s).counts.module = s.counts.module := by
  simp only [setSuppressed]
  split <;> simp

@[simp] theorem flapStep_frame (b : Bearer) (s : State) :
    (flapStep b s).pending = s.pending
      ∧ (flapStep b s).clock = s.clock
      ∧ (flapStep b s).ties = s.ties
      ∧ (flapStep b s).resetHeld = s.resetHeld
      ∧ (flapStep b s).home = s.home
      ∧ (flapStep b s).classMap = s.classMap
      ∧ (flapStep b s).lanes = s.lanes
      ∧ (flapStep b s).pause = s.pause
      ∧ (flapStep b s).session = s.session
      ∧ (flapStep b s).sender = s.sender
      ∧ (flapStep b s).receiver = s.receiver
      ∧ (flapStep b s).carry = s.carry
      ∧ (flapStep b s).fibre = s.fibre
      ∧ (flapStep b s).selector = s.selector
      ∧ (flapStep b s).radio = s.radio
      ∧ (flapStep b s).fibreJudge.settings = s.fibreJudge.settings
      ∧ (flapStep b s).fibreJudge.timer = s.fibreJudge.timer
      ∧ (flapStep b s).fibreJudge.count = s.fibreJudge.count
      ∧ (flapStep b s).fibreJudge.verdict = s.fibreJudge.verdict
      ∧ (flapStep b s).fibreJudge.decay = s.fibreJudge.decay
      ∧ (flapStep b s).fibreJudge.damping = s.fibreJudge.damping
      ∧ (flapStep b s).fibreJudge.handed = s.fibreJudge.handed
      ∧ (flapStep b s).fibreJudge.srtt = s.fibreJudge.srtt
      ∧ (flapStep b s).fibreJudge.table = s.fibreJudge.table
      ∧ (flapStep b s).fibreJudge.tag = s.fibreJudge.tag
      ∧ (flapStep b s).radioJudge.settings = s.radioJudge.settings
      ∧ (flapStep b s).radioJudge.timer = s.radioJudge.timer
      ∧ (flapStep b s).radioJudge.count = s.radioJudge.count
      ∧ (flapStep b s).radioJudge.verdict = s.radioJudge.verdict
      ∧ (flapStep b s).radioJudge.decay = s.radioJudge.decay
      ∧ (flapStep b s).radioJudge.damping = s.radioJudge.damping
      ∧ (flapStep b s).radioJudge.handed = s.radioJudge.handed
      ∧ (flapStep b s).radioJudge.srtt = s.radioJudge.srtt
      ∧ (flapStep b s).radioJudge.table = s.radioJudge.table
      ∧ (flapStep b s).radioJudge.tag = s.radioJudge.tag
      ∧ (flapStep b s).link.rx = s.link.rx
      ∧ (flapStep b s).link.rxTimer = s.link.rxTimer
      ∧ (flapStep b s).link.inbound = s.link.inbound
      ∧ (flapStep b s).link.sent = s.link.sent
      ∧ (flapStep b s).link.resetTaken = s.link.resetTaken
      ∧ (flapStep b s).events.mask = s.events.mask
      ∧ (flapStep b s).events.mode = s.events.mode
      ∧ (flapStep b s).events.attn = s.events.attn
      ∧ (flapStep b s).counts.lane = s.counts.lane
      ∧ (flapStep b s).counts.carry = s.counts.carry
      ∧ (flapStep b s).counts.probeFibre = s.counts.probeFibre
      ∧ (flapStep b s).counts.probeRadio = s.counts.probeRadio
      ∧ (flapStep b s).counts.module = s.counts.module := by
  simp only [flapStep]
  cases b <;> (repeat' split) <;> simp

@[simp] theorem decayBy_frame (b : Bearer) (s : State) :
    (decayBy b s).pending = s.pending
      ∧ (decayBy b s).clock = s.clock
      ∧ (decayBy b s).ties = s.ties
      ∧ (decayBy b s).resetHeld = s.resetHeld
      ∧ (decayBy b s).home = s.home
      ∧ (decayBy b s).classMap = s.classMap
      ∧ (decayBy b s).lanes = s.lanes
      ∧ (decayBy b s).carry = s.carry
      ∧ (decayBy b s).fibre = s.fibre
      ∧ (decayBy b s).sender.n = s.sender.n
      ∧ (decayBy b s).sender.store = s.sender.store
      ∧ (decayBy b s).receiver.e = s.receiver.e
      ∧ (decayBy b s).receiver.discard = s.receiver.discard
      ∧ (decayBy b s).receiver.marksFibre = s.receiver.marksFibre
      ∧ (decayBy b s).receiver.marksRadio = s.receiver.marksRadio
      ∧ (decayBy b s).fibreJudge.settings = s.fibreJudge.settings
      ∧ (decayBy b s).fibreJudge.decay = s.fibreJudge.decay
      ∧ (decayBy b s).fibreJudge.damping = s.fibreJudge.damping
      ∧ (decayBy b s).fibreJudge.tag = s.fibreJudge.tag
      ∧ (decayBy b s).radioJudge.settings = s.radioJudge.settings
      ∧ (decayBy b s).radioJudge.decay = s.radioJudge.decay
      ∧ (decayBy b s).radioJudge.damping = s.radioJudge.damping
      ∧ (decayBy b s).radioJudge.tag = s.radioJudge.tag
      ∧ (decayBy b s).selector.pin = s.selector.pin
      ∧ (decayBy b s).radio.rounds = s.radio.rounds
      ∧ (decayBy b s).radio.rest = s.radio.rest
      ∧ (decayBy b s).radio.lastReading = s.radio.lastReading
      ∧ (decayBy b s).radio.leaving = s.radio.leaving
      ∧ (decayBy b s).radio.stallCount = s.radio.stallCount
      ∧ (decayBy b s).radio.settings = s.radio.settings
      ∧ (decayBy b s).link.rx = s.link.rx
      ∧ (decayBy b s).link.rxTimer = s.link.rxTimer
      ∧ (decayBy b s).link.inbound = s.link.inbound
      ∧ (decayBy b s).link.sent = s.link.sent
      ∧ (decayBy b s).link.resetTaken = s.link.resetTaken
      ∧ (decayBy b s).events.mask = s.events.mask
      ∧ (decayBy b s).events.mode = s.events.mode
      ∧ (decayBy b s).events.attn = s.events.attn
      ∧ (decayBy b s).counts.lane = s.counts.lane
      ∧ (decayBy b s).counts.carry = s.counts.carry
      ∧ (decayBy b s).counts.probeFibre = s.counts.probeFibre
      ∧ (decayBy b s).counts.probeRadio = s.counts.probeRadio
      ∧ (decayBy b s).counts.module = s.counts.module := by
  simp only [decayBy]
  cases b <;> (repeat' split) <;> simp

@[simp] theorem fall_frame (b : Bearer) (s : State) :
    (fall b s).pending = s.pending
      ∧ (fall b s).clock = s.clock
      ∧ (fall b s).ties = s.ties
      ∧ (fall b s).resetHeld = s.resetHeld
      ∧ (fall b s).home = s.home
      ∧ (fall b s).classMap = s.classMap
      ∧ (fall b s).lanes = s.lanes
      ∧ (fall b s).carry = s.carry
      ∧ (fall b s).fibre = s.fibre
      ∧ (fall b s).sender.n = s.sender.n
      ∧ (fall b s).sender.store = s.sender.store
      ∧ (fall b s).receiver.e = s.receiver.e
      ∧ (fall b s).receiver.discard = s.receiver.discard
      ∧ (fall b s).receiver.marksFibre = s.receiver.marksFibre
      ∧ (fall b s).receiver.marksRadio = s.receiver.marksRadio
      ∧ (fall b s).fibreJudge.settings = s.fibreJudge.settings
      ∧ (fall b s).fibreJudge.decay = s.fibreJudge.decay
      ∧ (fall b s).fibreJudge.damping = s.fibreJudge.damping
      ∧ (fall b s).fibreJudge.tag = s.fibreJudge.tag
      ∧ (fall b s).radioJudge.settings = s.radioJudge.settings
      ∧ (fall b s).radioJudge.decay = s.radioJudge.decay
      ∧ (fall b s).radioJudge.damping = s.radioJudge.damping
      ∧ (fall b s).radioJudge.tag = s.radioJudge.tag
      ∧ (fall b s).selector.pin = s.selector.pin
      ∧ (fall b s).radio.rounds = s.radio.rounds
      ∧ (fall b s).radio.rest = s.radio.rest
      ∧ (fall b s).radio.lastReading = s.radio.lastReading
      ∧ (fall b s).radio.leaving = s.radio.leaving
      ∧ (fall b s).radio.stallCount = s.radio.stallCount
      ∧ (fall b s).radio.settings = s.radio.settings
      ∧ (fall b s).link.rx = s.link.rx
      ∧ (fall b s).link.rxTimer = s.link.rxTimer
      ∧ (fall b s).link.inbound = s.link.inbound
      ∧ (fall b s).link.sent = s.link.sent
      ∧ (fall b s).link.resetTaken = s.link.resetTaken
      ∧ (fall b s).events.mask = s.events.mask
      ∧ (fall b s).events.mode = s.events.mode
      ∧ (fall b s).events.attn = s.events.attn
      ∧ (fall b s).counts.lane = s.counts.lane
      ∧ (fall b s).counts.carry = s.counts.carry
      ∧ (fall b s).counts.probeFibre = s.counts.probeFibre
      ∧ (fall b s).counts.probeRadio = s.counts.probeRadio
      ∧ (fall b s).counts.module = s.counts.module := by cases b <;> simp [fall]

@[simp] theorem rise_frame (b : Bearer) (s : State) :
    (rise b s).pending = s.pending
      ∧ (rise b s).clock = s.clock
      ∧ (rise b s).ties = s.ties
      ∧ (rise b s).resetHeld = s.resetHeld
      ∧ (rise b s).home = s.home
      ∧ (rise b s).classMap = s.classMap
      ∧ (rise b s).lanes = s.lanes
      ∧ (rise b s).carry = s.carry
      ∧ (rise b s).fibre = s.fibre
      ∧ (rise b s).sender.n = s.sender.n
      ∧ (rise b s).sender.store = s.sender.store
      ∧ (rise b s).receiver.e = s.receiver.e
      ∧ (rise b s).receiver.discard = s.receiver.discard
      ∧ (rise b s).receiver.marksFibre = s.receiver.marksFibre
      ∧ (rise b s).receiver.marksRadio = s.receiver.marksRadio
      ∧ (rise b s).fibreJudge.settings = s.fibreJudge.settings
      ∧ (rise b s).fibreJudge.penalty = s.fibreJudge.penalty
      ∧ (rise b s).fibreJudge.suppressed = s.fibreJudge.suppressed
      ∧ (rise b s).fibreJudge.decay = s.fibreJudge.decay
      ∧ (rise b s).fibreJudge.damping = s.fibreJudge.damping
      ∧ (rise b s).fibreJudge.tag = s.fibreJudge.tag
      ∧ (rise b s).radioJudge.settings = s.radioJudge.settings
      ∧ (rise b s).radioJudge.penalty = s.radioJudge.penalty
      ∧ (rise b s).radioJudge.suppressed = s.radioJudge.suppressed
      ∧ (rise b s).radioJudge.decay = s.radioJudge.decay
      ∧ (rise b s).radioJudge.damping = s.radioJudge.damping
      ∧ (rise b s).radioJudge.tag = s.radioJudge.tag
      ∧ (rise b s).selector.pin = s.selector.pin
      ∧ (rise b s).radio.rounds = s.radio.rounds
      ∧ (rise b s).radio.rest = s.radio.rest
      ∧ (rise b s).radio.lastReading = s.radio.lastReading
      ∧ (rise b s).radio.leaving = s.radio.leaving
      ∧ (rise b s).radio.stallCount = s.radio.stallCount
      ∧ (rise b s).radio.settings = s.radio.settings
      ∧ (rise b s).link.rx = s.link.rx
      ∧ (rise b s).link.rxTimer = s.link.rxTimer
      ∧ (rise b s).link.inbound = s.link.inbound
      ∧ (rise b s).link.sent = s.link.sent
      ∧ (rise b s).link.resetTaken = s.link.resetTaken
      ∧ (rise b s).events.mask = s.events.mask
      ∧ (rise b s).events.mode = s.events.mode
      ∧ (rise b s).events.attn = s.events.attn
      ∧ (rise b s).counts.lane = s.counts.lane
      ∧ (rise b s).counts.carry = s.counts.carry
      ∧ (rise b s).counts.probeFibre = s.counts.probeFibre
      ∧ (rise b s).counts.probeRadio = s.counts.probeRadio
      ∧ (rise b s).counts.module = s.counts.module := by cases b <;> simp [rise]

@[simp] theorem hardFail_frame (b : Bearer) (s : State) :
    (hardFail b s).pending = s.pending
      ∧ (hardFail b s).clock = s.clock
      ∧ (hardFail b s).ties = s.ties
      ∧ (hardFail b s).resetHeld = s.resetHeld
      ∧ (hardFail b s).home = s.home
      ∧ (hardFail b s).classMap = s.classMap
      ∧ (hardFail b s).lanes = s.lanes
      ∧ (hardFail b s).carry = s.carry
      ∧ (hardFail b s).fibre = s.fibre
      ∧ (hardFail b s).sender.n = s.sender.n
      ∧ (hardFail b s).sender.store = s.sender.store
      ∧ (hardFail b s).receiver.e = s.receiver.e
      ∧ (hardFail b s).receiver.discard = s.receiver.discard
      ∧ (hardFail b s).receiver.marksFibre = s.receiver.marksFibre
      ∧ (hardFail b s).receiver.marksRadio = s.receiver.marksRadio
      ∧ (hardFail b s).selector.pin = s.selector.pin
      ∧ (hardFail b s).radio.rounds = s.radio.rounds
      ∧ (hardFail b s).radio.rest = s.radio.rest
      ∧ (hardFail b s).radio.lastReading = s.radio.lastReading
      ∧ (hardFail b s).radio.leaving = s.radio.leaving
      ∧ (hardFail b s).radio.stallCount = s.radio.stallCount
      ∧ (hardFail b s).radio.settings = s.radio.settings
      ∧ (hardFail b s).link.rx = s.link.rx
      ∧ (hardFail b s).link.rxTimer = s.link.rxTimer
      ∧ (hardFail b s).link.inbound = s.link.inbound
      ∧ (hardFail b s).link.sent = s.link.sent
      ∧ (hardFail b s).link.resetTaken = s.link.resetTaken
      ∧ (hardFail b s).events.mask = s.events.mask
      ∧ (hardFail b s).events.mode = s.events.mode
      ∧ (hardFail b s).events.attn = s.events.attn
      ∧ (hardFail b s).counts.lane = s.counts.lane
      ∧ (hardFail b s).counts.carry = s.counts.carry
      ∧ (hardFail b s).counts.probeFibre = s.counts.probeFibre
      ∧ (hardFail b s).counts.probeRadio = s.counts.probeRadio
      ∧ (hardFail b s).counts.module = s.counts.module := by
  simp only [hardFail]
  (repeat' split) <;> simp

@[simp] theorem verdictTest_frame (b : Bearer) (s : State) :
    (verdictTest b s).pending = s.pending
      ∧ (verdictTest b s).clock = s.clock
      ∧ (verdictTest b s).ties = s.ties
      ∧ (verdictTest b s).resetHeld = s.resetHeld
      ∧ (verdictTest b s).home = s.home
      ∧ (verdictTest b s).classMap = s.classMap
      ∧ (verdictTest b s).lanes = s.lanes
      ∧ (verdictTest b s).carry = s.carry
      ∧ (verdictTest b s).fibre = s.fibre
      ∧ (verdictTest b s).sender.n = s.sender.n
      ∧ (verdictTest b s).sender.store = s.sender.store
      ∧ (verdictTest b s).receiver.e = s.receiver.e
      ∧ (verdictTest b s).receiver.discard = s.receiver.discard
      ∧ (verdictTest b s).receiver.marksFibre = s.receiver.marksFibre
      ∧ (verdictTest b s).receiver.marksRadio = s.receiver.marksRadio
      ∧ (verdictTest b s).fibreJudge.settings = s.fibreJudge.settings
      ∧ (verdictTest b s).fibreJudge.decay = s.fibreJudge.decay
      ∧ (verdictTest b s).fibreJudge.damping = s.fibreJudge.damping
      ∧ (verdictTest b s).fibreJudge.tag = s.fibreJudge.tag
      ∧ (verdictTest b s).radioJudge.settings = s.radioJudge.settings
      ∧ (verdictTest b s).radioJudge.decay = s.radioJudge.decay
      ∧ (verdictTest b s).radioJudge.damping = s.radioJudge.damping
      ∧ (verdictTest b s).radioJudge.tag = s.radioJudge.tag
      ∧ (verdictTest b s).selector.pin = s.selector.pin
      ∧ (verdictTest b s).radio.rounds = s.radio.rounds
      ∧ (verdictTest b s).radio.rest = s.radio.rest
      ∧ (verdictTest b s).radio.lastReading = s.radio.lastReading
      ∧ (verdictTest b s).radio.leaving = s.radio.leaving
      ∧ (verdictTest b s).radio.stallCount = s.radio.stallCount
      ∧ (verdictTest b s).radio.settings = s.radio.settings
      ∧ (verdictTest b s).link.rx = s.link.rx
      ∧ (verdictTest b s).link.rxTimer = s.link.rxTimer
      ∧ (verdictTest b s).link.inbound = s.link.inbound
      ∧ (verdictTest b s).link.sent = s.link.sent
      ∧ (verdictTest b s).link.resetTaken = s.link.resetTaken
      ∧ (verdictTest b s).events.mask = s.events.mask
      ∧ (verdictTest b s).events.mode = s.events.mode
      ∧ (verdictTest b s).events.attn = s.events.attn
      ∧ (verdictTest b s).counts.lane = s.counts.lane
      ∧ (verdictTest b s).counts.carry = s.counts.carry
      ∧ (verdictTest b s).counts.probeFibre = s.counts.probeFibre
      ∧ (verdictTest b s).counts.probeRadio = s.counts.probeRadio
      ∧ (verdictTest b s).counts.module = s.counts.module := by
  simp only [verdictTest]
  cases b <;> (repeat' split) <;> simp

@[simp] theorem endInterval_frame (b : Bearer) (s : State) :
    (endInterval b s).pending = s.pending
      ∧ (endInterval b s).resetHeld = s.resetHeld
      ∧ (endInterval b s).home = s.home
      ∧ (endInterval b s).classMap = s.classMap
      ∧ (endInterval b s).lanes = s.lanes
      ∧ (endInterval b s).carry = s.carry
      ∧ (endInterval b s).fibre = s.fibre
      ∧ (endInterval b s).sender.n = s.sender.n
      ∧ (endInterval b s).sender.store = s.sender.store
      ∧ (endInterval b s).receiver.e = s.receiver.e
      ∧ (endInterval b s).receiver.discard = s.receiver.discard
      ∧ (endInterval b s).receiver.marksFibre = s.receiver.marksFibre
      ∧ (endInterval b s).receiver.marksRadio = s.receiver.marksRadio
      ∧ (endInterval b s).selector.pin = s.selector.pin
      ∧ (endInterval b s).radio.rounds = s.radio.rounds
      ∧ (endInterval b s).radio.rest = s.radio.rest
      ∧ (endInterval b s).radio.lastReading = s.radio.lastReading
      ∧ (endInterval b s).radio.leaving = s.radio.leaving
      ∧ (endInterval b s).radio.stallCount = s.radio.stallCount
      ∧ (endInterval b s).radio.settings = s.radio.settings
      ∧ (endInterval b s).link.rx = s.link.rx
      ∧ (endInterval b s).link.rxTimer = s.link.rxTimer
      ∧ (endInterval b s).link.inbound = s.link.inbound
      ∧ (endInterval b s).link.sent = s.link.sent
      ∧ (endInterval b s).link.resetTaken = s.link.resetTaken
      ∧ (endInterval b s).events.mask = s.events.mask
      ∧ (endInterval b s).events.mode = s.events.mode
      ∧ (endInterval b s).events.attn = s.events.attn
      ∧ (endInterval b s).counts.lane = s.counts.lane
      ∧ (endInterval b s).counts.carry = s.counts.carry
      ∧ (endInterval b s).counts.probeFibre = s.counts.probeFibre
      ∧ (endInterval b s).counts.probeRadio = s.counts.probeRadio
      ∧ (endInterval b s).counts.module = s.counts.module := by
  simp only [endInterval]
  (repeat' split) <;> simp

@[simp] theorem matchEcho_frame (b : Bearer) (f : CarryFrame) (s : State) :
    (matchEcho b f s).pending = s.pending
      ∧ (matchEcho b f s).clock = s.clock
      ∧ (matchEcho b f s).ties = s.ties
      ∧ (matchEcho b f s).resetHeld = s.resetHeld
      ∧ (matchEcho b f s).home = s.home
      ∧ (matchEcho b f s).classMap = s.classMap
      ∧ (matchEcho b f s).lanes = s.lanes
      ∧ (matchEcho b f s).pause = s.pause
      ∧ (matchEcho b f s).session = s.session
      ∧ (matchEcho b f s).sender = s.sender
      ∧ (matchEcho b f s).receiver = s.receiver
      ∧ (matchEcho b f s).carry = s.carry
      ∧ (matchEcho b f s).fibre = s.fibre
      ∧ (matchEcho b f s).selector = s.selector
      ∧ (matchEcho b f s).radio = s.radio
      ∧ (matchEcho b f s).link = s.link
      ∧ (matchEcho b f s).events = s.events
      ∧ (matchEcho b f s).fibreJudge.settings = s.fibreJudge.settings
      ∧ (matchEcho b f s).fibreJudge.timer = s.fibreJudge.timer
      ∧ (matchEcho b f s).fibreJudge.count = s.fibreJudge.count
      ∧ (matchEcho b f s).fibreJudge.verdict = s.fibreJudge.verdict
      ∧ (matchEcho b f s).fibreJudge.penalty = s.fibreJudge.penalty
      ∧ (matchEcho b f s).fibreJudge.suppressed = s.fibreJudge.suppressed
      ∧ (matchEcho b f s).fibreJudge.decay = s.fibreJudge.decay
      ∧ (matchEcho b f s).fibreJudge.damping = s.fibreJudge.damping
      ∧ (matchEcho b f s).fibreJudge.handed = s.fibreJudge.handed
      ∧ (matchEcho b f s).fibreJudge.tag = s.fibreJudge.tag
      ∧ (matchEcho b f s).radioJudge.settings = s.radioJudge.settings
      ∧ (matchEcho b f s).radioJudge.timer = s.radioJudge.timer
      ∧ (matchEcho b f s).radioJudge.count = s.radioJudge.count
      ∧ (matchEcho b f s).radioJudge.verdict = s.radioJudge.verdict
      ∧ (matchEcho b f s).radioJudge.penalty = s.radioJudge.penalty
      ∧ (matchEcho b f s).radioJudge.suppressed = s.radioJudge.suppressed
      ∧ (matchEcho b f s).radioJudge.decay = s.radioJudge.decay
      ∧ (matchEcho b f s).radioJudge.damping = s.radioJudge.damping
      ∧ (matchEcho b f s).radioJudge.handed = s.radioJudge.handed
      ∧ (matchEcho b f s).radioJudge.tag = s.radioJudge.tag
      ∧ (matchEcho b f s).counts.lane = s.counts.lane
      ∧ (matchEcho b f s).counts.carry = s.counts.carry
      ∧ (matchEcho b f s).counts.module = s.counts.module
      ∧ (matchEcho b f s).counts.link = s.counts.link := by
  simp only [matchEcho]
  cases b <;> (repeat' split) <;> simp

@[simp] theorem expireProbe_frame (b : Bearer) (tag : Byte) (s : State) :
    (expireProbe b tag s).pending = s.pending
      ∧ (expireProbe b tag s).ties = s.ties
      ∧ (expireProbe b tag s).resetHeld = s.resetHeld
      ∧ (expireProbe b tag s).home = s.home
      ∧ (expireProbe b tag s).classMap = s.classMap
      ∧ (expireProbe b tag s).lanes = s.lanes
      ∧ (expireProbe b tag s).pause = s.pause
      ∧ (expireProbe b tag s).session = s.session
      ∧ (expireProbe b tag s).sender = s.sender
      ∧ (expireProbe b tag s).receiver = s.receiver
      ∧ (expireProbe b tag s).carry = s.carry
      ∧ (expireProbe b tag s).fibre = s.fibre
      ∧ (expireProbe b tag s).selector = s.selector
      ∧ (expireProbe b tag s).radio = s.radio
      ∧ (expireProbe b tag s).link = s.link
      ∧ (expireProbe b tag s).events = s.events
      ∧ (expireProbe b tag s).fibreJudge.settings = s.fibreJudge.settings
      ∧ (expireProbe b tag s).fibreJudge.timer = s.fibreJudge.timer
      ∧ (expireProbe b tag s).fibreJudge.count = s.fibreJudge.count
      ∧ (expireProbe b tag s).fibreJudge.verdict = s.fibreJudge.verdict
      ∧ (expireProbe b tag s).fibreJudge.penalty = s.fibreJudge.penalty
      ∧ (expireProbe b tag s).fibreJudge.suppressed = s.fibreJudge.suppressed
      ∧ (expireProbe b tag s).fibreJudge.decay = s.fibreJudge.decay
      ∧ (expireProbe b tag s).fibreJudge.damping = s.fibreJudge.damping
      ∧ (expireProbe b tag s).fibreJudge.handed = s.fibreJudge.handed
      ∧ (expireProbe b tag s).fibreJudge.srtt = s.fibreJudge.srtt
      ∧ (expireProbe b tag s).fibreJudge.tag = s.fibreJudge.tag
      ∧ (expireProbe b tag s).radioJudge.settings = s.radioJudge.settings
      ∧ (expireProbe b tag s).radioJudge.timer = s.radioJudge.timer
      ∧ (expireProbe b tag s).radioJudge.count = s.radioJudge.count
      ∧ (expireProbe b tag s).radioJudge.verdict = s.radioJudge.verdict
      ∧ (expireProbe b tag s).radioJudge.penalty = s.radioJudge.penalty
      ∧ (expireProbe b tag s).radioJudge.suppressed = s.radioJudge.suppressed
      ∧ (expireProbe b tag s).radioJudge.decay = s.radioJudge.decay
      ∧ (expireProbe b tag s).radioJudge.damping = s.radioJudge.damping
      ∧ (expireProbe b tag s).radioJudge.handed = s.radioJudge.handed
      ∧ (expireProbe b tag s).radioJudge.srtt = s.radioJudge.srtt
      ∧ (expireProbe b tag s).radioJudge.tag = s.radioJudge.tag
      ∧ (expireProbe b tag s).counts.lane = s.counts.lane
      ∧ (expireProbe b tag s).counts.carry = s.counts.carry
      ∧ (expireProbe b tag s).counts.module = s.counts.module
      ∧ (expireProbe b tag s).counts.link = s.counts.link := by
  simp only [expireProbe]
  cases b <;> (repeat' split) <;> simp

@[simp] theorem tick_frame (b : Bearer) (s : State) :
    (tick b s).pending = s.pending
      ∧ (tick b s).ties = s.ties
      ∧ (tick b s).resetHeld = s.resetHeld
      ∧ (tick b s).home = s.home
      ∧ (tick b s).classMap = s.classMap
      ∧ (tick b s).lanes = s.lanes
      ∧ (tick b s).carry = s.carry
      ∧ (tick b s).fibre = s.fibre
      ∧ (tick b s).sender.n = s.sender.n
      ∧ (tick b s).sender.store = s.sender.store
      ∧ (tick b s).receiver.e = s.receiver.e
      ∧ (tick b s).receiver.discard = s.receiver.discard
      ∧ (tick b s).receiver.marksFibre = s.receiver.marksFibre
      ∧ (tick b s).receiver.marksRadio = s.receiver.marksRadio
      ∧ (tick b s).fibreJudge.settings = s.fibreJudge.settings
      ∧ (tick b s).fibreJudge.damping = s.fibreJudge.damping
      ∧ (tick b s).fibreJudge.tag = s.fibreJudge.tag
      ∧ (tick b s).radioJudge.settings = s.radioJudge.settings
      ∧ (tick b s).radioJudge.damping = s.radioJudge.damping
      ∧ (tick b s).radioJudge.tag = s.radioJudge.tag
      ∧ (tick b s).selector.pin = s.selector.pin
      ∧ (tick b s).radio.rounds = s.radio.rounds
      ∧ (tick b s).radio.rest = s.radio.rest
      ∧ (tick b s).radio.lastReading = s.radio.lastReading
      ∧ (tick b s).radio.leaving = s.radio.leaving
      ∧ (tick b s).radio.stallCount = s.radio.stallCount
      ∧ (tick b s).radio.settings = s.radio.settings
      ∧ (tick b s).link.rx = s.link.rx
      ∧ (tick b s).link.rxTimer = s.link.rxTimer
      ∧ (tick b s).link.inbound = s.link.inbound
      ∧ (tick b s).link.sent = s.link.sent
      ∧ (tick b s).link.resetTaken = s.link.resetTaken
      ∧ (tick b s).events.mask = s.events.mask
      ∧ (tick b s).events.mode = s.events.mode
      ∧ (tick b s).events.attn = s.events.attn
      ∧ (tick b s).counts.lane = s.counts.lane
      ∧ (tick b s).counts.carry = s.counts.carry
      ∧ (tick b s).counts.probeFibre = s.counts.probeFibre
      ∧ (tick b s).counts.probeRadio = s.counts.probeRadio
      ∧ (tick b s).counts.module = s.counts.module := by
  simp only [tick]
  cases b <;> (repeat' split) <;> simp

@[simp] theorem createEntry_frame (b : Bearer) (tag : Byte) (n : Nat) (s : State) :
    (createEntry b tag n s).pending = s.pending
      ∧ (createEntry b tag n s).clock = s.clock
      ∧ (createEntry b tag n s).ties = s.ties
      ∧ (createEntry b tag n s).resetHeld = s.resetHeld
      ∧ (createEntry b tag n s).home = s.home
      ∧ (createEntry b tag n s).classMap = s.classMap
      ∧ (createEntry b tag n s).lanes = s.lanes
      ∧ (createEntry b tag n s).pause = s.pause
      ∧ (createEntry b tag n s).session = s.session
      ∧ (createEntry b tag n s).sender = s.sender
      ∧ (createEntry b tag n s).receiver = s.receiver
      ∧ (createEntry b tag n s).carry = s.carry
      ∧ (createEntry b tag n s).fibre = s.fibre
      ∧ (createEntry b tag n s).selector = s.selector
      ∧ (createEntry b tag n s).radio = s.radio
      ∧ (createEntry b tag n s).link = s.link
      ∧ (createEntry b tag n s).events = s.events
      ∧ (createEntry b tag n s).fibreJudge.settings = s.fibreJudge.settings
      ∧ (createEntry b tag n s).fibreJudge.timer = s.fibreJudge.timer
      ∧ (createEntry b tag n s).fibreJudge.count = s.fibreJudge.count
      ∧ (createEntry b tag n s).fibreJudge.verdict = s.fibreJudge.verdict
      ∧ (createEntry b tag n s).fibreJudge.penalty = s.fibreJudge.penalty
      ∧ (createEntry b tag n s).fibreJudge.suppressed = s.fibreJudge.suppressed
      ∧ (createEntry b tag n s).fibreJudge.decay = s.fibreJudge.decay
      ∧ (createEntry b tag n s).fibreJudge.damping = s.fibreJudge.damping
      ∧ (createEntry b tag n s).fibreJudge.handed = s.fibreJudge.handed
      ∧ (createEntry b tag n s).fibreJudge.srtt = s.fibreJudge.srtt
      ∧ (createEntry b tag n s).fibreJudge.tag = s.fibreJudge.tag
      ∧ (createEntry b tag n s).radioJudge.settings = s.radioJudge.settings
      ∧ (createEntry b tag n s).radioJudge.timer = s.radioJudge.timer
      ∧ (createEntry b tag n s).radioJudge.count = s.radioJudge.count
      ∧ (createEntry b tag n s).radioJudge.verdict = s.radioJudge.verdict
      ∧ (createEntry b tag n s).radioJudge.penalty = s.radioJudge.penalty
      ∧ (createEntry b tag n s).radioJudge.suppressed = s.radioJudge.suppressed
      ∧ (createEntry b tag n s).radioJudge.decay = s.radioJudge.decay
      ∧ (createEntry b tag n s).radioJudge.damping = s.radioJudge.damping
      ∧ (createEntry b tag n s).radioJudge.handed = s.radioJudge.handed
      ∧ (createEntry b tag n s).radioJudge.srtt = s.radioJudge.srtt
      ∧ (createEntry b tag n s).radioJudge.tag = s.radioJudge.tag
      ∧ (createEntry b tag n s).counts.lane = s.counts.lane
      ∧ (createEntry b tag n s).counts.carry = s.counts.carry
      ∧ (createEntry b tag n s).counts.module = s.counts.module
      ∧ (createEntry b tag n s).counts.link = s.counts.link := by
  simp only [createEntry]
  cases b <;> (repeat' split) <;> simp

@[simp] theorem handReading_frame (level : Int) (s : State) :
    (handReading level s).pending = s.pending
      ∧ (handReading level s).clock = s.clock
      ∧ (handReading level s).ties = s.ties
      ∧ (handReading level s).resetHeld = s.resetHeld
      ∧ (handReading level s).home = s.home
      ∧ (handReading level s).classMap = s.classMap
      ∧ (handReading level s).lanes = s.lanes
      ∧ (handReading level s).pause = s.pause
      ∧ (handReading level s).session = s.session
      ∧ (handReading level s).sender = s.sender
      ∧ (handReading level s).receiver = s.receiver
      ∧ (handReading level s).carry = s.carry
      ∧ (handReading level s).fibre = s.fibre
      ∧ (handReading level s).fibreJudge = s.fibreJudge
      ∧ (handReading level s).selector = s.selector
      ∧ (handReading level s).radio = s.radio
      ∧ (handReading level s).link = s.link
      ∧ (handReading level s).events = s.events
      ∧ (handReading level s).counts = s.counts
      ∧ (handReading level s).radioJudge.settings = s.radioJudge.settings
      ∧ (handReading level s).radioJudge.timer = s.radioJudge.timer
      ∧ (handReading level s).radioJudge.count = s.radioJudge.count
      ∧ (handReading level s).radioJudge.verdict = s.radioJudge.verdict
      ∧ (handReading level s).radioJudge.penalty = s.radioJudge.penalty
      ∧ (handReading level s).radioJudge.suppressed = s.radioJudge.suppressed
      ∧ (handReading level s).radioJudge.decay = s.radioJudge.decay
      ∧ (handReading level s).radioJudge.damping = s.radioJudge.damping
      ∧ (handReading level s).radioJudge.handed = s.radioJudge.handed
      ∧ (handReading level s).radioJudge.srtt = s.radioJudge.srtt
      ∧ (handReading level s).radioJudge.table = s.radioJudge.table
      ∧ (handReading level s).radioJudge.tag = s.radioJudge.tag := by
  simp only [handReading]
  split <;> simp

end Sys2Proof.Machine
end

