-- ==== Sys2Proof/Laws/Lane.lean ====
section
/-! SUPPORT. Frame lemmas: what the lane unit's operations leave as they are. -/

namespace Sys2Proof.Machine

@[simp] theorem discardHeads_frame (l : Lane) (s : State) :
    (discardHeads l s).pending = s.pending
      ∧ (discardHeads l s).clock = s.clock
      ∧ (discardHeads l s).ties = s.ties
      ∧ (discardHeads l s).resetHeld = s.resetHeld
      ∧ (discardHeads l s).home = s.home
      ∧ (discardHeads l s).classMap = s.classMap
      ∧ (discardHeads l s).pause = s.pause
      ∧ (discardHeads l s).session = s.session
      ∧ (discardHeads l s).sender = s.sender
      ∧ (discardHeads l s).receiver = s.receiver
      ∧ (discardHeads l s).carry = s.carry
      ∧ (discardHeads l s).fibre = s.fibre
      ∧ (discardHeads l s).fibreJudge = s.fibreJudge
      ∧ (discardHeads l s).radioJudge = s.radioJudge
      ∧ (discardHeads l s).selector = s.selector
      ∧ (discardHeads l s).radio = s.radio
      ∧ (discardHeads l s).link.rx = s.link.rx
      ∧ (discardHeads l s).link.rxTimer = s.link.rxTimer
      ∧ (discardHeads l s).link.inbound = s.link.inbound
      ∧ (discardHeads l s).link.sent = s.link.sent
      ∧ (discardHeads l s).link.resetTaken = s.link.resetTaken
      ∧ (discardHeads l s).events.mask = s.events.mask
      ∧ (discardHeads l s).events.mode = s.events.mode
      ∧ (discardHeads l s).events.attn = s.events.attn
      ∧ (discardHeads l s).counts.carry = s.counts.carry
      ∧ (discardHeads l s).counts.probeFibre = s.counts.probeFibre
      ∧ (discardHeads l s).counts.probeRadio = s.counts.probeRadio
      ∧ (discardHeads l s).counts.module = s.counts.module := by simp [discardHeads]

@[simp] theorem handOver_frame (l : Lane) (payload : List Byte) (s : State) :
    (handOver l payload s).pending = s.pending
      ∧ (handOver l payload s).clock = s.clock
      ∧ (handOver l payload s).ties = s.ties
      ∧ (handOver l payload s).resetHeld = s.resetHeld
      ∧ (handOver l payload s).classMap = s.classMap
      ∧ (handOver l payload s).lanes = s.lanes
      ∧ (handOver l payload s).pause = s.pause
      ∧ (handOver l payload s).session = s.session
      ∧ (handOver l payload s).sender = s.sender
      ∧ (handOver l payload s).receiver = s.receiver
      ∧ (handOver l payload s).carry = s.carry
      ∧ (handOver l payload s).fibre = s.fibre
      ∧ (handOver l payload s).fibreJudge = s.fibreJudge
      ∧ (handOver l payload s).radioJudge = s.radioJudge
      ∧ (handOver l payload s).selector = s.selector
      ∧ (handOver l payload s).radio = s.radio
      ∧ (handOver l payload s).link = s.link
      ∧ (handOver l payload s).events = s.events
      ∧ (handOver l payload s).home.sent = s.home.sent
      ∧ (handOver l payload s).home.linkUp = s.home.linkUp
      ∧ (handOver l payload s).counts.probeFibre = s.counts.probeFibre
      ∧ (handOver l payload s).counts.probeRadio = s.counts.probeRadio
      ∧ (handOver l payload s).counts.module = s.counts.module
      ∧ (handOver l payload s).counts.link = s.counts.link := by
  simp only [handOver]
  split <;> simp

@[simp] theorem deliverHead_frame (s : State) :
    (deliverHead s).pending = s.pending
      ∧ (deliverHead s).clock = s.clock
      ∧ (deliverHead s).ties = s.ties
      ∧ (deliverHead s).resetHeld = s.resetHeld
      ∧ (deliverHead s).classMap = s.classMap
      ∧ (deliverHead s).lanes = s.lanes
      ∧ (deliverHead s).pause = s.pause
      ∧ (deliverHead s).session = s.session
      ∧ (deliverHead s).sender = s.sender
      ∧ (deliverHead s).receiver = s.receiver
      ∧ (deliverHead s).carry = s.carry
      ∧ (deliverHead s).fibre = s.fibre
      ∧ (deliverHead s).fibreJudge = s.fibreJudge
      ∧ (deliverHead s).radioJudge = s.radioJudge
      ∧ (deliverHead s).selector = s.selector
      ∧ (deliverHead s).radio = s.radio
      ∧ (deliverHead s).link = s.link
      ∧ (deliverHead s).events = s.events
      ∧ (deliverHead s).counts = s.counts
      ∧ (deliverHead s).home.linkUp = s.home.linkUp := by
  simp only [deliverHead]
  split <;> simp

@[simp] theorem setProfile_frame (l : Lane) (p : LaneProfile) (s : State) :
    (setProfile l p s).pending = s.pending
      ∧ (setProfile l p s).clock = s.clock
      ∧ (setProfile l p s).ties = s.ties
      ∧ (setProfile l p s).resetHeld = s.resetHeld
      ∧ (setProfile l p s).home = s.home
      ∧ (setProfile l p s).classMap = s.classMap
      ∧ (setProfile l p s).pause = s.pause
      ∧ (setProfile l p s).session = s.session
      ∧ (setProfile l p s).sender = s.sender
      ∧ (setProfile l p s).receiver = s.receiver
      ∧ (setProfile l p s).carry = s.carry
      ∧ (setProfile l p s).fibre = s.fibre
      ∧ (setProfile l p s).fibreJudge = s.fibreJudge
      ∧ (setProfile l p s).radioJudge = s.radioJudge
      ∧ (setProfile l p s).selector = s.selector
      ∧ (setProfile l p s).radio = s.radio
      ∧ (setProfile l p s).link.rx = s.link.rx
      ∧ (setProfile l p s).link.rxTimer = s.link.rxTimer
      ∧ (setProfile l p s).link.inbound = s.link.inbound
      ∧ (setProfile l p s).link.sent = s.link.sent
      ∧ (setProfile l p s).link.resetTaken = s.link.resetTaken
      ∧ (setProfile l p s).events.mask = s.events.mask
      ∧ (setProfile l p s).events.mode = s.events.mode
      ∧ (setProfile l p s).events.attn = s.events.attn
      ∧ (setProfile l p s).counts.carry = s.counts.carry
      ∧ (setProfile l p s).counts.probeFibre = s.counts.probeFibre
      ∧ (setProfile l p s).counts.probeRadio = s.counts.probeRadio
      ∧ (setProfile l p s).counts.module = s.counts.module := by simp [setProfile]

end Sys2Proof.Machine
end

