-- ==== Sys2Proof/Laws/Port.lean ====
section
/-! SUPPORT. Frame lemmas: what the ports' operations leave as they are. -/

namespace Sys2Proof.Machine

@[simp] theorem putOnPort_frame (b : Bearer) (l : Leaving) (s : State) :
    (putOnPort b l s).pending = s.pending
      ∧ (putOnPort b l s).clock = s.clock
      ∧ (putOnPort b l s).ties = s.ties
      ∧ (putOnPort b l s).resetHeld = s.resetHeld
      ∧ (putOnPort b l s).home = s.home
      ∧ (putOnPort b l s).classMap = s.classMap
      ∧ (putOnPort b l s).lanes = s.lanes
      ∧ (putOnPort b l s).pause = s.pause
      ∧ (putOnPort b l s).session = s.session
      ∧ (putOnPort b l s).sender = s.sender
      ∧ (putOnPort b l s).receiver = s.receiver
      ∧ (putOnPort b l s).carry = s.carry
      ∧ (putOnPort b l s).fibreJudge = s.fibreJudge
      ∧ (putOnPort b l s).radioJudge = s.radioJudge
      ∧ (putOnPort b l s).selector = s.selector
      ∧ (putOnPort b l s).link = s.link
      ∧ (putOnPort b l s).events = s.events
      ∧ (putOnPort b l s).counts = s.counts
      ∧ (putOnPort b l s).fibre.linkUp = s.fibre.linkUp
      ∧ (putOnPort b l s).radio.status = s.radio.status
      ∧ (putOnPort b l s).radio.modPwr = s.radio.modPwr
      ∧ (putOnPort b l s).radio.outstanding = s.radio.outstanding
      ∧ (putOnPort b l s).radio.rounds = s.radio.rounds
      ∧ (putOnPort b l s).radio.linger = s.radio.linger
      ∧ (putOnPort b l s).radio.rest = s.radio.rest
      ∧ (putOnPort b l s).radio.cause = s.radio.cause
      ∧ (putOnPort b l s).radio.releaseDue = s.radio.releaseDue
      ∧ (putOnPort b l s).radio.wantedHeld = s.radio.wantedHeld
      ∧ (putOnPort b l s).radio.lastReading = s.radio.lastReading
      ∧ (putOnPort b l s).radio.stallCount = s.radio.stallCount
      ∧ (putOnPort b l s).radio.settings = s.radio.settings := by
  simp only [putOnPort]
  split <;> simp

@[simp] theorem settleTally_frame (b : Bearer) (a : Seq) (s : State) :
    (settleTally b a s).pending = s.pending
      ∧ (settleTally b a s).clock = s.clock
      ∧ (settleTally b a s).ties = s.ties
      ∧ (settleTally b a s).resetHeld = s.resetHeld
      ∧ (settleTally b a s).home = s.home
      ∧ (settleTally b a s).classMap = s.classMap
      ∧ (settleTally b a s).lanes = s.lanes
      ∧ (settleTally b a s).pause = s.pause
      ∧ (settleTally b a s).session = s.session
      ∧ (settleTally b a s).receiver = s.receiver
      ∧ (settleTally b a s).carry = s.carry
      ∧ (settleTally b a s).fibre = s.fibre
      ∧ (settleTally b a s).fibreJudge = s.fibreJudge
      ∧ (settleTally b a s).radioJudge = s.radioJudge
      ∧ (settleTally b a s).selector = s.selector
      ∧ (settleTally b a s).radio = s.radio
      ∧ (settleTally b a s).link = s.link
      ∧ (settleTally b a s).events = s.events
      ∧ (settleTally b a s).counts = s.counts
      ∧ (settleTally b a s).sender.n = s.sender.n
      ∧ (settleTally b a s).sender.store = s.sender.store
      ∧ (settleTally b a s).sender.stream = s.sender.stream
      ∧ (settleTally b a s).sender.rewindPending = s.sender.rewindPending
      ∧ (settleTally b a s).sender.announcePending = s.sender.announcePending
      ∧ (settleTally b a s).sender.pass = s.sender.pass
      ∧ (settleTally b a s).sender.cursor = s.sender.cursor
      ∧ (settleTally b a s).sender.passStopping = s.sender.passStopping
      ∧ (settleTally b a s).sender.passOwed = s.sender.passOwed := by
  simp only [settleTally]
  split <;> simp

@[simp] theorem startFrame_frame (b : Bearer) (f : CarryFrame) (s : State) :
    (startFrame b f s).pending = s.pending
      ∧ (startFrame b f s).clock = s.clock
      ∧ (startFrame b f s).ties = s.ties
      ∧ (startFrame b f s).resetHeld = s.resetHeld
      ∧ (startFrame b f s).home = s.home
      ∧ (startFrame b f s).classMap = s.classMap
      ∧ (startFrame b f s).lanes = s.lanes
      ∧ (startFrame b f s).pause = s.pause
      ∧ (startFrame b f s).session = s.session
      ∧ (startFrame b f s).receiver = s.receiver
      ∧ (startFrame b f s).carry = s.carry
      ∧ (startFrame b f s).fibreJudge = s.fibreJudge
      ∧ (startFrame b f s).radioJudge = s.radioJudge
      ∧ (startFrame b f s).selector = s.selector
      ∧ (startFrame b f s).link = s.link
      ∧ (startFrame b f s).events = s.events
      ∧ (startFrame b f s).counts = s.counts
      ∧ (startFrame b f s).sender.n = s.sender.n
      ∧ (startFrame b f s).sender.store = s.sender.store
      ∧ (startFrame b f s).sender.stream = s.sender.stream
      ∧ (startFrame b f s).sender.rewindPending = s.sender.rewindPending
      ∧ (startFrame b f s).sender.announcePending = s.sender.announcePending
      ∧ (startFrame b f s).sender.pass = s.sender.pass
      ∧ (startFrame b f s).sender.cursor = s.sender.cursor
      ∧ (startFrame b f s).sender.passStopping = s.sender.passStopping
      ∧ (startFrame b f s).sender.passOwed = s.sender.passOwed
      ∧ (startFrame b f s).fibre.linkUp = s.fibre.linkUp
      ∧ (startFrame b f s).radio.status = s.radio.status
      ∧ (startFrame b f s).radio.modPwr = s.radio.modPwr
      ∧ (startFrame b f s).radio.outstanding = s.radio.outstanding
      ∧ (startFrame b f s).radio.rounds = s.radio.rounds
      ∧ (startFrame b f s).radio.linger = s.radio.linger
      ∧ (startFrame b f s).radio.rest = s.radio.rest
      ∧ (startFrame b f s).radio.cause = s.radio.cause
      ∧ (startFrame b f s).radio.releaseDue = s.radio.releaseDue
      ∧ (startFrame b f s).radio.wantedHeld = s.radio.wantedHeld
      ∧ (startFrame b f s).radio.lastReading = s.radio.lastReading
      ∧ (startFrame b f s).radio.stallCount = s.radio.stallCount
      ∧ (startFrame b f s).radio.settings = s.radio.settings := by simp [startFrame]

@[simp] theorem startWaiting_frame (b : Bearer) (w : WaitingFrame) (rest : List WaitingFrame) (s : State) :
    (startWaiting b w rest s).pending = s.pending
      ∧ (startWaiting b w rest s).clock = s.clock
      ∧ (startWaiting b w rest s).ties = s.ties
      ∧ (startWaiting b w rest s).resetHeld = s.resetHeld
      ∧ (startWaiting b w rest s).home = s.home
      ∧ (startWaiting b w rest s).classMap = s.classMap
      ∧ (startWaiting b w rest s).lanes = s.lanes
      ∧ (startWaiting b w rest s).pause = s.pause
      ∧ (startWaiting b w rest s).session = s.session
      ∧ (startWaiting b w rest s).receiver = s.receiver
      ∧ (startWaiting b w rest s).carry = s.carry
      ∧ (startWaiting b w rest s).selector = s.selector
      ∧ (startWaiting b w rest s).link = s.link
      ∧ (startWaiting b w rest s).events = s.events
      ∧ (startWaiting b w rest s).sender.n = s.sender.n
      ∧ (startWaiting b w rest s).sender.store = s.sender.store
      ∧ (startWaiting b w rest s).sender.stream = s.sender.stream
      ∧ (startWaiting b w rest s).sender.rewindPending = s.sender.rewindPending
      ∧ (startWaiting b w rest s).sender.announcePending = s.sender.announcePending
      ∧ (startWaiting b w rest s).sender.pass = s.sender.pass
      ∧ (startWaiting b w rest s).sender.cursor = s.sender.cursor
      ∧ (startWaiting b w rest s).sender.passStopping = s.sender.passStopping
      ∧ (startWaiting b w rest s).sender.passOwed = s.sender.passOwed
      ∧ (startWaiting b w rest s).fibre.linkUp = s.fibre.linkUp
      ∧ (startWaiting b w rest s).fibreJudge.settings = s.fibreJudge.settings
      ∧ (startWaiting b w rest s).fibreJudge.timer = s.fibreJudge.timer
      ∧ (startWaiting b w rest s).fibreJudge.count = s.fibreJudge.count
      ∧ (startWaiting b w rest s).fibreJudge.verdict = s.fibreJudge.verdict
      ∧ (startWaiting b w rest s).fibreJudge.penalty = s.fibreJudge.penalty
      ∧ (startWaiting b w rest s).fibreJudge.suppressed = s.fibreJudge.suppressed
      ∧ (startWaiting b w rest s).fibreJudge.decay = s.fibreJudge.decay
      ∧ (startWaiting b w rest s).fibreJudge.damping = s.fibreJudge.damping
      ∧ (startWaiting b w rest s).fibreJudge.handed = s.fibreJudge.handed
      ∧ (startWaiting b w rest s).fibreJudge.srtt = s.fibreJudge.srtt
      ∧ (startWaiting b w rest s).fibreJudge.tag = s.fibreJudge.tag
      ∧ (startWaiting b w rest s).radioJudge.settings = s.radioJudge.settings
      ∧ (startWaiting b w rest s).radioJudge.timer = s.radioJudge.timer
      ∧ (startWaiting b w rest s).radioJudge.count = s.radioJudge.count
      ∧ (startWaiting b w rest s).radioJudge.verdict = s.radioJudge.verdict
      ∧ (startWaiting b w rest s).radioJudge.penalty = s.radioJudge.penalty
      ∧ (startWaiting b w rest s).radioJudge.suppressed = s.radioJudge.suppressed
      ∧ (startWaiting b w rest s).radioJudge.decay = s.radioJudge.decay
      ∧ (startWaiting b w rest s).radioJudge.damping = s.radioJudge.damping
      ∧ (startWaiting b w rest s).radioJudge.handed = s.radioJudge.handed
      ∧ (startWaiting b w rest s).radioJudge.srtt = s.radioJudge.srtt
      ∧ (startWaiting b w rest s).radioJudge.tag = s.radioJudge.tag
      ∧ (startWaiting b w rest s).radio.status = s.radio.status
      ∧ (startWaiting b w rest s).radio.modPwr = s.radio.modPwr
      ∧ (startWaiting b w rest s).radio.outstanding = s.radio.outstanding
      ∧ (startWaiting b w rest s).radio.rounds = s.radio.rounds
      ∧ (startWaiting b w rest s).radio.linger = s.radio.linger
      ∧ (startWaiting b w rest s).radio.rest = s.radio.rest
      ∧ (startWaiting b w rest s).radio.cause = s.radio.cause
      ∧ (startWaiting b w rest s).radio.releaseDue = s.radio.releaseDue
      ∧ (startWaiting b w rest s).radio.wantedHeld = s.radio.wantedHeld
      ∧ (startWaiting b w rest s).radio.lastReading = s.radio.lastReading
      ∧ (startWaiting b w rest s).radio.stallCount = s.radio.stallCount
      ∧ (startWaiting b w rest s).radio.settings = s.radio.settings
      ∧ (startWaiting b w rest s).counts.lane = s.counts.lane
      ∧ (startWaiting b w rest s).counts.carry = s.counts.carry
      ∧ (startWaiting b w rest s).counts.module = s.counts.module
      ∧ (startWaiting b w rest s).counts.link = s.counts.link := by
  simp only [startWaiting]
  split <;> simp

@[simp] theorem startMark_frame (b : Bearer) (k : MarkKind) (s : State) :
    (startMark b k s).pending = s.pending
      ∧ (startMark b k s).clock = s.clock
      ∧ (startMark b k s).ties = s.ties
      ∧ (startMark b k s).resetHeld = s.resetHeld
      ∧ (startMark b k s).home = s.home
      ∧ (startMark b k s).classMap = s.classMap
      ∧ (startMark b k s).lanes = s.lanes
      ∧ (startMark b k s).pause = s.pause
      ∧ (startMark b k s).session = s.session
      ∧ (startMark b k s).receiver = s.receiver
      ∧ (startMark b k s).carry = s.carry
      ∧ (startMark b k s).fibreJudge = s.fibreJudge
      ∧ (startMark b k s).radioJudge = s.radioJudge
      ∧ (startMark b k s).selector = s.selector
      ∧ (startMark b k s).link = s.link
      ∧ (startMark b k s).events = s.events
      ∧ (startMark b k s).counts = s.counts
      ∧ (startMark b k s).sender.n = s.sender.n
      ∧ (startMark b k s).sender.store = s.sender.store
      ∧ (startMark b k s).sender.stream = s.sender.stream
      ∧ (startMark b k s).sender.rewindPending = s.sender.rewindPending
      ∧ (startMark b k s).sender.announcePending = s.sender.announcePending
      ∧ (startMark b k s).sender.pass = s.sender.pass
      ∧ (startMark b k s).sender.cursor = s.sender.cursor
      ∧ (startMark b k s).sender.passStopping = s.sender.passStopping
      ∧ (startMark b k s).sender.passOwed = s.sender.passOwed
      ∧ (startMark b k s).fibre.linkUp = s.fibre.linkUp
      ∧ (startMark b k s).radio.status = s.radio.status
      ∧ (startMark b k s).radio.modPwr = s.radio.modPwr
      ∧ (startMark b k s).radio.outstanding = s.radio.outstanding
      ∧ (startMark b k s).radio.rounds = s.radio.rounds
      ∧ (startMark b k s).radio.linger = s.radio.linger
      ∧ (startMark b k s).radio.rest = s.radio.rest
      ∧ (startMark b k s).radio.cause = s.radio.cause
      ∧ (startMark b k s).radio.releaseDue = s.radio.releaseDue
      ∧ (startMark b k s).radio.wantedHeld = s.radio.wantedHeld
      ∧ (startMark b k s).radio.lastReading = s.radio.lastReading
      ∧ (startMark b k s).radio.stallCount = s.radio.stallCount
      ∧ (startMark b k s).radio.settings = s.radio.settings := by simp [startMark]

@[simp] theorem startStream_frame (b : Bearer) (k : MarkKind) (s : State) :
    (startStream b k s).pending = s.pending
      ∧ (startStream b k s).clock = s.clock
      ∧ (startStream b k s).ties = s.ties
      ∧ (startStream b k s).resetHeld = s.resetHeld
      ∧ (startStream b k s).home = s.home
      ∧ (startStream b k s).classMap = s.classMap
      ∧ (startStream b k s).lanes = s.lanes
      ∧ (startStream b k s).session = s.session
      ∧ (startStream b k s).receiver = s.receiver
      ∧ (startStream b k s).carry = s.carry
      ∧ (startStream b k s).fibreJudge = s.fibreJudge
      ∧ (startStream b k s).radioJudge = s.radioJudge
      ∧ (startStream b k s).selector = s.selector
      ∧ (startStream b k s).link = s.link
      ∧ (startStream b k s).events = s.events
      ∧ (startStream b k s).counts = s.counts
      ∧ (startStream b k s).pause.session = s.pause.session
      ∧ (startStream b k s).pause.selector = s.pause.selector
      ∧ (startStream b k s).pause.pass = s.pause.pass
      ∧ (startStream b k s).sender.n = s.sender.n
      ∧ (startStream b k s).sender.store = s.sender.store
      ∧ (startStream b k s).sender.cursor = s.sender.cursor
      ∧ (startStream b k s).sender.passStopping = s.sender.passStopping
      ∧ (startStream b k s).sender.passOwed = s.sender.passOwed
      ∧ (startStream b k s).fibre.linkUp = s.fibre.linkUp
      ∧ (startStream b k s).radio.status = s.radio.status
      ∧ (startStream b k s).radio.modPwr = s.radio.modPwr
      ∧ (startStream b k s).radio.outstanding = s.radio.outstanding
      ∧ (startStream b k s).radio.rounds = s.radio.rounds
      ∧ (startStream b k s).radio.linger = s.radio.linger
      ∧ (startStream b k s).radio.rest = s.radio.rest
      ∧ (startStream b k s).radio.cause = s.radio.cause
      ∧ (startStream b k s).radio.releaseDue = s.radio.releaseDue
      ∧ (startStream b k s).radio.wantedHeld = s.radio.wantedHeld
      ∧ (startStream b k s).radio.lastReading = s.radio.lastReading
      ∧ (startStream b k s).radio.stallCount = s.radio.stallCount
      ∧ (startStream b k s).radio.settings = s.radio.settings := by simp [startStream]

@[simp] theorem passCopy_frame (b : Bearer) (c : Seq) (s : State) :
    (passCopy b c s).pending = s.pending
      ∧ (passCopy b c s).clock = s.clock
      ∧ (passCopy b c s).ties = s.ties
      ∧ (passCopy b c s).resetHeld = s.resetHeld
      ∧ (passCopy b c s).home = s.home
      ∧ (passCopy b c s).classMap = s.classMap
      ∧ (passCopy b c s).lanes = s.lanes
      ∧ (passCopy b c s).pause = s.pause
      ∧ (passCopy b c s).session = s.session
      ∧ (passCopy b c s).receiver = s.receiver
      ∧ (passCopy b c s).carry = s.carry
      ∧ (passCopy b c s).fibreJudge = s.fibreJudge
      ∧ (passCopy b c s).radioJudge = s.radioJudge
      ∧ (passCopy b c s).selector = s.selector
      ∧ (passCopy b c s).sender.n = s.sender.n
      ∧ (passCopy b c s).sender.stream = s.sender.stream
      ∧ (passCopy b c s).sender.rewindPending = s.sender.rewindPending
      ∧ (passCopy b c s).sender.announcePending = s.sender.announcePending
      ∧ (passCopy b c s).sender.pass = s.sender.pass
      ∧ (passCopy b c s).sender.passStopping = s.sender.passStopping
      ∧ (passCopy b c s).sender.passOwed = s.sender.passOwed
      ∧ (passCopy b c s).fibre.linkUp = s.fibre.linkUp
      ∧ (passCopy b c s).radio.status = s.radio.status
      ∧ (passCopy b c s).radio.modPwr = s.radio.modPwr
      ∧ (passCopy b c s).radio.outstanding = s.radio.outstanding
      ∧ (passCopy b c s).radio.rounds = s.radio.rounds
      ∧ (passCopy b c s).radio.linger = s.radio.linger
      ∧ (passCopy b c s).radio.rest = s.radio.rest
      ∧ (passCopy b c s).radio.cause = s.radio.cause
      ∧ (passCopy b c s).radio.releaseDue = s.radio.releaseDue
      ∧ (passCopy b c s).radio.wantedHeld = s.radio.wantedHeld
      ∧ (passCopy b c s).radio.lastReading = s.radio.lastReading
      ∧ (passCopy b c s).radio.stallCount = s.radio.stallCount
      ∧ (passCopy b c s).radio.settings = s.radio.settings
      ∧ (passCopy b c s).link.rx = s.link.rx
      ∧ (passCopy b c s).link.rxTimer = s.link.rxTimer
      ∧ (passCopy b c s).link.inbound = s.link.inbound
      ∧ (passCopy b c s).link.sent = s.link.sent
      ∧ (passCopy b c s).link.resetTaken = s.link.resetTaken
      ∧ (passCopy b c s).events.mask = s.events.mask
      ∧ (passCopy b c s).events.mode = s.events.mode
      ∧ (passCopy b c s).events.attn = s.events.attn
      ∧ (passCopy b c s).counts.lane = s.counts.lane
      ∧ (passCopy b c s).counts.probeFibre = s.counts.probeFibre
      ∧ (passCopy b c s).counts.probeRadio = s.counts.probeRadio
      ∧ (passCopy b c s).counts.module = s.counts.module := by
  simp only [passCopy]
  (repeat' split) <;> simp

@[simp] theorem endPassAt_frame (b : Bearer) (s : State) :
    (endPassAt b s).pending = s.pending
      ∧ (endPassAt b s).clock = s.clock
      ∧ (endPassAt b s).ties = s.ties
      ∧ (endPassAt b s).resetHeld = s.resetHeld
      ∧ (endPassAt b s).home = s.home
      ∧ (endPassAt b s).classMap = s.classMap
      ∧ (endPassAt b s).lanes = s.lanes
      ∧ (endPassAt b s).session = s.session
      ∧ (endPassAt b s).receiver = s.receiver
      ∧ (endPassAt b s).carry = s.carry
      ∧ (endPassAt b s).fibre = s.fibre
      ∧ (endPassAt b s).fibreJudge = s.fibreJudge
      ∧ (endPassAt b s).radioJudge = s.radioJudge
      ∧ (endPassAt b s).selector = s.selector
      ∧ (endPassAt b s).radio = s.radio
      ∧ (endPassAt b s).link = s.link
      ∧ (endPassAt b s).events = s.events
      ∧ (endPassAt b s).counts = s.counts
      ∧ (endPassAt b s).pause.session = s.pause.session
      ∧ (endPassAt b s).pause.selector = s.pause.selector
      ∧ (endPassAt b s).pause.stream = s.pause.stream
      ∧ (endPassAt b s).sender.n = s.sender.n
      ∧ (endPassAt b s).sender.store = s.sender.store
      ∧ (endPassAt b s).sender.tallyOwed = s.sender.tallyOwed
      ∧ (endPassAt b s).sender.tallyTimer = s.sender.tallyTimer
      ∧ (endPassAt b s).sender.waitingFibre = s.sender.waitingFibre
      ∧ (endPassAt b s).sender.waitingRadio = s.sender.waitingRadio
      ∧ (endPassAt b s).sender.stream = s.sender.stream
      ∧ (endPassAt b s).sender.rewindPending = s.sender.rewindPending
      ∧ (endPassAt b s).sender.passOwed = s.sender.passOwed := by
  simp only [endPassAt]
  split <;> simp

@[simp] theorem countDeparture_frame (b : Bearer) (f : CarryFrame) (s : State) :
    (countDeparture b f s).pending = s.pending
      ∧ (countDeparture b f s).clock = s.clock
      ∧ (countDeparture b f s).ties = s.ties
      ∧ (countDeparture b f s).resetHeld = s.resetHeld
      ∧ (countDeparture b f s).home = s.home
      ∧ (countDeparture b f s).classMap = s.classMap
      ∧ (countDeparture b f s).lanes = s.lanes
      ∧ (countDeparture b f s).pause = s.pause
      ∧ (countDeparture b f s).session = s.session
      ∧ (countDeparture b f s).sender = s.sender
      ∧ (countDeparture b f s).receiver = s.receiver
      ∧ (countDeparture b f s).carry = s.carry
      ∧ (countDeparture b f s).fibre = s.fibre
      ∧ (countDeparture b f s).fibreJudge = s.fibreJudge
      ∧ (countDeparture b f s).radioJudge = s.radioJudge
      ∧ (countDeparture b f s).selector = s.selector
      ∧ (countDeparture b f s).radio = s.radio
      ∧ (countDeparture b f s).link = s.link
      ∧ (countDeparture b f s).events = s.events
      ∧ (countDeparture b f s).counts.lane = s.counts.lane
      ∧ (countDeparture b f s).counts.module = s.counts.module
      ∧ (countDeparture b f s).counts.link = s.counts.link := by
  simp only [countDeparture]
  (repeat' split) <;> simp

@[simp] theorem startResending_frame (s : State) :
    (startResending s).pending = s.pending
      ∧ (startResending s).clock = s.clock
      ∧ (startResending s).ties = s.ties
      ∧ (startResending s).resetHeld = s.resetHeld
      ∧ (startResending s).home = s.home
      ∧ (startResending s).classMap = s.classMap
      ∧ (startResending s).lanes = s.lanes
      ∧ (startResending s).session = s.session
      ∧ (startResending s).receiver = s.receiver
      ∧ (startResending s).carry = s.carry
      ∧ (startResending s).fibre = s.fibre
      ∧ (startResending s).fibreJudge = s.fibreJudge
      ∧ (startResending s).radioJudge = s.radioJudge
      ∧ (startResending s).selector = s.selector
      ∧ (startResending s).radio = s.radio
      ∧ (startResending s).link = s.link
      ∧ (startResending s).events = s.events
      ∧ (startResending s).counts = s.counts
      ∧ (startResending s).pause.session = s.pause.session
      ∧ (startResending s).pause.selector = s.pause.selector
      ∧ (startResending s).pause.stream = s.pause.stream
      ∧ (startResending s).sender.n = s.sender.n
      ∧ (startResending s).sender.store = s.sender.store
      ∧ (startResending s).sender.tallyOwed = s.sender.tallyOwed
      ∧ (startResending s).sender.tallyTimer = s.sender.tallyTimer
      ∧ (startResending s).sender.waitingFibre = s.sender.waitingFibre
      ∧ (startResending s).sender.waitingRadio = s.sender.waitingRadio
      ∧ (startResending s).sender.stream = s.sender.stream
      ∧ (startResending s).sender.rewindPending = s.sender.rewindPending
      ∧ (startResending s).sender.passOwed = s.sender.passOwed := by
  simp only [startResending]
  split <;> simp

@[simp] theorem endStream_frame (k : MarkKind) (s : State) :
    (endStream k s).pending = s.pending
      ∧ (endStream k s).clock = s.clock
      ∧ (endStream k s).ties = s.ties
      ∧ (endStream k s).resetHeld = s.resetHeld
      ∧ (endStream k s).home = s.home
      ∧ (endStream k s).classMap = s.classMap
      ∧ (endStream k s).lanes = s.lanes
      ∧ (endStream k s).session = s.session
      ∧ (endStream k s).receiver = s.receiver
      ∧ (endStream k s).carry = s.carry
      ∧ (endStream k s).fibre = s.fibre
      ∧ (endStream k s).fibreJudge = s.fibreJudge
      ∧ (endStream k s).radioJudge = s.radioJudge
      ∧ (endStream k s).selector = s.selector
      ∧ (endStream k s).radio = s.radio
      ∧ (endStream k s).link = s.link
      ∧ (endStream k s).events = s.events
      ∧ (endStream k s).pause.session = s.pause.session
      ∧ (endStream k s).pause.selector = s.pause.selector
      ∧ (endStream k s).sender.n = s.sender.n
      ∧ (endStream k s).sender.store = s.sender.store
      ∧ (endStream k s).sender.tallyOwed = s.sender.tallyOwed
      ∧ (endStream k s).sender.tallyTimer = s.sender.tallyTimer
      ∧ (endStream k s).sender.waitingFibre = s.sender.waitingFibre
      ∧ (endStream k s).sender.waitingRadio = s.sender.waitingRadio
      ∧ (endStream k s).sender.rewindPending = s.sender.rewindPending
      ∧ (endStream k s).sender.passOwed = s.sender.passOwed
      ∧ (endStream k s).counts.lane = s.counts.lane
      ∧ (endStream k s).counts.probeFibre = s.counts.probeFibre
      ∧ (endStream k s).counts.probeRadio = s.counts.probeRadio
      ∧ (endStream k s).counts.module = s.counts.module
      ∧ (endStream k s).counts.link = s.counts.link := by
  simp only [endStream]
  (repeat' split) <;> simp

@[simp] theorem streamBoundary_frame (b : Bearer) (s : State) :
    (streamBoundary b s).pending = s.pending
      ∧ (streamBoundary b s).clock = s.clock
      ∧ (streamBoundary b s).ties = s.ties
      ∧ (streamBoundary b s).resetHeld = s.resetHeld
      ∧ (streamBoundary b s).home = s.home
      ∧ (streamBoundary b s).classMap = s.classMap
      ∧ (streamBoundary b s).lanes = s.lanes
      ∧ (streamBoundary b s).session = s.session
      ∧ (streamBoundary b s).receiver = s.receiver
      ∧ (streamBoundary b s).carry = s.carry
      ∧ (streamBoundary b s).fibre = s.fibre
      ∧ (streamBoundary b s).fibreJudge = s.fibreJudge
      ∧ (streamBoundary b s).radioJudge = s.radioJudge
      ∧ (streamBoundary b s).selector = s.selector
      ∧ (streamBoundary b s).radio = s.radio
      ∧ (streamBoundary b s).link = s.link
      ∧ (streamBoundary b s).events = s.events
      ∧ (streamBoundary b s).pause.session = s.pause.session
      ∧ (streamBoundary b s).pause.selector = s.pause.selector
      ∧ (streamBoundary b s).sender.n = s.sender.n
      ∧ (streamBoundary b s).sender.store = s.sender.store
      ∧ (streamBoundary b s).sender.tallyOwed = s.sender.tallyOwed
      ∧ (streamBoundary b s).sender.tallyTimer = s.sender.tallyTimer
      ∧ (streamBoundary b s).sender.waitingFibre = s.sender.waitingFibre
      ∧ (streamBoundary b s).sender.waitingRadio = s.sender.waitingRadio
      ∧ (streamBoundary b s).sender.rewindPending = s.sender.rewindPending
      ∧ (streamBoundary b s).sender.passOwed = s.sender.passOwed
      ∧ (streamBoundary b s).counts.lane = s.counts.lane
      ∧ (streamBoundary b s).counts.probeFibre = s.counts.probeFibre
      ∧ (streamBoundary b s).counts.probeRadio = s.counts.probeRadio
      ∧ (streamBoundary b s).counts.module = s.counts.module
      ∧ (streamBoundary b s).counts.link = s.counts.link := by
  simp only [streamBoundary]
  (repeat' split) <;> simp

@[simp] theorem passBoundary_frame (b : Bearer) (s : State) :
    (passBoundary b s).pending = s.pending
      ∧ (passBoundary b s).clock = s.clock
      ∧ (passBoundary b s).ties = s.ties
      ∧ (passBoundary b s).resetHeld = s.resetHeld
      ∧ (passBoundary b s).home = s.home
      ∧ (passBoundary b s).classMap = s.classMap
      ∧ (passBoundary b s).lanes = s.lanes
      ∧ (passBoundary b s).session = s.session
      ∧ (passBoundary b s).receiver = s.receiver
      ∧ (passBoundary b s).carry = s.carry
      ∧ (passBoundary b s).fibre = s.fibre
      ∧ (passBoundary b s).fibreJudge = s.fibreJudge
      ∧ (passBoundary b s).radioJudge = s.radioJudge
      ∧ (passBoundary b s).selector = s.selector
      ∧ (passBoundary b s).radio = s.radio
      ∧ (passBoundary b s).link = s.link
      ∧ (passBoundary b s).events = s.events
      ∧ (passBoundary b s).counts = s.counts
      ∧ (passBoundary b s).pause.session = s.pause.session
      ∧ (passBoundary b s).pause.selector = s.pause.selector
      ∧ (passBoundary b s).pause.stream = s.pause.stream
      ∧ (passBoundary b s).sender.n = s.sender.n
      ∧ (passBoundary b s).sender.store = s.sender.store
      ∧ (passBoundary b s).sender.tallyOwed = s.sender.tallyOwed
      ∧ (passBoundary b s).sender.tallyTimer = s.sender.tallyTimer
      ∧ (passBoundary b s).sender.waitingFibre = s.sender.waitingFibre
      ∧ (passBoundary b s).sender.waitingRadio = s.sender.waitingRadio
      ∧ (passBoundary b s).sender.stream = s.sender.stream
      ∧ (passBoundary b s).sender.rewindPending = s.sender.rewindPending
      ∧ (passBoundary b s).sender.passOwed = s.sender.passOwed := by
  simp only [passBoundary]
  split <;> simp

@[simp] theorem endHandOver_frame (unit : Option Leaving) (s : State) :
    (endHandOver unit s).pending = s.pending
      ∧ (endHandOver unit s).clock = s.clock
      ∧ (endHandOver unit s).ties = s.ties
      ∧ (endHandOver unit s).resetHeld = s.resetHeld
      ∧ (endHandOver unit s).home = s.home
      ∧ (endHandOver unit s).classMap = s.classMap
      ∧ (endHandOver unit s).lanes = s.lanes
      ∧ (endHandOver unit s).pause = s.pause
      ∧ (endHandOver unit s).session = s.session
      ∧ (endHandOver unit s).sender = s.sender
      ∧ (endHandOver unit s).receiver = s.receiver
      ∧ (endHandOver unit s).carry = s.carry
      ∧ (endHandOver unit s).fibreJudge = s.fibreJudge
      ∧ (endHandOver unit s).radioJudge = s.radioJudge
      ∧ (endHandOver unit s).selector = s.selector
      ∧ (endHandOver unit s).link = s.link
      ∧ (endHandOver unit s).events = s.events
      ∧ (endHandOver unit s).counts = s.counts
      ∧ (endHandOver unit s).fibre = s.fibre
      ∧ (endHandOver unit s).radio.status = s.radio.status
      ∧ (endHandOver unit s).radio.modPwr = s.radio.modPwr
      ∧ (endHandOver unit s).radio.outstanding = s.radio.outstanding
      ∧ (endHandOver unit s).radio.rounds = s.radio.rounds
      ∧ (endHandOver unit s).radio.linger = s.radio.linger
      ∧ (endHandOver unit s).radio.rest = s.radio.rest
      ∧ (endHandOver unit s).radio.cause = s.radio.cause
      ∧ (endHandOver unit s).radio.releaseDue = s.radio.releaseDue
      ∧ (endHandOver unit s).radio.wantedHeld = s.radio.wantedHeld
      ∧ (endHandOver unit s).radio.lastReading = s.radio.lastReading
      ∧ (endHandOver unit s).radio.stallCount = s.radio.stallCount
      ∧ (endHandOver unit s).radio.settings = s.radio.settings := by
  simp only [endHandOver]
  split <;> simp

@[simp] theorem clearPort_frame (b : Bearer) (l : Leaving) (s : State) :
    (clearPort b l s).pending = s.pending
      ∧ (clearPort b l s).clock = s.clock
      ∧ (clearPort b l s).ties = s.ties
      ∧ (clearPort b l s).resetHeld = s.resetHeld
      ∧ (clearPort b l s).home = s.home
      ∧ (clearPort b l s).classMap = s.classMap
      ∧ (clearPort b l s).lanes = s.lanes
      ∧ (clearPort b l s).pause = s.pause
      ∧ (clearPort b l s).session = s.session
      ∧ (clearPort b l s).sender = s.sender
      ∧ (clearPort b l s).receiver = s.receiver
      ∧ (clearPort b l s).carry = s.carry
      ∧ (clearPort b l s).fibreJudge = s.fibreJudge
      ∧ (clearPort b l s).radioJudge = s.radioJudge
      ∧ (clearPort b l s).selector = s.selector
      ∧ (clearPort b l s).link = s.link
      ∧ (clearPort b l s).events = s.events
      ∧ (clearPort b l s).counts = s.counts
      ∧ (clearPort b l s).fibre.linkUp = s.fibre.linkUp
      ∧ (clearPort b l s).radio.status = s.radio.status
      ∧ (clearPort b l s).radio.modPwr = s.radio.modPwr
      ∧ (clearPort b l s).radio.outstanding = s.radio.outstanding
      ∧ (clearPort b l s).radio.rounds = s.radio.rounds
      ∧ (clearPort b l s).radio.linger = s.radio.linger
      ∧ (clearPort b l s).radio.rest = s.radio.rest
      ∧ (clearPort b l s).radio.cause = s.radio.cause
      ∧ (clearPort b l s).radio.releaseDue = s.radio.releaseDue
      ∧ (clearPort b l s).radio.wantedHeld = s.radio.wantedHeld
      ∧ (clearPort b l s).radio.lastReading = s.radio.lastReading
      ∧ (clearPort b l s).radio.stallCount = s.radio.stallCount
      ∧ (clearPort b l s).radio.settings = s.radio.settings := by
  simp only [clearPort]
  split <;> simp

@[simp] theorem completeCut_frame (b : Bearer) (s : State) :
    (completeCut b s).pending = s.pending
      ∧ (completeCut b s).clock = s.clock
      ∧ (completeCut b s).ties = s.ties
      ∧ (completeCut b s).resetHeld = s.resetHeld
      ∧ (completeCut b s).home = s.home
      ∧ (completeCut b s).classMap = s.classMap
      ∧ (completeCut b s).lanes = s.lanes
      ∧ (completeCut b s).pause = s.pause
      ∧ (completeCut b s).session = s.session
      ∧ (completeCut b s).sender = s.sender
      ∧ (completeCut b s).receiver = s.receiver
      ∧ (completeCut b s).carry = s.carry
      ∧ (completeCut b s).fibreJudge = s.fibreJudge
      ∧ (completeCut b s).radioJudge = s.radioJudge
      ∧ (completeCut b s).selector = s.selector
      ∧ (completeCut b s).link = s.link
      ∧ (completeCut b s).events = s.events
      ∧ (completeCut b s).counts = s.counts
      ∧ (completeCut b s).fibre = s.fibre
      ∧ (completeCut b s).radio.status = s.radio.status
      ∧ (completeCut b s).radio.modPwr = s.radio.modPwr
      ∧ (completeCut b s).radio.outstanding = s.radio.outstanding
      ∧ (completeCut b s).radio.rounds = s.radio.rounds
      ∧ (completeCut b s).radio.linger = s.radio.linger
      ∧ (completeCut b s).radio.rest = s.radio.rest
      ∧ (completeCut b s).radio.cause = s.radio.cause
      ∧ (completeCut b s).radio.releaseDue = s.radio.releaseDue
      ∧ (completeCut b s).radio.wantedHeld = s.radio.wantedHeld
      ∧ (completeCut b s).radio.lastReading = s.radio.lastReading
      ∧ (completeCut b s).radio.stallCount = s.radio.stallCount
      ∧ (completeCut b s).radio.settings = s.radio.settings := by
  simp only [completeCut]
  split <;> simp

@[simp] theorem atBoundary_frame (b : Bearer) (reoffer : Bool) (s : State) :
    (atBoundary b reoffer s).pending = s.pending
      ∧ (atBoundary b reoffer s).clock = s.clock
      ∧ (atBoundary b reoffer s).ties = s.ties
      ∧ (atBoundary b reoffer s).resetHeld = s.resetHeld
      ∧ (atBoundary b reoffer s).home = s.home
      ∧ (atBoundary b reoffer s).classMap = s.classMap
      ∧ (atBoundary b reoffer s).lanes = s.lanes
      ∧ (atBoundary b reoffer s).session = s.session
      ∧ (atBoundary b reoffer s).receiver = s.receiver
      ∧ (atBoundary b reoffer s).carry = s.carry
      ∧ (atBoundary b reoffer s).fibre = s.fibre
      ∧ (atBoundary b reoffer s).fibreJudge = s.fibreJudge
      ∧ (atBoundary b reoffer s).radioJudge = s.radioJudge
      ∧ (atBoundary b reoffer s).selector = s.selector
      ∧ (atBoundary b reoffer s).radio = s.radio
      ∧ (atBoundary b reoffer s).link = s.link
      ∧ (atBoundary b reoffer s).events = s.events
      ∧ (atBoundary b reoffer s).pause.session = s.pause.session
      ∧ (atBoundary b reoffer s).pause.selector = s.pause.selector
      ∧ (atBoundary b reoffer s).sender.n = s.sender.n
      ∧ (atBoundary b reoffer s).sender.store = s.sender.store
      ∧ (atBoundary b reoffer s).sender.tallyOwed = s.sender.tallyOwed
      ∧ (atBoundary b reoffer s).sender.tallyTimer = s.sender.tallyTimer
      ∧ (atBoundary b reoffer s).sender.waitingFibre = s.sender.waitingFibre
      ∧ (atBoundary b reoffer s).sender.waitingRadio = s.sender.waitingRadio
      ∧ (atBoundary b reoffer s).sender.rewindPending = s.sender.rewindPending
      ∧ (atBoundary b reoffer s).sender.passOwed = s.sender.passOwed
      ∧ (atBoundary b reoffer s).counts.lane = s.counts.lane
      ∧ (atBoundary b reoffer s).counts.probeFibre = s.counts.probeFibre
      ∧ (atBoundary b reoffer s).counts.probeRadio = s.counts.probeRadio
      ∧ (atBoundary b reoffer s).counts.module = s.counts.module
      ∧ (atBoundary b reoffer s).counts.link = s.counts.link := by
  simp only [atBoundary]
  split <;> simp

@[simp] theorem completeDeparture_frame (b : Bearer) (s : State) :
    (completeDeparture b s).pending = s.pending
      ∧ (completeDeparture b s).clock = s.clock
      ∧ (completeDeparture b s).ties = s.ties
      ∧ (completeDeparture b s).resetHeld = s.resetHeld
      ∧ (completeDeparture b s).home = s.home
      ∧ (completeDeparture b s).classMap = s.classMap
      ∧ (completeDeparture b s).lanes = s.lanes
      ∧ (completeDeparture b s).session = s.session
      ∧ (completeDeparture b s).receiver = s.receiver
      ∧ (completeDeparture b s).carry = s.carry
      ∧ (completeDeparture b s).fibreJudge = s.fibreJudge
      ∧ (completeDeparture b s).radioJudge = s.radioJudge
      ∧ (completeDeparture b s).selector = s.selector
      ∧ (completeDeparture b s).link = s.link
      ∧ (completeDeparture b s).events = s.events
      ∧ (completeDeparture b s).pause.session = s.pause.session
      ∧ (completeDeparture b s).pause.selector = s.pause.selector
      ∧ (completeDeparture b s).sender.n = s.sender.n
      ∧ (completeDeparture b s).sender.store = s.sender.store
      ∧ (completeDeparture b s).sender.tallyOwed = s.sender.tallyOwed
      ∧ (completeDeparture b s).sender.tallyTimer = s.sender.tallyTimer
      ∧ (completeDeparture b s).sender.waitingFibre = s.sender.waitingFibre
      ∧ (completeDeparture b s).sender.waitingRadio = s.sender.waitingRadio
      ∧ (completeDeparture b s).sender.rewindPending = s.sender.rewindPending
      ∧ (completeDeparture b s).sender.passOwed = s.sender.passOwed
      ∧ (completeDeparture b s).fibre.linkUp = s.fibre.linkUp
      ∧ (completeDeparture b s).radio.status = s.radio.status
      ∧ (completeDeparture b s).radio.modPwr = s.radio.modPwr
      ∧ (completeDeparture b s).radio.outstanding = s.radio.outstanding
      ∧ (completeDeparture b s).radio.rounds = s.radio.rounds
      ∧ (completeDeparture b s).radio.linger = s.radio.linger
      ∧ (completeDeparture b s).radio.rest = s.radio.rest
      ∧ (completeDeparture b s).radio.cause = s.radio.cause
      ∧ (completeDeparture b s).radio.releaseDue = s.radio.releaseDue
      ∧ (completeDeparture b s).radio.wantedHeld = s.radio.wantedHeld
      ∧ (completeDeparture b s).radio.lastReading = s.radio.lastReading
      ∧ (completeDeparture b s).radio.stallCount = s.radio.stallCount
      ∧ (completeDeparture b s).radio.settings = s.radio.settings
      ∧ (completeDeparture b s).counts.lane = s.counts.lane
      ∧ (completeDeparture b s).counts.module = s.counts.module
      ∧ (completeDeparture b s).counts.link = s.counts.link := by
  simp only [completeDeparture]
  (repeat' split) <;> simp

@[simp] theorem offerAgain_frame (s : State) :
    (offerAgain s).pending = s.pending
      ∧ (offerAgain s).clock = s.clock
      ∧ (offerAgain s).ties = s.ties
      ∧ (offerAgain s).resetHeld = s.resetHeld
      ∧ (offerAgain s).home = s.home
      ∧ (offerAgain s).classMap = s.classMap
      ∧ (offerAgain s).lanes = s.lanes
      ∧ (offerAgain s).pause = s.pause
      ∧ (offerAgain s).session = s.session
      ∧ (offerAgain s).receiver = s.receiver
      ∧ (offerAgain s).carry = s.carry
      ∧ (offerAgain s).fibreJudge = s.fibreJudge
      ∧ (offerAgain s).radioJudge = s.radioJudge
      ∧ (offerAgain s).selector = s.selector
      ∧ (offerAgain s).link = s.link
      ∧ (offerAgain s).events = s.events
      ∧ (offerAgain s).counts = s.counts
      ∧ (offerAgain s).sender.n = s.sender.n
      ∧ (offerAgain s).sender.store = s.sender.store
      ∧ (offerAgain s).sender.stream = s.sender.stream
      ∧ (offerAgain s).sender.rewindPending = s.sender.rewindPending
      ∧ (offerAgain s).sender.announcePending = s.sender.announcePending
      ∧ (offerAgain s).sender.pass = s.sender.pass
      ∧ (offerAgain s).sender.cursor = s.sender.cursor
      ∧ (offerAgain s).sender.passStopping = s.sender.passStopping
      ∧ (offerAgain s).sender.passOwed = s.sender.passOwed
      ∧ (offerAgain s).fibre.linkUp = s.fibre.linkUp
      ∧ (offerAgain s).radio.status = s.radio.status
      ∧ (offerAgain s).radio.modPwr = s.radio.modPwr
      ∧ (offerAgain s).radio.outstanding = s.radio.outstanding
      ∧ (offerAgain s).radio.rounds = s.radio.rounds
      ∧ (offerAgain s).radio.linger = s.radio.linger
      ∧ (offerAgain s).radio.rest = s.radio.rest
      ∧ (offerAgain s).radio.cause = s.radio.cause
      ∧ (offerAgain s).radio.releaseDue = s.radio.releaseDue
      ∧ (offerAgain s).radio.wantedHeld = s.radio.wantedHeld
      ∧ (offerAgain s).radio.lastReading = s.radio.lastReading
      ∧ (offerAgain s).radio.stallCount = s.radio.stallCount
      ∧ (offerAgain s).radio.settings = s.radio.settings := by
  simp only [offerAgain]
  split <;> simp

end Sys2Proof.Machine
end

