-- ==== Sys2Proof/Laws/Receiver.lean ====
section
/-! SUPPORT. Frame lemmas: what the carry receiver's operations leave as they are. -/

namespace Sys2Proof.Machine

@[simp] theorem readAck_frame (a : Seq) (s : State) :
    (readAck a s).pending = s.pending
      ∧ (readAck a s).clock = s.clock
      ∧ (readAck a s).ties = s.ties
      ∧ (readAck a s).resetHeld = s.resetHeld
      ∧ (readAck a s).home = s.home
      ∧ (readAck a s).classMap = s.classMap
      ∧ (readAck a s).lanes = s.lanes
      ∧ (readAck a s).carry = s.carry
      ∧ (readAck a s).fibre = s.fibre
      ∧ (readAck a s).receiver.e = s.receiver.e
      ∧ (readAck a s).receiver.discard = s.receiver.discard
      ∧ (readAck a s).receiver.marksFibre = s.receiver.marksFibre
      ∧ (readAck a s).receiver.marksRadio = s.receiver.marksRadio
      ∧ (readAck a s).fibreJudge.settings = s.fibreJudge.settings
      ∧ (readAck a s).fibreJudge.penalty = s.fibreJudge.penalty
      ∧ (readAck a s).fibreJudge.suppressed = s.fibreJudge.suppressed
      ∧ (readAck a s).fibreJudge.decay = s.fibreJudge.decay
      ∧ (readAck a s).fibreJudge.damping = s.fibreJudge.damping
      ∧ (readAck a s).fibreJudge.handed = s.fibreJudge.handed
      ∧ (readAck a s).fibreJudge.tag = s.fibreJudge.tag
      ∧ (readAck a s).radioJudge.settings = s.radioJudge.settings
      ∧ (readAck a s).radioJudge.penalty = s.radioJudge.penalty
      ∧ (readAck a s).radioJudge.suppressed = s.radioJudge.suppressed
      ∧ (readAck a s).radioJudge.decay = s.radioJudge.decay
      ∧ (readAck a s).radioJudge.damping = s.radioJudge.damping
      ∧ (readAck a s).radioJudge.tag = s.radioJudge.tag
      ∧ (readAck a s).selector.pin = s.selector.pin
      ∧ (readAck a s).radio.rounds = s.radio.rounds
      ∧ (readAck a s).radio.rest = s.radio.rest
      ∧ (readAck a s).radio.lastReading = s.radio.lastReading
      ∧ (readAck a s).radio.leaving = s.radio.leaving
      ∧ (readAck a s).radio.stallCount = s.radio.stallCount
      ∧ (readAck a s).radio.settings = s.radio.settings
      ∧ (readAck a s).link.rx = s.link.rx
      ∧ (readAck a s).link.rxTimer = s.link.rxTimer
      ∧ (readAck a s).link.inbound = s.link.inbound
      ∧ (readAck a s).link.sent = s.link.sent
      ∧ (readAck a s).link.resetTaken = s.link.resetTaken
      ∧ (readAck a s).events.mask = s.events.mask
      ∧ (readAck a s).events.mode = s.events.mode
      ∧ (readAck a s).events.attn = s.events.attn
      ∧ (readAck a s).counts.lane = s.counts.lane
      ∧ (readAck a s).counts.probeFibre = s.counts.probeFibre
      ∧ (readAck a s).counts.probeRadio = s.counts.probeRadio
      ∧ (readAck a s).counts.module = s.counts.module := by
  simp only [readAck]
  split <;> simp

@[simp] theorem readAckIfClear_frame (a : Seq) (s : State) :
    (readAckIfClear a s).pending = s.pending
      ∧ (readAckIfClear a s).clock = s.clock
      ∧ (readAckIfClear a s).ties = s.ties
      ∧ (readAckIfClear a s).resetHeld = s.resetHeld
      ∧ (readAckIfClear a s).home = s.home
      ∧ (readAckIfClear a s).classMap = s.classMap
      ∧ (readAckIfClear a s).lanes = s.lanes
      ∧ (readAckIfClear a s).carry = s.carry
      ∧ (readAckIfClear a s).fibre = s.fibre
      ∧ (readAckIfClear a s).receiver.e = s.receiver.e
      ∧ (readAckIfClear a s).receiver.discard = s.receiver.discard
      ∧ (readAckIfClear a s).receiver.marksFibre = s.receiver.marksFibre
      ∧ (readAckIfClear a s).receiver.marksRadio = s.receiver.marksRadio
      ∧ (readAckIfClear a s).fibreJudge.settings = s.fibreJudge.settings
      ∧ (readAckIfClear a s).fibreJudge.penalty = s.fibreJudge.penalty
      ∧ (readAckIfClear a s).fibreJudge.suppressed = s.fibreJudge.suppressed
      ∧ (readAckIfClear a s).fibreJudge.decay = s.fibreJudge.decay
      ∧ (readAckIfClear a s).fibreJudge.damping = s.fibreJudge.damping
      ∧ (readAckIfClear a s).fibreJudge.handed = s.fibreJudge.handed
      ∧ (readAckIfClear a s).fibreJudge.tag = s.fibreJudge.tag
      ∧ (readAckIfClear a s).radioJudge.settings = s.radioJudge.settings
      ∧ (readAckIfClear a s).radioJudge.penalty = s.radioJudge.penalty
      ∧ (readAckIfClear a s).radioJudge.suppressed = s.radioJudge.suppressed
      ∧ (readAckIfClear a s).radioJudge.decay = s.radioJudge.decay
      ∧ (readAckIfClear a s).radioJudge.damping = s.radioJudge.damping
      ∧ (readAckIfClear a s).radioJudge.tag = s.radioJudge.tag
      ∧ (readAckIfClear a s).selector.pin = s.selector.pin
      ∧ (readAckIfClear a s).radio.rounds = s.radio.rounds
      ∧ (readAckIfClear a s).radio.rest = s.radio.rest
      ∧ (readAckIfClear a s).radio.lastReading = s.radio.lastReading
      ∧ (readAckIfClear a s).radio.leaving = s.radio.leaving
      ∧ (readAckIfClear a s).radio.stallCount = s.radio.stallCount
      ∧ (readAckIfClear a s).radio.settings = s.radio.settings
      ∧ (readAckIfClear a s).link.rx = s.link.rx
      ∧ (readAckIfClear a s).link.rxTimer = s.link.rxTimer
      ∧ (readAckIfClear a s).link.inbound = s.link.inbound
      ∧ (readAckIfClear a s).link.sent = s.link.sent
      ∧ (readAckIfClear a s).link.resetTaken = s.link.resetTaken
      ∧ (readAckIfClear a s).events.mask = s.events.mask
      ∧ (readAckIfClear a s).events.mode = s.events.mode
      ∧ (readAckIfClear a s).events.attn = s.events.attn
      ∧ (readAckIfClear a s).counts.lane = s.counts.lane
      ∧ (readAckIfClear a s).counts.probeFibre = s.counts.probeFibre
      ∧ (readAckIfClear a s).counts.probeRadio = s.counts.probeRadio
      ∧ (readAckIfClear a s).counts.module = s.counts.module := by
  simp only [readAckIfClear]
  split <;> simp

@[simp] theorem receiveError_frame (b : Bearer) (s : State) :
    (receiveError b s).pending = s.pending
      ∧ (receiveError b s).clock = s.clock
      ∧ (receiveError b s).ties = s.ties
      ∧ (receiveError b s).resetHeld = s.resetHeld
      ∧ (receiveError b s).home = s.home
      ∧ (receiveError b s).classMap = s.classMap
      ∧ (receiveError b s).lanes = s.lanes
      ∧ (receiveError b s).pause = s.pause
      ∧ (receiveError b s).session = s.session
      ∧ (receiveError b s).carry = s.carry
      ∧ (receiveError b s).fibre = s.fibre
      ∧ (receiveError b s).fibreJudge = s.fibreJudge
      ∧ (receiveError b s).radioJudge = s.radioJudge
      ∧ (receiveError b s).selector = s.selector
      ∧ (receiveError b s).radio = s.radio
      ∧ (receiveError b s).sender.n = s.sender.n
      ∧ (receiveError b s).sender.store = s.sender.store
      ∧ (receiveError b s).sender.tallyOwed = s.sender.tallyOwed
      ∧ (receiveError b s).sender.tallyTimer = s.sender.tallyTimer
      ∧ (receiveError b s).sender.waitingFibre = s.sender.waitingFibre
      ∧ (receiveError b s).sender.waitingRadio = s.sender.waitingRadio
      ∧ (receiveError b s).sender.stream = s.sender.stream
      ∧ (receiveError b s).sender.announcePending = s.sender.announcePending
      ∧ (receiveError b s).sender.pass = s.sender.pass
      ∧ (receiveError b s).sender.cursor = s.sender.cursor
      ∧ (receiveError b s).sender.passStopping = s.sender.passStopping
      ∧ (receiveError b s).sender.passOwed = s.sender.passOwed
      ∧ (receiveError b s).receiver.e = s.receiver.e
      ∧ (receiveError b s).link.rx = s.link.rx
      ∧ (receiveError b s).link.rxTimer = s.link.rxTimer
      ∧ (receiveError b s).link.inbound = s.link.inbound
      ∧ (receiveError b s).link.sent = s.link.sent
      ∧ (receiveError b s).link.resetTaken = s.link.resetTaken
      ∧ (receiveError b s).events.mask = s.events.mask
      ∧ (receiveError b s).events.mode = s.events.mode
      ∧ (receiveError b s).events.attn = s.events.attn
      ∧ (receiveError b s).counts.lane = s.counts.lane
      ∧ (receiveError b s).counts.carry = s.counts.carry
      ∧ (receiveError b s).counts.probeFibre = s.counts.probeFibre
      ∧ (receiveError b s).counts.probeRadio = s.counts.probeRadio
      ∧ (receiveError b s).counts.module = s.counts.module := by
  simp only [receiveError]
  split <;> simp

@[simp] theorem checkFailure_frame (b : Bearer) (s : State) :
    (checkFailure b s).pending = s.pending
      ∧ (checkFailure b s).clock = s.clock
      ∧ (checkFailure b s).ties = s.ties
      ∧ (checkFailure b s).resetHeld = s.resetHeld
      ∧ (checkFailure b s).home = s.home
      ∧ (checkFailure b s).classMap = s.classMap
      ∧ (checkFailure b s).lanes = s.lanes
      ∧ (checkFailure b s).pause = s.pause
      ∧ (checkFailure b s).session = s.session
      ∧ (checkFailure b s).carry = s.carry
      ∧ (checkFailure b s).fibre = s.fibre
      ∧ (checkFailure b s).fibreJudge = s.fibreJudge
      ∧ (checkFailure b s).radioJudge = s.radioJudge
      ∧ (checkFailure b s).selector = s.selector
      ∧ (checkFailure b s).radio = s.radio
      ∧ (checkFailure b s).sender.n = s.sender.n
      ∧ (checkFailure b s).sender.store = s.sender.store
      ∧ (checkFailure b s).sender.tallyOwed = s.sender.tallyOwed
      ∧ (checkFailure b s).sender.tallyTimer = s.sender.tallyTimer
      ∧ (checkFailure b s).sender.waitingFibre = s.sender.waitingFibre
      ∧ (checkFailure b s).sender.waitingRadio = s.sender.waitingRadio
      ∧ (checkFailure b s).sender.stream = s.sender.stream
      ∧ (checkFailure b s).sender.announcePending = s.sender.announcePending
      ∧ (checkFailure b s).sender.pass = s.sender.pass
      ∧ (checkFailure b s).sender.cursor = s.sender.cursor
      ∧ (checkFailure b s).sender.passStopping = s.sender.passStopping
      ∧ (checkFailure b s).sender.passOwed = s.sender.passOwed
      ∧ (checkFailure b s).receiver.e = s.receiver.e
      ∧ (checkFailure b s).link.rx = s.link.rx
      ∧ (checkFailure b s).link.rxTimer = s.link.rxTimer
      ∧ (checkFailure b s).link.inbound = s.link.inbound
      ∧ (checkFailure b s).link.sent = s.link.sent
      ∧ (checkFailure b s).link.resetTaken = s.link.resetTaken
      ∧ (checkFailure b s).events.mask = s.events.mask
      ∧ (checkFailure b s).events.mode = s.events.mode
      ∧ (checkFailure b s).events.attn = s.events.attn
      ∧ (checkFailure b s).counts.lane = s.counts.lane
      ∧ (checkFailure b s).counts.probeFibre = s.counts.probeFibre
      ∧ (checkFailure b s).counts.probeRadio = s.counts.probeRadio
      ∧ (checkFailure b s).counts.module = s.counts.module := by
  simp only [checkFailure]
  (repeat' split) <;> simp

@[simp] theorem rewindThreshold_frame (s : State) :
    (rewindThreshold s).pending = s.pending
      ∧ (rewindThreshold s).clock = s.clock
      ∧ (rewindThreshold s).ties = s.ties
      ∧ (rewindThreshold s).resetHeld = s.resetHeld
      ∧ (rewindThreshold s).home = s.home
      ∧ (rewindThreshold s).classMap = s.classMap
      ∧ (rewindThreshold s).lanes = s.lanes
      ∧ (rewindThreshold s).session = s.session
      ∧ (rewindThreshold s).receiver = s.receiver
      ∧ (rewindThreshold s).carry = s.carry
      ∧ (rewindThreshold s).fibre = s.fibre
      ∧ (rewindThreshold s).fibreJudge = s.fibreJudge
      ∧ (rewindThreshold s).radioJudge = s.radioJudge
      ∧ (rewindThreshold s).selector = s.selector
      ∧ (rewindThreshold s).radio = s.radio
      ∧ (rewindThreshold s).link = s.link
      ∧ (rewindThreshold s).events = s.events
      ∧ (rewindThreshold s).counts = s.counts
      ∧ (rewindThreshold s).pause.session = s.pause.session
      ∧ (rewindThreshold s).pause.selector = s.pause.selector
      ∧ (rewindThreshold s).pause.stream = s.pause.stream
      ∧ (rewindThreshold s).sender.n = s.sender.n
      ∧ (rewindThreshold s).sender.store = s.sender.store
      ∧ (rewindThreshold s).sender.tallyOwed = s.sender.tallyOwed
      ∧ (rewindThreshold s).sender.tallyTimer = s.sender.tallyTimer
      ∧ (rewindThreshold s).sender.waitingFibre = s.sender.waitingFibre
      ∧ (rewindThreshold s).sender.waitingRadio = s.sender.waitingRadio
      ∧ (rewindThreshold s).sender.stream = s.sender.stream
      ∧ (rewindThreshold s).sender.rewindPending = s.sender.rewindPending := by
  simp only [rewindThreshold]
  split <;> simp

@[simp] theorem clearDiscard_frame (s : State) :
    (clearDiscard s).pending = s.pending
      ∧ (clearDiscard s).clock = s.clock
      ∧ (clearDiscard s).ties = s.ties
      ∧ (clearDiscard s).resetHeld = s.resetHeld
      ∧ (clearDiscard s).home = s.home
      ∧ (clearDiscard s).classMap = s.classMap
      ∧ (clearDiscard s).lanes = s.lanes
      ∧ (clearDiscard s).pause = s.pause
      ∧ (clearDiscard s).session = s.session
      ∧ (clearDiscard s).sender = s.sender
      ∧ (clearDiscard s).carry = s.carry
      ∧ (clearDiscard s).fibre = s.fibre
      ∧ (clearDiscard s).fibreJudge = s.fibreJudge
      ∧ (clearDiscard s).radioJudge = s.radioJudge
      ∧ (clearDiscard s).selector = s.selector
      ∧ (clearDiscard s).radio = s.radio
      ∧ (clearDiscard s).link = s.link
      ∧ (clearDiscard s).events = s.events
      ∧ (clearDiscard s).counts = s.counts
      ∧ (clearDiscard s).receiver.e = s.receiver.e
      ∧ (clearDiscard s).receiver.marksFibre = s.receiver.marksFibre
      ∧ (clearDiscard s).receiver.marksRadio = s.receiver.marksRadio := by simp [clearDiscard]

@[simp] theorem takeRewind_frame (b : Bearer) (f : CarryFrame) (s : State) :
    (takeRewind b f s).pending = s.pending
      ∧ (takeRewind b f s).clock = s.clock
      ∧ (takeRewind b f s).ties = s.ties
      ∧ (takeRewind b f s).resetHeld = s.resetHeld
      ∧ (takeRewind b f s).home = s.home
      ∧ (takeRewind b f s).classMap = s.classMap
      ∧ (takeRewind b f s).lanes = s.lanes
      ∧ (takeRewind b f s).carry = s.carry
      ∧ (takeRewind b f s).fibre = s.fibre
      ∧ (takeRewind b f s).receiver.e = s.receiver.e
      ∧ (takeRewind b f s).receiver.discard = s.receiver.discard
      ∧ (takeRewind b f s).fibreJudge.settings = s.fibreJudge.settings
      ∧ (takeRewind b f s).fibreJudge.penalty = s.fibreJudge.penalty
      ∧ (takeRewind b f s).fibreJudge.suppressed = s.fibreJudge.suppressed
      ∧ (takeRewind b f s).fibreJudge.decay = s.fibreJudge.decay
      ∧ (takeRewind b f s).fibreJudge.damping = s.fibreJudge.damping
      ∧ (takeRewind b f s).fibreJudge.handed = s.fibreJudge.handed
      ∧ (takeRewind b f s).fibreJudge.tag = s.fibreJudge.tag
      ∧ (takeRewind b f s).radioJudge.settings = s.radioJudge.settings
      ∧ (takeRewind b f s).radioJudge.penalty = s.radioJudge.penalty
      ∧ (takeRewind b f s).radioJudge.suppressed = s.radioJudge.suppressed
      ∧ (takeRewind b f s).radioJudge.decay = s.radioJudge.decay
      ∧ (takeRewind b f s).radioJudge.damping = s.radioJudge.damping
      ∧ (takeRewind b f s).radioJudge.tag = s.radioJudge.tag
      ∧ (takeRewind b f s).selector.pin = s.selector.pin
      ∧ (takeRewind b f s).radio.rounds = s.radio.rounds
      ∧ (takeRewind b f s).radio.rest = s.radio.rest
      ∧ (takeRewind b f s).radio.lastReading = s.radio.lastReading
      ∧ (takeRewind b f s).radio.leaving = s.radio.leaving
      ∧ (takeRewind b f s).radio.stallCount = s.radio.stallCount
      ∧ (takeRewind b f s).radio.settings = s.radio.settings
      ∧ (takeRewind b f s).link.rx = s.link.rx
      ∧ (takeRewind b f s).link.rxTimer = s.link.rxTimer
      ∧ (takeRewind b f s).link.inbound = s.link.inbound
      ∧ (takeRewind b f s).link.sent = s.link.sent
      ∧ (takeRewind b f s).link.resetTaken = s.link.resetTaken
      ∧ (takeRewind b f s).events.mask = s.events.mask
      ∧ (takeRewind b f s).events.mode = s.events.mode
      ∧ (takeRewind b f s).events.attn = s.events.attn
      ∧ (takeRewind b f s).counts.lane = s.counts.lane
      ∧ (takeRewind b f s).counts.probeFibre = s.counts.probeFibre
      ∧ (takeRewind b f s).counts.probeRadio = s.counts.probeRadio
      ∧ (takeRewind b f s).counts.module = s.counts.module := by
  simp only [takeRewind]
  (repeat' split) <;> simp

@[simp] theorem takeReplay_frame (b : Bearer) (f : CarryFrame) (s : State) :
    (takeReplay b f s).pending = s.pending
      ∧ (takeReplay b f s).clock = s.clock
      ∧ (takeReplay b f s).ties = s.ties
      ∧ (takeReplay b f s).resetHeld = s.resetHeld
      ∧ (takeReplay b f s).home = s.home
      ∧ (takeReplay b f s).classMap = s.classMap
      ∧ (takeReplay b f s).lanes = s.lanes
      ∧ (takeReplay b f s).carry = s.carry
      ∧ (takeReplay b f s).fibre = s.fibre
      ∧ (takeReplay b f s).receiver.e = s.receiver.e
      ∧ (takeReplay b f s).fibreJudge.settings = s.fibreJudge.settings
      ∧ (takeReplay b f s).fibreJudge.penalty = s.fibreJudge.penalty
      ∧ (takeReplay b f s).fibreJudge.suppressed = s.fibreJudge.suppressed
      ∧ (takeReplay b f s).fibreJudge.decay = s.fibreJudge.decay
      ∧ (takeReplay b f s).fibreJudge.damping = s.fibreJudge.damping
      ∧ (takeReplay b f s).fibreJudge.handed = s.fibreJudge.handed
      ∧ (takeReplay b f s).fibreJudge.tag = s.fibreJudge.tag
      ∧ (takeReplay b f s).radioJudge.settings = s.radioJudge.settings
      ∧ (takeReplay b f s).radioJudge.penalty = s.radioJudge.penalty
      ∧ (takeReplay b f s).radioJudge.suppressed = s.radioJudge.suppressed
      ∧ (takeReplay b f s).radioJudge.decay = s.radioJudge.decay
      ∧ (takeReplay b f s).radioJudge.damping = s.radioJudge.damping
      ∧ (takeReplay b f s).radioJudge.tag = s.radioJudge.tag
      ∧ (takeReplay b f s).selector.pin = s.selector.pin
      ∧ (takeReplay b f s).radio.rounds = s.radio.rounds
      ∧ (takeReplay b f s).radio.rest = s.radio.rest
      ∧ (takeReplay b f s).radio.lastReading = s.radio.lastReading
      ∧ (takeReplay b f s).radio.leaving = s.radio.leaving
      ∧ (takeReplay b f s).radio.stallCount = s.radio.stallCount
      ∧ (takeReplay b f s).radio.settings = s.radio.settings
      ∧ (takeReplay b f s).link.rx = s.link.rx
      ∧ (takeReplay b f s).link.rxTimer = s.link.rxTimer
      ∧ (takeReplay b f s).link.inbound = s.link.inbound
      ∧ (takeReplay b f s).link.sent = s.link.sent
      ∧ (takeReplay b f s).link.resetTaken = s.link.resetTaken
      ∧ (takeReplay b f s).events.mask = s.events.mask
      ∧ (takeReplay b f s).events.mode = s.events.mode
      ∧ (takeReplay b f s).events.attn = s.events.attn
      ∧ (takeReplay b f s).counts.lane = s.counts.lane
      ∧ (takeReplay b f s).counts.probeFibre = s.counts.probeFibre
      ∧ (takeReplay b f s).counts.probeRadio = s.counts.probeRadio
      ∧ (takeReplay b f s).counts.module = s.counts.module := by
  simp only [takeReplay]
  (repeat' split) <;> simp

@[simp] theorem advanceE_frame (s : State) :
    (advanceE s).pending = s.pending
      ∧ (advanceE s).clock = s.clock
      ∧ (advanceE s).ties = s.ties
      ∧ (advanceE s).resetHeld = s.resetHeld
      ∧ (advanceE s).home = s.home
      ∧ (advanceE s).classMap = s.classMap
      ∧ (advanceE s).lanes = s.lanes
      ∧ (advanceE s).pause = s.pause
      ∧ (advanceE s).session = s.session
      ∧ (advanceE s).carry = s.carry
      ∧ (advanceE s).fibre = s.fibre
      ∧ (advanceE s).fibreJudge = s.fibreJudge
      ∧ (advanceE s).radioJudge = s.radioJudge
      ∧ (advanceE s).selector = s.selector
      ∧ (advanceE s).radio = s.radio
      ∧ (advanceE s).link = s.link
      ∧ (advanceE s).events = s.events
      ∧ (advanceE s).counts = s.counts
      ∧ (advanceE s).sender.n = s.sender.n
      ∧ (advanceE s).sender.store = s.sender.store
      ∧ (advanceE s).sender.waitingFibre = s.sender.waitingFibre
      ∧ (advanceE s).sender.waitingRadio = s.sender.waitingRadio
      ∧ (advanceE s).sender.stream = s.sender.stream
      ∧ (advanceE s).sender.rewindPending = s.sender.rewindPending
      ∧ (advanceE s).sender.announcePending = s.sender.announcePending
      ∧ (advanceE s).sender.pass = s.sender.pass
      ∧ (advanceE s).sender.cursor = s.sender.cursor
      ∧ (advanceE s).sender.passStopping = s.sender.passStopping
      ∧ (advanceE s).sender.passOwed = s.sender.passOwed
      ∧ (advanceE s).receiver.discard = s.receiver.discard
      ∧ (advanceE s).receiver.attempts = s.receiver.attempts
      ∧ (advanceE s).receiver.rewindTimer = s.receiver.rewindTimer
      ∧ (advanceE s).receiver.marksFibre = s.receiver.marksFibre
      ∧ (advanceE s).receiver.marksRadio = s.receiver.marksRadio := by simp [advanceE]

@[simp] theorem acceptData_frame (f : CarryFrame) (s : State) :
    (acceptData f s).pending = s.pending
      ∧ (acceptData f s).clock = s.clock
      ∧ (acceptData f s).ties = s.ties
      ∧ (acceptData f s).resetHeld = s.resetHeld
      ∧ (acceptData f s).classMap = s.classMap
      ∧ (acceptData f s).lanes = s.lanes
      ∧ (acceptData f s).carry = s.carry
      ∧ (acceptData f s).fibre = s.fibre
      ∧ (acceptData f s).home.sent = s.home.sent
      ∧ (acceptData f s).home.linkUp = s.home.linkUp
      ∧ (acceptData f s).receiver.discard = s.receiver.discard
      ∧ (acceptData f s).receiver.marksFibre = s.receiver.marksFibre
      ∧ (acceptData f s).receiver.marksRadio = s.receiver.marksRadio
      ∧ (acceptData f s).fibreJudge.settings = s.fibreJudge.settings
      ∧ (acceptData f s).fibreJudge.penalty = s.fibreJudge.penalty
      ∧ (acceptData f s).fibreJudge.suppressed = s.fibreJudge.suppressed
      ∧ (acceptData f s).fibreJudge.decay = s.fibreJudge.decay
      ∧ (acceptData f s).fibreJudge.damping = s.fibreJudge.damping
      ∧ (acceptData f s).fibreJudge.handed = s.fibreJudge.handed
      ∧ (acceptData f s).fibreJudge.tag = s.fibreJudge.tag
      ∧ (acceptData f s).radioJudge.settings = s.radioJudge.settings
      ∧ (acceptData f s).radioJudge.penalty = s.radioJudge.penalty
      ∧ (acceptData f s).radioJudge.suppressed = s.radioJudge.suppressed
      ∧ (acceptData f s).radioJudge.decay = s.radioJudge.decay
      ∧ (acceptData f s).radioJudge.damping = s.radioJudge.damping
      ∧ (acceptData f s).radioJudge.tag = s.radioJudge.tag
      ∧ (acceptData f s).selector.pin = s.selector.pin
      ∧ (acceptData f s).radio.rounds = s.radio.rounds
      ∧ (acceptData f s).radio.rest = s.radio.rest
      ∧ (acceptData f s).radio.lastReading = s.radio.lastReading
      ∧ (acceptData f s).radio.leaving = s.radio.leaving
      ∧ (acceptData f s).radio.stallCount = s.radio.stallCount
      ∧ (acceptData f s).radio.settings = s.radio.settings
      ∧ (acceptData f s).link.rx = s.link.rx
      ∧ (acceptData f s).link.rxTimer = s.link.rxTimer
      ∧ (acceptData f s).link.inbound = s.link.inbound
      ∧ (acceptData f s).link.sent = s.link.sent
      ∧ (acceptData f s).link.resetTaken = s.link.resetTaken
      ∧ (acceptData f s).events.mask = s.events.mask
      ∧ (acceptData f s).events.mode = s.events.mode
      ∧ (acceptData f s).events.attn = s.events.attn
      ∧ (acceptData f s).counts.probeFibre = s.counts.probeFibre
      ∧ (acceptData f s).counts.probeRadio = s.counts.probeRadio
      ∧ (acceptData f s).counts.module = s.counts.module := by
  simp only [acceptData]
  split <;> simp

@[simp] theorem takeData_frame (b : Bearer) (f : CarryFrame) (s : State) :
    (takeData b f s).pending = s.pending
      ∧ (takeData b f s).clock = s.clock
      ∧ (takeData b f s).ties = s.ties
      ∧ (takeData b f s).resetHeld = s.resetHeld
      ∧ (takeData b f s).classMap = s.classMap
      ∧ (takeData b f s).lanes = s.lanes
      ∧ (takeData b f s).carry = s.carry
      ∧ (takeData b f s).fibre = s.fibre
      ∧ (takeData b f s).home.sent = s.home.sent
      ∧ (takeData b f s).home.linkUp = s.home.linkUp
      ∧ (takeData b f s).fibreJudge.settings = s.fibreJudge.settings
      ∧ (takeData b f s).fibreJudge.penalty = s.fibreJudge.penalty
      ∧ (takeData b f s).fibreJudge.suppressed = s.fibreJudge.suppressed
      ∧ (takeData b f s).fibreJudge.decay = s.fibreJudge.decay
      ∧ (takeData b f s).fibreJudge.damping = s.fibreJudge.damping
      ∧ (takeData b f s).fibreJudge.handed = s.fibreJudge.handed
      ∧ (takeData b f s).fibreJudge.tag = s.fibreJudge.tag
      ∧ (takeData b f s).radioJudge.settings = s.radioJudge.settings
      ∧ (takeData b f s).radioJudge.penalty = s.radioJudge.penalty
      ∧ (takeData b f s).radioJudge.suppressed = s.radioJudge.suppressed
      ∧ (takeData b f s).radioJudge.decay = s.radioJudge.decay
      ∧ (takeData b f s).radioJudge.damping = s.radioJudge.damping
      ∧ (takeData b f s).radioJudge.tag = s.radioJudge.tag
      ∧ (takeData b f s).selector.pin = s.selector.pin
      ∧ (takeData b f s).radio.rounds = s.radio.rounds
      ∧ (takeData b f s).radio.rest = s.radio.rest
      ∧ (takeData b f s).radio.lastReading = s.radio.lastReading
      ∧ (takeData b f s).radio.leaving = s.radio.leaving
      ∧ (takeData b f s).radio.stallCount = s.radio.stallCount
      ∧ (takeData b f s).radio.settings = s.radio.settings
      ∧ (takeData b f s).link.rx = s.link.rx
      ∧ (takeData b f s).link.rxTimer = s.link.rxTimer
      ∧ (takeData b f s).link.inbound = s.link.inbound
      ∧ (takeData b f s).link.sent = s.link.sent
      ∧ (takeData b f s).link.resetTaken = s.link.resetTaken
      ∧ (takeData b f s).events.mask = s.events.mask
      ∧ (takeData b f s).events.mode = s.events.mode
      ∧ (takeData b f s).events.attn = s.events.attn
      ∧ (takeData b f s).counts.probeFibre = s.counts.probeFibre
      ∧ (takeData b f s).counts.probeRadio = s.counts.probeRadio
      ∧ (takeData b f s).counts.module = s.counts.module := by
  simp only [takeData]
  (repeat' split) <;> simp

@[simp] theorem takeOpened_frame (s : State) :
    (takeOpened s).pending = s.pending
      ∧ (takeOpened s).clock = s.clock
      ∧ (takeOpened s).ties = s.ties
      ∧ (takeOpened s).resetHeld = s.resetHeld
      ∧ (takeOpened s).home = s.home
      ∧ (takeOpened s).classMap = s.classMap
      ∧ (takeOpened s).lanes = s.lanes
      ∧ (takeOpened s).receiver = s.receiver
      ∧ (takeOpened s).carry = s.carry
      ∧ (takeOpened s).fibre = s.fibre
      ∧ (takeOpened s).fibreJudge = s.fibreJudge
      ∧ (takeOpened s).radioJudge = s.radioJudge
      ∧ (takeOpened s).selector = s.selector
      ∧ (takeOpened s).radio = s.radio
      ∧ (takeOpened s).pause.selector = s.pause.selector
      ∧ (takeOpened s).pause.pass = s.pause.pass
      ∧ (takeOpened s).pause.stream = s.pause.stream
      ∧ (takeOpened s).session.epoch = s.session.epoch
      ∧ (takeOpened s).sender.n = s.sender.n
      ∧ (takeOpened s).sender.store = s.sender.store
      ∧ (takeOpened s).sender.tallyOwed = s.sender.tallyOwed
      ∧ (takeOpened s).sender.tallyTimer = s.sender.tallyTimer
      ∧ (takeOpened s).sender.stream = s.sender.stream
      ∧ (takeOpened s).sender.rewindPending = s.sender.rewindPending
      ∧ (takeOpened s).sender.announcePending = s.sender.announcePending
      ∧ (takeOpened s).sender.pass = s.sender.pass
      ∧ (takeOpened s).sender.cursor = s.sender.cursor
      ∧ (takeOpened s).sender.passStopping = s.sender.passStopping
      ∧ (takeOpened s).sender.passOwed = s.sender.passOwed
      ∧ (takeOpened s).link.rx = s.link.rx
      ∧ (takeOpened s).link.rxTimer = s.link.rxTimer
      ∧ (takeOpened s).link.inbound = s.link.inbound
      ∧ (takeOpened s).link.sent = s.link.sent
      ∧ (takeOpened s).link.resetTaken = s.link.resetTaken
      ∧ (takeOpened s).events.mask = s.events.mask
      ∧ (takeOpened s).events.mode = s.events.mode
      ∧ (takeOpened s).events.attn = s.events.attn
      ∧ (takeOpened s).counts.lane = s.counts.lane
      ∧ (takeOpened s).counts.carry = s.counts.carry
      ∧ (takeOpened s).counts.probeFibre = s.counts.probeFibre
      ∧ (takeOpened s).counts.probeRadio = s.counts.probeRadio
      ∧ (takeOpened s).counts.module = s.counts.module := by
  simp only [takeOpened]
  split <;> simp

@[simp] theorem stopAtBoundary_frame (s : State) :
    (stopAtBoundary s).pending = s.pending
      ∧ (stopAtBoundary s).clock = s.clock
      ∧ (stopAtBoundary s).ties = s.ties
      ∧ (stopAtBoundary s).resetHeld = s.resetHeld
      ∧ (stopAtBoundary s).home = s.home
      ∧ (stopAtBoundary s).classMap = s.classMap
      ∧ (stopAtBoundary s).lanes = s.lanes
      ∧ (stopAtBoundary s).session = s.session
      ∧ (stopAtBoundary s).receiver = s.receiver
      ∧ (stopAtBoundary s).carry = s.carry
      ∧ (stopAtBoundary s).fibre = s.fibre
      ∧ (stopAtBoundary s).fibreJudge = s.fibreJudge
      ∧ (stopAtBoundary s).radioJudge = s.radioJudge
      ∧ (stopAtBoundary s).selector = s.selector
      ∧ (stopAtBoundary s).radio = s.radio
      ∧ (stopAtBoundary s).link = s.link
      ∧ (stopAtBoundary s).events = s.events
      ∧ (stopAtBoundary s).counts = s.counts
      ∧ (stopAtBoundary s).pause.session = s.pause.session
      ∧ (stopAtBoundary s).pause.selector = s.pause.selector
      ∧ (stopAtBoundary s).sender.n = s.sender.n
      ∧ (stopAtBoundary s).sender.store = s.sender.store
      ∧ (stopAtBoundary s).sender.tallyOwed = s.sender.tallyOwed
      ∧ (stopAtBoundary s).sender.tallyTimer = s.sender.tallyTimer
      ∧ (stopAtBoundary s).sender.waitingFibre = s.sender.waitingFibre
      ∧ (stopAtBoundary s).sender.waitingRadio = s.sender.waitingRadio := by
  simp only [stopAtBoundary]
  (repeat' split) <;> simp

@[simp] theorem restartSession_frame (s : State) :
    (restartSession s).pending = s.pending
      ∧ (restartSession s).clock = s.clock
      ∧ (restartSession s).ties = s.ties
      ∧ (restartSession s).resetHeld = s.resetHeld
      ∧ (restartSession s).home = s.home
      ∧ (restartSession s).classMap = s.classMap
      ∧ (restartSession s).lanes = s.lanes
      ∧ (restartSession s).carry = s.carry
      ∧ (restartSession s).fibre = s.fibre
      ∧ (restartSession s).fibreJudge.settings = s.fibreJudge.settings
      ∧ (restartSession s).fibreJudge.penalty = s.fibreJudge.penalty
      ∧ (restartSession s).fibreJudge.suppressed = s.fibreJudge.suppressed
      ∧ (restartSession s).fibreJudge.decay = s.fibreJudge.decay
      ∧ (restartSession s).fibreJudge.damping = s.fibreJudge.damping
      ∧ (restartSession s).fibreJudge.handed = s.fibreJudge.handed
      ∧ (restartSession s).fibreJudge.tag = s.fibreJudge.tag
      ∧ (restartSession s).radioJudge.settings = s.radioJudge.settings
      ∧ (restartSession s).radioJudge.penalty = s.radioJudge.penalty
      ∧ (restartSession s).radioJudge.suppressed = s.radioJudge.suppressed
      ∧ (restartSession s).radioJudge.decay = s.radioJudge.decay
      ∧ (restartSession s).radioJudge.damping = s.radioJudge.damping
      ∧ (restartSession s).radioJudge.tag = s.radioJudge.tag
      ∧ (restartSession s).selector.pin = s.selector.pin
      ∧ (restartSession s).radio.rounds = s.radio.rounds
      ∧ (restartSession s).radio.rest = s.radio.rest
      ∧ (restartSession s).radio.lastReading = s.radio.lastReading
      ∧ (restartSession s).radio.leaving = s.radio.leaving
      ∧ (restartSession s).radio.stallCount = s.radio.stallCount
      ∧ (restartSession s).radio.settings = s.radio.settings
      ∧ (restartSession s).link.rx = s.link.rx
      ∧ (restartSession s).link.rxTimer = s.link.rxTimer
      ∧ (restartSession s).link.inbound = s.link.inbound
      ∧ (restartSession s).link.sent = s.link.sent
      ∧ (restartSession s).link.resetTaken = s.link.resetTaken
      ∧ (restartSession s).events.mask = s.events.mask
      ∧ (restartSession s).events.mode = s.events.mode
      ∧ (restartSession s).events.attn = s.events.attn
      ∧ (restartSession s).counts.lane = s.counts.lane
      ∧ (restartSession s).counts.probeFibre = s.counts.probeFibre
      ∧ (restartSession s).counts.probeRadio = s.counts.probeRadio
      ∧ (restartSession s).counts.module = s.counts.module := by
  simp only [restartSession]
  split <;> simp

@[simp] theorem readProbeAck_frame (f : CarryFrame) (s : State) :
    (readProbeAck f s).pending = s.pending
      ∧ (readProbeAck f s).clock = s.clock
      ∧ (readProbeAck f s).ties = s.ties
      ∧ (readProbeAck f s).resetHeld = s.resetHeld
      ∧ (readProbeAck f s).home = s.home
      ∧ (readProbeAck f s).classMap = s.classMap
      ∧ (readProbeAck f s).lanes = s.lanes
      ∧ (readProbeAck f s).carry = s.carry
      ∧ (readProbeAck f s).fibre = s.fibre
      ∧ (readProbeAck f s).receiver.e = s.receiver.e
      ∧ (readProbeAck f s).receiver.discard = s.receiver.discard
      ∧ (readProbeAck f s).receiver.marksFibre = s.receiver.marksFibre
      ∧ (readProbeAck f s).receiver.marksRadio = s.receiver.marksRadio
      ∧ (readProbeAck f s).fibreJudge.settings = s.fibreJudge.settings
      ∧ (readProbeAck f s).fibreJudge.penalty = s.fibreJudge.penalty
      ∧ (readProbeAck f s).fibreJudge.suppressed = s.fibreJudge.suppressed
      ∧ (readProbeAck f s).fibreJudge.decay = s.fibreJudge.decay
      ∧ (readProbeAck f s).fibreJudge.damping = s.fibreJudge.damping
      ∧ (readProbeAck f s).fibreJudge.handed = s.fibreJudge.handed
      ∧ (readProbeAck f s).fibreJudge.tag = s.fibreJudge.tag
      ∧ (readProbeAck f s).radioJudge.settings = s.radioJudge.settings
      ∧ (readProbeAck f s).radioJudge.penalty = s.radioJudge.penalty
      ∧ (readProbeAck f s).radioJudge.suppressed = s.radioJudge.suppressed
      ∧ (readProbeAck f s).radioJudge.decay = s.radioJudge.decay
      ∧ (readProbeAck f s).radioJudge.damping = s.radioJudge.damping
      ∧ (readProbeAck f s).radioJudge.tag = s.radioJudge.tag
      ∧ (readProbeAck f s).selector.pin = s.selector.pin
      ∧ (readProbeAck f s).radio.rounds = s.radio.rounds
      ∧ (readProbeAck f s).radio.rest = s.radio.rest
      ∧ (readProbeAck f s).radio.lastReading = s.radio.lastReading
      ∧ (readProbeAck f s).radio.leaving = s.radio.leaving
      ∧ (readProbeAck f s).radio.stallCount = s.radio.stallCount
      ∧ (readProbeAck f s).radio.settings = s.radio.settings
      ∧ (readProbeAck f s).link.rx = s.link.rx
      ∧ (readProbeAck f s).link.rxTimer = s.link.rxTimer
      ∧ (readProbeAck f s).link.inbound = s.link.inbound
      ∧ (readProbeAck f s).link.sent = s.link.sent
      ∧ (readProbeAck f s).link.resetTaken = s.link.resetTaken
      ∧ (readProbeAck f s).events.mask = s.events.mask
      ∧ (readProbeAck f s).events.mode = s.events.mode
      ∧ (readProbeAck f s).events.attn = s.events.attn
      ∧ (readProbeAck f s).counts.lane = s.counts.lane
      ∧ (readProbeAck f s).counts.probeFibre = s.counts.probeFibre
      ∧ (readProbeAck f s).counts.probeRadio = s.counts.probeRadio
      ∧ (readProbeAck f s).counts.module = s.counts.module := by
  simp only [readProbeAck]
  split <;> simp

@[simp] theorem takeFrame_frame (b : Bearer) (k : FrameKind) (f : CarryFrame) (s : State) :
    (takeFrame b k f s).pending = s.pending
      ∧ (takeFrame b k f s).clock = s.clock
      ∧ (takeFrame b k f s).ties = s.ties
      ∧ (takeFrame b k f s).resetHeld = s.resetHeld
      ∧ (takeFrame b k f s).classMap = s.classMap
      ∧ (takeFrame b k f s).lanes = s.lanes
      ∧ (takeFrame b k f s).carry = s.carry
      ∧ (takeFrame b k f s).fibre = s.fibre
      ∧ (takeFrame b k f s).home.sent = s.home.sent
      ∧ (takeFrame b k f s).home.linkUp = s.home.linkUp
      ∧ (takeFrame b k f s).fibreJudge.settings = s.fibreJudge.settings
      ∧ (takeFrame b k f s).fibreJudge.penalty = s.fibreJudge.penalty
      ∧ (takeFrame b k f s).fibreJudge.suppressed = s.fibreJudge.suppressed
      ∧ (takeFrame b k f s).fibreJudge.decay = s.fibreJudge.decay
      ∧ (takeFrame b k f s).fibreJudge.damping = s.fibreJudge.damping
      ∧ (takeFrame b k f s).fibreJudge.handed = s.fibreJudge.handed
      ∧ (takeFrame b k f s).fibreJudge.tag = s.fibreJudge.tag
      ∧ (takeFrame b k f s).radioJudge.settings = s.radioJudge.settings
      ∧ (takeFrame b k f s).radioJudge.penalty = s.radioJudge.penalty
      ∧ (takeFrame b k f s).radioJudge.suppressed = s.radioJudge.suppressed
      ∧ (takeFrame b k f s).radioJudge.decay = s.radioJudge.decay
      ∧ (takeFrame b k f s).radioJudge.damping = s.radioJudge.damping
      ∧ (takeFrame b k f s).radioJudge.tag = s.radioJudge.tag
      ∧ (takeFrame b k f s).selector.pin = s.selector.pin
      ∧ (takeFrame b k f s).radio.rounds = s.radio.rounds
      ∧ (takeFrame b k f s).radio.rest = s.radio.rest
      ∧ (takeFrame b k f s).radio.lastReading = s.radio.lastReading
      ∧ (takeFrame b k f s).radio.leaving = s.radio.leaving
      ∧ (takeFrame b k f s).radio.stallCount = s.radio.stallCount
      ∧ (takeFrame b k f s).radio.settings = s.radio.settings
      ∧ (takeFrame b k f s).link.rx = s.link.rx
      ∧ (takeFrame b k f s).link.rxTimer = s.link.rxTimer
      ∧ (takeFrame b k f s).link.inbound = s.link.inbound
      ∧ (takeFrame b k f s).link.sent = s.link.sent
      ∧ (takeFrame b k f s).link.resetTaken = s.link.resetTaken
      ∧ (takeFrame b k f s).events.mask = s.events.mask
      ∧ (takeFrame b k f s).events.mode = s.events.mode
      ∧ (takeFrame b k f s).events.attn = s.events.attn
      ∧ (takeFrame b k f s).counts.module = s.counts.module := by
  simp only [takeFrame]
  (repeat' split) <;> simp

@[simp] theorem receive_frame (b : Bearer) (f : Option CarryFrame) (s : State) :
    (receive b f s).pending = s.pending
      ∧ (receive b f s).clock = s.clock
      ∧ (receive b f s).ties = s.ties
      ∧ (receive b f s).resetHeld = s.resetHeld
      ∧ (receive b f s).classMap = s.classMap
      ∧ (receive b f s).lanes = s.lanes
      ∧ (receive b f s).carry = s.carry
      ∧ (receive b f s).fibre = s.fibre
      ∧ (receive b f s).home.sent = s.home.sent
      ∧ (receive b f s).home.linkUp = s.home.linkUp
      ∧ (receive b f s).fibreJudge.settings = s.fibreJudge.settings
      ∧ (receive b f s).fibreJudge.penalty = s.fibreJudge.penalty
      ∧ (receive b f s).fibreJudge.suppressed = s.fibreJudge.suppressed
      ∧ (receive b f s).fibreJudge.decay = s.fibreJudge.decay
      ∧ (receive b f s).fibreJudge.damping = s.fibreJudge.damping
      ∧ (receive b f s).fibreJudge.handed = s.fibreJudge.handed
      ∧ (receive b f s).fibreJudge.tag = s.fibreJudge.tag
      ∧ (receive b f s).radioJudge.settings = s.radioJudge.settings
      ∧ (receive b f s).radioJudge.penalty = s.radioJudge.penalty
      ∧ (receive b f s).radioJudge.suppressed = s.radioJudge.suppressed
      ∧ (receive b f s).radioJudge.decay = s.radioJudge.decay
      ∧ (receive b f s).radioJudge.damping = s.radioJudge.damping
      ∧ (receive b f s).radioJudge.tag = s.radioJudge.tag
      ∧ (receive b f s).selector.pin = s.selector.pin
      ∧ (receive b f s).radio.rounds = s.radio.rounds
      ∧ (receive b f s).radio.rest = s.radio.rest
      ∧ (receive b f s).radio.lastReading = s.radio.lastReading
      ∧ (receive b f s).radio.leaving = s.radio.leaving
      ∧ (receive b f s).radio.stallCount = s.radio.stallCount
      ∧ (receive b f s).radio.settings = s.radio.settings
      ∧ (receive b f s).link.rx = s.link.rx
      ∧ (receive b f s).link.rxTimer = s.link.rxTimer
      ∧ (receive b f s).link.inbound = s.link.inbound
      ∧ (receive b f s).link.sent = s.link.sent
      ∧ (receive b f s).link.resetTaken = s.link.resetTaken
      ∧ (receive b f s).events.mask = s.events.mask
      ∧ (receive b f s).events.mode = s.events.mode
      ∧ (receive b f s).events.attn = s.events.attn
      ∧ (receive b f s).counts.module = s.counts.module := by
  simp only [receive]
  (repeat' split) <;> simp

end Sys2Proof.Machine
end

