-- ==== Sys2Proof/Laws/Ends.lean ====
section
/-! SUPPORT. Frame lemmas: what serving a port, the end of an event, and an arrival leave as they are. -/

namespace Sys2Proof.Machine

@[simp] theorem Sender.enrol_keeps (t : Sender) (l : Lane) (q : QueuedFrame) :
    (t.enrol l q).tallyOwed = t.tallyOwed ∧ (t.enrol l q).tallyTimer = t.tallyTimer
      ∧ (t.enrol l q).waitingFibre = t.waitingFibre ∧ (t.enrol l q).waitingRadio = t.waitingRadio
      ∧ (t.enrol l q).stream = t.stream ∧ (t.enrol l q).rewindPending = t.rewindPending
      ∧ (t.enrol l q).announcePending = t.announcePending ∧ (t.enrol l q).pass = t.pass
      ∧ (t.enrol l q).cursor = t.cursor ∧ (t.enrol l q).passStopping = t.passStopping
      ∧ (t.enrol l q).passOwed = t.passOwed :=
  ⟨rfl, rfl, rfl, rfl, rfl, rfl, rfl, rfl, rfl, rfl, rfl⟩

@[simp] theorem examineLanes_frame (order : List Lane) (s : State) :
    (examineLanes order s).1.pending = s.pending
      ∧ (examineLanes order s).1.clock = s.clock
      ∧ (examineLanes order s).1.ties = s.ties
      ∧ (examineLanes order s).1.resetHeld = s.resetHeld
      ∧ (examineLanes order s).1.home = s.home
      ∧ (examineLanes order s).1.classMap = s.classMap
      ∧ (examineLanes order s).1.pause = s.pause
      ∧ (examineLanes order s).1.session = s.session
      ∧ (examineLanes order s).1.sender = s.sender
      ∧ (examineLanes order s).1.receiver = s.receiver
      ∧ (examineLanes order s).1.carry = s.carry
      ∧ (examineLanes order s).1.fibre = s.fibre
      ∧ (examineLanes order s).1.fibreJudge = s.fibreJudge
      ∧ (examineLanes order s).1.radioJudge = s.radioJudge
      ∧ (examineLanes order s).1.selector = s.selector
      ∧ (examineLanes order s).1.radio = s.radio
      ∧ (examineLanes order s).1.link.rx = s.link.rx
      ∧ (examineLanes order s).1.link.rxTimer = s.link.rxTimer
      ∧ (examineLanes order s).1.link.inbound = s.link.inbound
      ∧ (examineLanes order s).1.link.sent = s.link.sent
      ∧ (examineLanes order s).1.link.resetTaken = s.link.resetTaken
      ∧ (examineLanes order s).1.events.mask = s.events.mask
      ∧ (examineLanes order s).1.events.mode = s.events.mode
      ∧ (examineLanes order s).1.events.attn = s.events.attn
      ∧ (examineLanes order s).1.counts.carry = s.counts.carry
      ∧ (examineLanes order s).1.counts.probeFibre = s.counts.probeFibre
      ∧ (examineLanes order s).1.counts.probeRadio = s.counts.probeRadio
      ∧ (examineLanes order s).1.counts.module = s.counts.module := by
  induction order generalizing s with
  | nil => simp [examineLanes]
  | cons l rest ih =>
    simp only [examineLanes]
    (repeat' split) <;> simp [ih]

@[simp] theorem sendHead_frame (l : Lane) (q : QueuedFrame) (b : Bearer) (s : State) :
    (sendHead l q b s).pending = s.pending
      ∧ (sendHead l q b s).clock = s.clock
      ∧ (sendHead l q b s).ties = s.ties
      ∧ (sendHead l q b s).resetHeld = s.resetHeld
      ∧ (sendHead l q b s).home = s.home
      ∧ (sendHead l q b s).classMap = s.classMap
      ∧ (sendHead l q b s).lanes = s.lanes
      ∧ (sendHead l q b s).pause = s.pause
      ∧ (sendHead l q b s).session = s.session
      ∧ (sendHead l q b s).receiver = s.receiver
      ∧ (sendHead l q b s).carry = s.carry
      ∧ (sendHead l q b s).fibreJudge = s.fibreJudge
      ∧ (sendHead l q b s).radioJudge = s.radioJudge
      ∧ (sendHead l q b s).selector = s.selector
      ∧ (sendHead l q b s).link = s.link
      ∧ (sendHead l q b s).events = s.events
      ∧ (sendHead l q b s).counts = s.counts
      ∧ (sendHead l q b s).sender.stream = s.sender.stream
      ∧ (sendHead l q b s).sender.rewindPending = s.sender.rewindPending
      ∧ (sendHead l q b s).sender.announcePending = s.sender.announcePending
      ∧ (sendHead l q b s).sender.pass = s.sender.pass
      ∧ (sendHead l q b s).sender.cursor = s.sender.cursor
      ∧ (sendHead l q b s).sender.passStopping = s.sender.passStopping
      ∧ (sendHead l q b s).sender.passOwed = s.sender.passOwed
      ∧ (sendHead l q b s).fibre.linkUp = s.fibre.linkUp
      ∧ (sendHead l q b s).radio.status = s.radio.status
      ∧ (sendHead l q b s).radio.modPwr = s.radio.modPwr
      ∧ (sendHead l q b s).radio.outstanding = s.radio.outstanding
      ∧ (sendHead l q b s).radio.rounds = s.radio.rounds
      ∧ (sendHead l q b s).radio.linger = s.radio.linger
      ∧ (sendHead l q b s).radio.rest = s.radio.rest
      ∧ (sendHead l q b s).radio.cause = s.radio.cause
      ∧ (sendHead l q b s).radio.releaseDue = s.radio.releaseDue
      ∧ (sendHead l q b s).radio.wantedHeld = s.radio.wantedHeld
      ∧ (sendHead l q b s).radio.lastReading = s.radio.lastReading
      ∧ (sendHead l q b s).radio.stallCount = s.radio.stallCount
      ∧ (sendHead l q b s).radio.settings = s.radio.settings := by
  simp only [sendHead]
  split <;> simp

@[simp] theorem dispatch_frame (b : Bearer) (s : State) :
    (dispatch b s).pending = s.pending
      ∧ (dispatch b s).clock = s.clock
      ∧ (dispatch b s).ties = s.ties
      ∧ (dispatch b s).resetHeld = s.resetHeld
      ∧ (dispatch b s).home = s.home
      ∧ (dispatch b s).classMap = s.classMap
      ∧ (dispatch b s).pause = s.pause
      ∧ (dispatch b s).session = s.session
      ∧ (dispatch b s).receiver = s.receiver
      ∧ (dispatch b s).carry = s.carry
      ∧ (dispatch b s).fibreJudge = s.fibreJudge
      ∧ (dispatch b s).radioJudge = s.radioJudge
      ∧ (dispatch b s).selector = s.selector
      ∧ (dispatch b s).sender.stream = s.sender.stream
      ∧ (dispatch b s).sender.rewindPending = s.sender.rewindPending
      ∧ (dispatch b s).sender.announcePending = s.sender.announcePending
      ∧ (dispatch b s).sender.pass = s.sender.pass
      ∧ (dispatch b s).sender.cursor = s.sender.cursor
      ∧ (dispatch b s).sender.passStopping = s.sender.passStopping
      ∧ (dispatch b s).sender.passOwed = s.sender.passOwed
      ∧ (dispatch b s).fibre.linkUp = s.fibre.linkUp
      ∧ (dispatch b s).radio.status = s.radio.status
      ∧ (dispatch b s).radio.modPwr = s.radio.modPwr
      ∧ (dispatch b s).radio.outstanding = s.radio.outstanding
      ∧ (dispatch b s).radio.rounds = s.radio.rounds
      ∧ (dispatch b s).radio.linger = s.radio.linger
      ∧ (dispatch b s).radio.rest = s.radio.rest
      ∧ (dispatch b s).radio.cause = s.radio.cause
      ∧ (dispatch b s).radio.releaseDue = s.radio.releaseDue
      ∧ (dispatch b s).radio.wantedHeld = s.radio.wantedHeld
      ∧ (dispatch b s).radio.lastReading = s.radio.lastReading
      ∧ (dispatch b s).radio.stallCount = s.radio.stallCount
      ∧ (dispatch b s).radio.settings = s.radio.settings
      ∧ (dispatch b s).link.rx = s.link.rx
      ∧ (dispatch b s).link.rxTimer = s.link.rxTimer
      ∧ (dispatch b s).link.inbound = s.link.inbound
      ∧ (dispatch b s).link.sent = s.link.sent
      ∧ (dispatch b s).link.resetTaken = s.link.resetTaken
      ∧ (dispatch b s).events.mask = s.events.mask
      ∧ (dispatch b s).events.mode = s.events.mode
      ∧ (dispatch b s).events.attn = s.events.attn
      ∧ (dispatch b s).counts.carry = s.counts.carry
      ∧ (dispatch b s).counts.probeFibre = s.counts.probeFibre
      ∧ (dispatch b s).counts.probeRadio = s.counts.probeRadio
      ∧ (dispatch b s).counts.module = s.counts.module := by
  have h := examineLanes_frame laneOrder s
  simp only [dispatch]
  split <;> (rename_i e; rw [e] at h; dsimp only at h; simp [h])

@[simp] theorem nextFrame_frame (o : Bool) (b : Bearer) (s : State) :
    (nextFrame o b s).pending = s.pending
      ∧ (nextFrame o b s).clock = s.clock
      ∧ (nextFrame o b s).ties = s.ties
      ∧ (nextFrame o b s).resetHeld = s.resetHeld
      ∧ (nextFrame o b s).home = s.home
      ∧ (nextFrame o b s).classMap = s.classMap
      ∧ (nextFrame o b s).session = s.session
      ∧ (nextFrame o b s).receiver = s.receiver
      ∧ (nextFrame o b s).carry = s.carry
      ∧ (nextFrame o b s).selector = s.selector
      ∧ (nextFrame o b s).pause.session = s.pause.session
      ∧ (nextFrame o b s).pause.selector = s.pause.selector
      ∧ (nextFrame o b s).pause.pass = s.pause.pass
      ∧ (nextFrame o b s).sender.passStopping = s.sender.passStopping
      ∧ (nextFrame o b s).sender.passOwed = s.sender.passOwed
      ∧ (nextFrame o b s).fibre.linkUp = s.fibre.linkUp
      ∧ (nextFrame o b s).fibreJudge.settings = s.fibreJudge.settings
      ∧ (nextFrame o b s).fibreJudge.timer = s.fibreJudge.timer
      ∧ (nextFrame o b s).fibreJudge.count = s.fibreJudge.count
      ∧ (nextFrame o b s).fibreJudge.verdict = s.fibreJudge.verdict
      ∧ (nextFrame o b s).fibreJudge.penalty = s.fibreJudge.penalty
      ∧ (nextFrame o b s).fibreJudge.suppressed = s.fibreJudge.suppressed
      ∧ (nextFrame o b s).fibreJudge.decay = s.fibreJudge.decay
      ∧ (nextFrame o b s).fibreJudge.damping = s.fibreJudge.damping
      ∧ (nextFrame o b s).fibreJudge.handed = s.fibreJudge.handed
      ∧ (nextFrame o b s).fibreJudge.srtt = s.fibreJudge.srtt
      ∧ (nextFrame o b s).fibreJudge.tag = s.fibreJudge.tag
      ∧ (nextFrame o b s).radioJudge.settings = s.radioJudge.settings
      ∧ (nextFrame o b s).radioJudge.timer = s.radioJudge.timer
      ∧ (nextFrame o b s).radioJudge.count = s.radioJudge.count
      ∧ (nextFrame o b s).radioJudge.verdict = s.radioJudge.verdict
      ∧ (nextFrame o b s).radioJudge.penalty = s.radioJudge.penalty
      ∧ (nextFrame o b s).radioJudge.suppressed = s.radioJudge.suppressed
      ∧ (nextFrame o b s).radioJudge.decay = s.radioJudge.decay
      ∧ (nextFrame o b s).radioJudge.damping = s.radioJudge.damping
      ∧ (nextFrame o b s).radioJudge.handed = s.radioJudge.handed
      ∧ (nextFrame o b s).radioJudge.srtt = s.radioJudge.srtt
      ∧ (nextFrame o b s).radioJudge.tag = s.radioJudge.tag
      ∧ (nextFrame o b s).radio.status = s.radio.status
      ∧ (nextFrame o b s).radio.modPwr = s.radio.modPwr
      ∧ (nextFrame o b s).radio.outstanding = s.radio.outstanding
      ∧ (nextFrame o b s).radio.rounds = s.radio.rounds
      ∧ (nextFrame o b s).radio.linger = s.radio.linger
      ∧ (nextFrame o b s).radio.rest = s.radio.rest
      ∧ (nextFrame o b s).radio.cause = s.radio.cause
      ∧ (nextFrame o b s).radio.releaseDue = s.radio.releaseDue
      ∧ (nextFrame o b s).radio.wantedHeld = s.radio.wantedHeld
      ∧ (nextFrame o b s).radio.lastReading = s.radio.lastReading
      ∧ (nextFrame o b s).radio.stallCount = s.radio.stallCount
      ∧ (nextFrame o b s).radio.settings = s.radio.settings
      ∧ (nextFrame o b s).link.rx = s.link.rx
      ∧ (nextFrame o b s).link.rxTimer = s.link.rxTimer
      ∧ (nextFrame o b s).link.inbound = s.link.inbound
      ∧ (nextFrame o b s).link.sent = s.link.sent
      ∧ (nextFrame o b s).link.resetTaken = s.link.resetTaken
      ∧ (nextFrame o b s).events.mask = s.events.mask
      ∧ (nextFrame o b s).events.mode = s.events.mode
      ∧ (nextFrame o b s).events.attn = s.events.attn
      ∧ (nextFrame o b s).counts.module = s.counts.module := by
  simp only [nextFrame]
  (repeat' split) <;> simp

@[simp] theorem serve_frame (o : Bool) (b : Bearer) (s : State) :
    (serve o b s).pending = s.pending
      ∧ (serve o b s).clock = s.clock
      ∧ (serve o b s).ties = s.ties
      ∧ (serve o b s).resetHeld = s.resetHeld
      ∧ (serve o b s).home = s.home
      ∧ (serve o b s).classMap = s.classMap
      ∧ (serve o b s).session = s.session
      ∧ (serve o b s).receiver = s.receiver
      ∧ (serve o b s).carry = s.carry
      ∧ (serve o b s).selector = s.selector
      ∧ (serve o b s).pause.session = s.pause.session
      ∧ (serve o b s).pause.selector = s.pause.selector
      ∧ (serve o b s).sender.passOwed = s.sender.passOwed
      ∧ (serve o b s).fibre.linkUp = s.fibre.linkUp
      ∧ (serve o b s).fibreJudge.settings = s.fibreJudge.settings
      ∧ (serve o b s).fibreJudge.timer = s.fibreJudge.timer
      ∧ (serve o b s).fibreJudge.count = s.fibreJudge.count
      ∧ (serve o b s).fibreJudge.verdict = s.fibreJudge.verdict
      ∧ (serve o b s).fibreJudge.penalty = s.fibreJudge.penalty
      ∧ (serve o b s).fibreJudge.suppressed = s.fibreJudge.suppressed
      ∧ (serve o b s).fibreJudge.decay = s.fibreJudge.decay
      ∧ (serve o b s).fibreJudge.damping = s.fibreJudge.damping
      ∧ (serve o b s).fibreJudge.handed = s.fibreJudge.handed
      ∧ (serve o b s).fibreJudge.srtt = s.fibreJudge.srtt
      ∧ (serve o b s).fibreJudge.tag = s.fibreJudge.tag
      ∧ (serve o b s).radioJudge.settings = s.radioJudge.settings
      ∧ (serve o b s).radioJudge.timer = s.radioJudge.timer
      ∧ (serve o b s).radioJudge.count = s.radioJudge.count
      ∧ (serve o b s).radioJudge.verdict = s.radioJudge.verdict
      ∧ (serve o b s).radioJudge.penalty = s.radioJudge.penalty
      ∧ (serve o b s).radioJudge.suppressed = s.radioJudge.suppressed
      ∧ (serve o b s).radioJudge.decay = s.radioJudge.decay
      ∧ (serve o b s).radioJudge.damping = s.radioJudge.damping
      ∧ (serve o b s).radioJudge.handed = s.radioJudge.handed
      ∧ (serve o b s).radioJudge.srtt = s.radioJudge.srtt
      ∧ (serve o b s).radioJudge.tag = s.radioJudge.tag
      ∧ (serve o b s).radio.status = s.radio.status
      ∧ (serve o b s).radio.modPwr = s.radio.modPwr
      ∧ (serve o b s).radio.outstanding = s.radio.outstanding
      ∧ (serve o b s).radio.rounds = s.radio.rounds
      ∧ (serve o b s).radio.linger = s.radio.linger
      ∧ (serve o b s).radio.rest = s.radio.rest
      ∧ (serve o b s).radio.cause = s.radio.cause
      ∧ (serve o b s).radio.releaseDue = s.radio.releaseDue
      ∧ (serve o b s).radio.wantedHeld = s.radio.wantedHeld
      ∧ (serve o b s).radio.lastReading = s.radio.lastReading
      ∧ (serve o b s).radio.stallCount = s.radio.stallCount
      ∧ (serve o b s).radio.settings = s.radio.settings
      ∧ (serve o b s).link.rx = s.link.rx
      ∧ (serve o b s).link.rxTimer = s.link.rxTimer
      ∧ (serve o b s).link.inbound = s.link.inbound
      ∧ (serve o b s).link.sent = s.link.sent
      ∧ (serve o b s).link.resetTaken = s.link.resetTaken
      ∧ (serve o b s).events.mask = s.events.mask
      ∧ (serve o b s).events.mode = s.events.mode
      ∧ (serve o b s).events.attn = s.events.attn
      ∧ (serve o b s).counts.module = s.counts.module := by
  simp only [serve]
  split <;> simp

@[simp] theorem finish_frame (joined : Bool) (before : State) (s : State) :
    (finish joined before s).pending = s.pending
      ∧ (finish joined before s).clock = s.clock
      ∧ (finish joined before s).ties = s.ties
      ∧ (finish joined before s).resetHeld = s.resetHeld
      ∧ (finish joined before s).home = s.home
      ∧ (finish joined before s).classMap = s.classMap
      ∧ (finish joined before s).session = s.session
      ∧ (finish joined before s).receiver = s.receiver
      ∧ (finish joined before s).carry = s.carry
      ∧ (finish joined before s).selector = s.selector
      ∧ (finish joined before s).pause.session = s.pause.session
      ∧ (finish joined before s).pause.selector = s.pause.selector
      ∧ (finish joined before s).sender.passOwed = s.sender.passOwed
      ∧ (finish joined before s).fibre.linkUp = s.fibre.linkUp
      ∧ (finish joined before s).fibreJudge.settings = s.fibreJudge.settings
      ∧ (finish joined before s).fibreJudge.timer = s.fibreJudge.timer
      ∧ (finish joined before s).fibreJudge.count = s.fibreJudge.count
      ∧ (finish joined before s).fibreJudge.verdict = s.fibreJudge.verdict
      ∧ (finish joined before s).fibreJudge.penalty = s.fibreJudge.penalty
      ∧ (finish joined before s).fibreJudge.suppressed = s.fibreJudge.suppressed
      ∧ (finish joined before s).fibreJudge.decay = s.fibreJudge.decay
      ∧ (finish joined before s).fibreJudge.damping = s.fibreJudge.damping
      ∧ (finish joined before s).fibreJudge.handed = s.fibreJudge.handed
      ∧ (finish joined before s).fibreJudge.srtt = s.fibreJudge.srtt
      ∧ (finish joined before s).fibreJudge.tag = s.fibreJudge.tag
      ∧ (finish joined before s).radioJudge.settings = s.radioJudge.settings
      ∧ (finish joined before s).radioJudge.timer = s.radioJudge.timer
      ∧ (finish joined before s).radioJudge.count = s.radioJudge.count
      ∧ (finish joined before s).radioJudge.verdict = s.radioJudge.verdict
      ∧ (finish joined before s).radioJudge.penalty = s.radioJudge.penalty
      ∧ (finish joined before s).radioJudge.suppressed = s.radioJudge.suppressed
      ∧ (finish joined before s).radioJudge.decay = s.radioJudge.decay
      ∧ (finish joined before s).radioJudge.damping = s.radioJudge.damping
      ∧ (finish joined before s).radioJudge.handed = s.radioJudge.handed
      ∧ (finish joined before s).radioJudge.srtt = s.radioJudge.srtt
      ∧ (finish joined before s).radioJudge.tag = s.radioJudge.tag
      ∧ (finish joined before s).radio.status = s.radio.status
      ∧ (finish joined before s).radio.modPwr = s.radio.modPwr
      ∧ (finish joined before s).radio.outstanding = s.radio.outstanding
      ∧ (finish joined before s).radio.rounds = s.radio.rounds
      ∧ (finish joined before s).radio.linger = s.radio.linger
      ∧ (finish joined before s).radio.rest = s.radio.rest
      ∧ (finish joined before s).radio.cause = s.radio.cause
      ∧ (finish joined before s).radio.releaseDue = s.radio.releaseDue
      ∧ (finish joined before s).radio.wantedHeld = s.radio.wantedHeld
      ∧ (finish joined before s).radio.lastReading = s.radio.lastReading
      ∧ (finish joined before s).radio.stallCount = s.radio.stallCount
      ∧ (finish joined before s).radio.settings = s.radio.settings
      ∧ (finish joined before s).link.rx = s.link.rx
      ∧ (finish joined before s).link.rxTimer = s.link.rxTimer
      ∧ (finish joined before s).link.inbound = s.link.inbound
      ∧ (finish joined before s).link.sent = s.link.sent
      ∧ (finish joined before s).link.resetTaken = s.link.resetTaken
      ∧ (finish joined before s).events.mask = s.events.mask
      ∧ (finish joined before s).events.mode = s.events.mode
      ∧ (finish joined before s).counts.module = s.counts.module := by simp [finish]

@[simp] theorem laneArrival_frame (l : Lane) (q : QueuedFrame) (s : State) :
    ((laneArrival l q s).1).pending = s.pending
      ∧ ((laneArrival l q s).1).clock = s.clock
      ∧ ((laneArrival l q s).1).ties = s.ties
      ∧ ((laneArrival l q s).1).resetHeld = s.resetHeld
      ∧ ((laneArrival l q s).1).home = s.home
      ∧ ((laneArrival l q s).1).classMap = s.classMap
      ∧ ((laneArrival l q s).1).pause = s.pause
      ∧ ((laneArrival l q s).1).session = s.session
      ∧ ((laneArrival l q s).1).sender = s.sender
      ∧ ((laneArrival l q s).1).receiver = s.receiver
      ∧ ((laneArrival l q s).1).carry = s.carry
      ∧ ((laneArrival l q s).1).fibre = s.fibre
      ∧ ((laneArrival l q s).1).fibreJudge = s.fibreJudge
      ∧ ((laneArrival l q s).1).radioJudge = s.radioJudge
      ∧ ((laneArrival l q s).1).selector = s.selector
      ∧ ((laneArrival l q s).1).radio = s.radio
      ∧ ((laneArrival l q s).1).link.rx = s.link.rx
      ∧ ((laneArrival l q s).1).link.rxTimer = s.link.rxTimer
      ∧ ((laneArrival l q s).1).link.inbound = s.link.inbound
      ∧ ((laneArrival l q s).1).link.sent = s.link.sent
      ∧ ((laneArrival l q s).1).link.resetTaken = s.link.resetTaken
      ∧ ((laneArrival l q s).1).events.mask = s.events.mask
      ∧ ((laneArrival l q s).1).events.mode = s.events.mode
      ∧ ((laneArrival l q s).1).events.attn = s.events.attn
      ∧ ((laneArrival l q s).1).counts.probeFibre = s.counts.probeFibre
      ∧ ((laneArrival l q s).1).counts.probeRadio = s.counts.probeRadio
      ∧ ((laneArrival l q s).1).counts.module = s.counts.module := by
  simp only [laneArrival]
  (repeat' split) <;> simp

@[simp] theorem homeArrival_frame (bytes : List Byte) (s : State) :
    ((homeArrival bytes s).1).pending = s.pending
      ∧ ((homeArrival bytes s).1).clock = s.clock
      ∧ ((homeArrival bytes s).1).ties = s.ties
      ∧ ((homeArrival bytes s).1).resetHeld = s.resetHeld
      ∧ ((homeArrival bytes s).1).home = s.home
      ∧ ((homeArrival bytes s).1).classMap = s.classMap
      ∧ ((homeArrival bytes s).1).pause = s.pause
      ∧ ((homeArrival bytes s).1).session = s.session
      ∧ ((homeArrival bytes s).1).sender = s.sender
      ∧ ((homeArrival bytes s).1).receiver = s.receiver
      ∧ ((homeArrival bytes s).1).carry = s.carry
      ∧ ((homeArrival bytes s).1).fibre = s.fibre
      ∧ ((homeArrival bytes s).1).fibreJudge = s.fibreJudge
      ∧ ((homeArrival bytes s).1).radioJudge = s.radioJudge
      ∧ ((homeArrival bytes s).1).selector = s.selector
      ∧ ((homeArrival bytes s).1).radio = s.radio
      ∧ ((homeArrival bytes s).1).link.rx = s.link.rx
      ∧ ((homeArrival bytes s).1).link.rxTimer = s.link.rxTimer
      ∧ ((homeArrival bytes s).1).link.inbound = s.link.inbound
      ∧ ((homeArrival bytes s).1).link.sent = s.link.sent
      ∧ ((homeArrival bytes s).1).link.resetTaken = s.link.resetTaken
      ∧ ((homeArrival bytes s).1).events.mask = s.events.mask
      ∧ ((homeArrival bytes s).1).events.mode = s.events.mode
      ∧ ((homeArrival bytes s).1).events.attn = s.events.attn
      ∧ ((homeArrival bytes s).1).counts.probeFibre = s.counts.probeFibre
      ∧ ((homeArrival bytes s).1).counts.probeRadio = s.counts.probeRadio
      ∧ ((homeArrival bytes s).1).counts.module = s.counts.module := by
  simp only [homeArrival]
  (repeat' split) <;> simp

@[simp] theorem fibreArrival_frame (bytes : List Byte) (s : State) :
    (fibreArrival bytes s).pending = s.pending
      ∧ (fibreArrival bytes s).clock = s.clock
      ∧ (fibreArrival bytes s).ties = s.ties
      ∧ (fibreArrival bytes s).resetHeld = s.resetHeld
      ∧ (fibreArrival bytes s).classMap = s.classMap
      ∧ (fibreArrival bytes s).lanes = s.lanes
      ∧ (fibreArrival bytes s).carry = s.carry
      ∧ (fibreArrival bytes s).fibre = s.fibre
      ∧ (fibreArrival bytes s).home.sent = s.home.sent
      ∧ (fibreArrival bytes s).home.linkUp = s.home.linkUp
      ∧ (fibreArrival bytes s).fibreJudge.settings = s.fibreJudge.settings
      ∧ (fibreArrival bytes s).fibreJudge.penalty = s.fibreJudge.penalty
      ∧ (fibreArrival bytes s).fibreJudge.suppressed = s.fibreJudge.suppressed
      ∧ (fibreArrival bytes s).fibreJudge.decay = s.fibreJudge.decay
      ∧ (fibreArrival bytes s).fibreJudge.damping = s.fibreJudge.damping
      ∧ (fibreArrival bytes s).fibreJudge.handed = s.fibreJudge.handed
      ∧ (fibreArrival bytes s).fibreJudge.tag = s.fibreJudge.tag
      ∧ (fibreArrival bytes s).radioJudge.settings = s.radioJudge.settings
      ∧ (fibreArrival bytes s).radioJudge.penalty = s.radioJudge.penalty
      ∧ (fibreArrival bytes s).radioJudge.suppressed = s.radioJudge.suppressed
      ∧ (fibreArrival bytes s).radioJudge.decay = s.radioJudge.decay
      ∧ (fibreArrival bytes s).radioJudge.damping = s.radioJudge.damping
      ∧ (fibreArrival bytes s).radioJudge.tag = s.radioJudge.tag
      ∧ (fibreArrival bytes s).selector.pin = s.selector.pin
      ∧ (fibreArrival bytes s).radio.rounds = s.radio.rounds
      ∧ (fibreArrival bytes s).radio.rest = s.radio.rest
      ∧ (fibreArrival bytes s).radio.lastReading = s.radio.lastReading
      ∧ (fibreArrival bytes s).radio.leaving = s.radio.leaving
      ∧ (fibreArrival bytes s).radio.stallCount = s.radio.stallCount
      ∧ (fibreArrival bytes s).radio.settings = s.radio.settings
      ∧ (fibreArrival bytes s).link.rx = s.link.rx
      ∧ (fibreArrival bytes s).link.rxTimer = s.link.rxTimer
      ∧ (fibreArrival bytes s).link.inbound = s.link.inbound
      ∧ (fibreArrival bytes s).link.sent = s.link.sent
      ∧ (fibreArrival bytes s).link.resetTaken = s.link.resetTaken
      ∧ (fibreArrival bytes s).events.mask = s.events.mask
      ∧ (fibreArrival bytes s).events.mode = s.events.mode
      ∧ (fibreArrival bytes s).events.attn = s.events.attn
      ∧ (fibreArrival bytes s).counts.module = s.counts.module := by
  simp only [fibreArrival]
  (repeat' split) <;> simp

@[simp] theorem unitArrival_frame (bytes : List Byte) (s : State) :
    (unitArrival bytes s).pending = s.pending
      ∧ (unitArrival bytes s).clock = s.clock
      ∧ (unitArrival bytes s).ties = s.ties
      ∧ (unitArrival bytes s).resetHeld = s.resetHeld
      ∧ (unitArrival bytes s).classMap = s.classMap
      ∧ (unitArrival bytes s).lanes = s.lanes
      ∧ (unitArrival bytes s).carry = s.carry
      ∧ (unitArrival bytes s).fibre = s.fibre
      ∧ (unitArrival bytes s).home.sent = s.home.sent
      ∧ (unitArrival bytes s).home.linkUp = s.home.linkUp
      ∧ (unitArrival bytes s).fibreJudge.settings = s.fibreJudge.settings
      ∧ (unitArrival bytes s).fibreJudge.penalty = s.fibreJudge.penalty
      ∧ (unitArrival bytes s).fibreJudge.suppressed = s.fibreJudge.suppressed
      ∧ (unitArrival bytes s).fibreJudge.decay = s.fibreJudge.decay
      ∧ (unitArrival bytes s).fibreJudge.damping = s.fibreJudge.damping
      ∧ (unitArrival bytes s).fibreJudge.handed = s.fibreJudge.handed
      ∧ (unitArrival bytes s).fibreJudge.tag = s.fibreJudge.tag
      ∧ (unitArrival bytes s).radioJudge.settings = s.radioJudge.settings
      ∧ (unitArrival bytes s).radioJudge.penalty = s.radioJudge.penalty
      ∧ (unitArrival bytes s).radioJudge.suppressed = s.radioJudge.suppressed
      ∧ (unitArrival bytes s).radioJudge.decay = s.radioJudge.decay
      ∧ (unitArrival bytes s).radioJudge.damping = s.radioJudge.damping
      ∧ (unitArrival bytes s).radioJudge.tag = s.radioJudge.tag
      ∧ (unitArrival bytes s).selector.pin = s.selector.pin
      ∧ (unitArrival bytes s).radio.rounds = s.radio.rounds
      ∧ (unitArrival bytes s).radio.rest = s.radio.rest
      ∧ (unitArrival bytes s).radio.lastReading = s.radio.lastReading
      ∧ (unitArrival bytes s).radio.leaving = s.radio.leaving
      ∧ (unitArrival bytes s).radio.stallCount = s.radio.stallCount
      ∧ (unitArrival bytes s).radio.settings = s.radio.settings
      ∧ (unitArrival bytes s).link.rx = s.link.rx
      ∧ (unitArrival bytes s).link.rxTimer = s.link.rxTimer
      ∧ (unitArrival bytes s).link.inbound = s.link.inbound
      ∧ (unitArrival bytes s).link.sent = s.link.sent
      ∧ (unitArrival bytes s).link.resetTaken = s.link.resetTaken
      ∧ (unitArrival bytes s).events.mask = s.events.mask
      ∧ (unitArrival bytes s).events.mode = s.events.mode
      ∧ (unitArrival bytes s).events.attn = s.events.attn
      ∧ (unitArrival bytes s).counts.module = s.counts.module := by
  simp only [unitArrival]
  split <;> simp

end Sys2Proof.Machine
end

