-- ==== Sys2Proof/Laws/Commands.lean ====
section
/-! SUPPORT. Frame lemmas: what the effect of each command leaves as it is. -/

namespace Sys2Proof.Machine

@[simp] theorem setCarry_frame (v : CarrySettings) (s : State) :
    (setCarry v s).pending = s.pending
      ∧ (setCarry v s).clock = s.clock
      ∧ (setCarry v s).ties = s.ties
      ∧ (setCarry v s).resetHeld = s.resetHeld
      ∧ (setCarry v s).home = s.home
      ∧ (setCarry v s).classMap = s.classMap
      ∧ (setCarry v s).lanes = s.lanes
      ∧ (setCarry v s).pause = s.pause
      ∧ (setCarry v s).session = s.session
      ∧ (setCarry v s).sender = s.sender
      ∧ (setCarry v s).fibre = s.fibre
      ∧ (setCarry v s).fibreJudge = s.fibreJudge
      ∧ (setCarry v s).radioJudge = s.radioJudge
      ∧ (setCarry v s).selector = s.selector
      ∧ (setCarry v s).radio = s.radio
      ∧ (setCarry v s).link = s.link
      ∧ (setCarry v s).events = s.events
      ∧ (setCarry v s).counts = s.counts
      ∧ (setCarry v s).receiver.e = s.receiver.e
      ∧ (setCarry v s).receiver.discard = s.receiver.discard
      ∧ (setCarry v s).receiver.attempts = s.receiver.attempts
      ∧ (setCarry v s).receiver.rewindTimer = s.receiver.rewindTimer := by simp [setCarry]

@[simp] theorem retestSuppression_frame (b : Bearer) (s : State) :
    (retestSuppression b s).pending = s.pending
      ∧ (retestSuppression b s).clock = s.clock
      ∧ (retestSuppression b s).ties = s.ties
      ∧ (retestSuppression b s).resetHeld = s.resetHeld
      ∧ (retestSuppression b s).home = s.home
      ∧ (retestSuppression b s).classMap = s.classMap
      ∧ (retestSuppression b s).lanes = s.lanes
      ∧ (retestSuppression b s).carry = s.carry
      ∧ (retestSuppression b s).fibre = s.fibre
      ∧ (retestSuppression b s).sender.n = s.sender.n
      ∧ (retestSuppression b s).sender.store = s.sender.store
      ∧ (retestSuppression b s).receiver.e = s.receiver.e
      ∧ (retestSuppression b s).receiver.discard = s.receiver.discard
      ∧ (retestSuppression b s).receiver.marksFibre = s.receiver.marksFibre
      ∧ (retestSuppression b s).receiver.marksRadio = s.receiver.marksRadio
      ∧ (retestSuppression b s).fibreJudge.settings = s.fibreJudge.settings
      ∧ (retestSuppression b s).fibreJudge.penalty = s.fibreJudge.penalty
      ∧ (retestSuppression b s).fibreJudge.decay = s.fibreJudge.decay
      ∧ (retestSuppression b s).fibreJudge.damping = s.fibreJudge.damping
      ∧ (retestSuppression b s).fibreJudge.tag = s.fibreJudge.tag
      ∧ (retestSuppression b s).radioJudge.settings = s.radioJudge.settings
      ∧ (retestSuppression b s).radioJudge.penalty = s.radioJudge.penalty
      ∧ (retestSuppression b s).radioJudge.decay = s.radioJudge.decay
      ∧ (retestSuppression b s).radioJudge.damping = s.radioJudge.damping
      ∧ (retestSuppression b s).radioJudge.tag = s.radioJudge.tag
      ∧ (retestSuppression b s).selector.pin = s.selector.pin
      ∧ (retestSuppression b s).radio.rounds = s.radio.rounds
      ∧ (retestSuppression b s).radio.rest = s.radio.rest
      ∧ (retestSuppression b s).radio.lastReading = s.radio.lastReading
      ∧ (retestSuppression b s).radio.leaving = s.radio.leaving
      ∧ (retestSuppression b s).radio.stallCount = s.radio.stallCount
      ∧ (retestSuppression b s).radio.settings = s.radio.settings
      ∧ (retestSuppression b s).link.rx = s.link.rx
      ∧ (retestSuppression b s).link.rxTimer = s.link.rxTimer
      ∧ (retestSuppression b s).link.inbound = s.link.inbound
      ∧ (retestSuppression b s).link.sent = s.link.sent
      ∧ (retestSuppression b s).link.resetTaken = s.link.resetTaken
      ∧ (retestSuppression b s).events.mask = s.events.mask
      ∧ (retestSuppression b s).events.mode = s.events.mode
      ∧ (retestSuppression b s).events.attn = s.events.attn
      ∧ (retestSuppression b s).counts.lane = s.counts.lane
      ∧ (retestSuppression b s).counts.carry = s.counts.carry
      ∧ (retestSuppression b s).counts.probeFibre = s.counts.probeFibre
      ∧ (retestSuppression b s).counts.probeRadio = s.counts.probeRadio
      ∧ (retestSuppression b s).counts.module = s.counts.module := by
  simp only [retestSuppression]
  (repeat' split) <;> simp

@[simp] theorem restartDecay_frame (b : Bearer) (old new : Nat) (s : State) :
    (restartDecay b old new s).pending = s.pending
      ∧ (restartDecay b old new s).clock = s.clock
      ∧ (restartDecay b old new s).ties = s.ties
      ∧ (restartDecay b old new s).resetHeld = s.resetHeld
      ∧ (restartDecay b old new s).home = s.home
      ∧ (restartDecay b old new s).classMap = s.classMap
      ∧ (restartDecay b old new s).lanes = s.lanes
      ∧ (restartDecay b old new s).pause = s.pause
      ∧ (restartDecay b old new s).session = s.session
      ∧ (restartDecay b old new s).sender = s.sender
      ∧ (restartDecay b old new s).receiver = s.receiver
      ∧ (restartDecay b old new s).carry = s.carry
      ∧ (restartDecay b old new s).fibre = s.fibre
      ∧ (restartDecay b old new s).selector = s.selector
      ∧ (restartDecay b old new s).radio = s.radio
      ∧ (restartDecay b old new s).link = s.link
      ∧ (restartDecay b old new s).events = s.events
      ∧ (restartDecay b old new s).counts = s.counts
      ∧ (restartDecay b old new s).fibreJudge.settings = s.fibreJudge.settings
      ∧ (restartDecay b old new s).fibreJudge.timer = s.fibreJudge.timer
      ∧ (restartDecay b old new s).fibreJudge.count = s.fibreJudge.count
      ∧ (restartDecay b old new s).fibreJudge.verdict = s.fibreJudge.verdict
      ∧ (restartDecay b old new s).fibreJudge.penalty = s.fibreJudge.penalty
      ∧ (restartDecay b old new s).fibreJudge.suppressed = s.fibreJudge.suppressed
      ∧ (restartDecay b old new s).fibreJudge.damping = s.fibreJudge.damping
      ∧ (restartDecay b old new s).fibreJudge.handed = s.fibreJudge.handed
      ∧ (restartDecay b old new s).fibreJudge.srtt = s.fibreJudge.srtt
      ∧ (restartDecay b old new s).fibreJudge.table = s.fibreJudge.table
      ∧ (restartDecay b old new s).fibreJudge.tag = s.fibreJudge.tag
      ∧ (restartDecay b old new s).radioJudge.settings = s.radioJudge.settings
      ∧ (restartDecay b old new s).radioJudge.timer = s.radioJudge.timer
      ∧ (restartDecay b old new s).radioJudge.count = s.radioJudge.count
      ∧ (restartDecay b old new s).radioJudge.verdict = s.radioJudge.verdict
      ∧ (restartDecay b old new s).radioJudge.penalty = s.radioJudge.penalty
      ∧ (restartDecay b old new s).radioJudge.suppressed = s.radioJudge.suppressed
      ∧ (restartDecay b old new s).radioJudge.damping = s.radioJudge.damping
      ∧ (restartDecay b old new s).radioJudge.handed = s.radioJudge.handed
      ∧ (restartDecay b old new s).radioJudge.srtt = s.radioJudge.srtt
      ∧ (restartDecay b old new s).radioJudge.table = s.radioJudge.table
      ∧ (restartDecay b old new s).radioJudge.tag = s.radioJudge.tag := by
  simp only [restartDecay]
  cases b <;> (repeat' split) <;> simp

@[simp] theorem setDamping_frame (b : Bearer) (d : Damping) (s : State) :
    (setDamping b d s).pending = s.pending
      ∧ (setDamping b d s).clock = s.clock
      ∧ (setDamping b d s).ties = s.ties
      ∧ (setDamping b d s).resetHeld = s.resetHeld
      ∧ (setDamping b d s).home = s.home
      ∧ (setDamping b d s).classMap = s.classMap
      ∧ (setDamping b d s).lanes = s.lanes
      ∧ (setDamping b d s).carry = s.carry
      ∧ (setDamping b d s).fibre = s.fibre
      ∧ (setDamping b d s).sender.n = s.sender.n
      ∧ (setDamping b d s).sender.store = s.sender.store
      ∧ (setDamping b d s).receiver.e = s.receiver.e
      ∧ (setDamping b d s).receiver.discard = s.receiver.discard
      ∧ (setDamping b d s).receiver.marksFibre = s.receiver.marksFibre
      ∧ (setDamping b d s).receiver.marksRadio = s.receiver.marksRadio
      ∧ (setDamping b d s).selector.pin = s.selector.pin
      ∧ (setDamping b d s).radio.rounds = s.radio.rounds
      ∧ (setDamping b d s).radio.rest = s.radio.rest
      ∧ (setDamping b d s).radio.lastReading = s.radio.lastReading
      ∧ (setDamping b d s).radio.leaving = s.radio.leaving
      ∧ (setDamping b d s).radio.stallCount = s.radio.stallCount
      ∧ (setDamping b d s).radio.settings = s.radio.settings
      ∧ (setDamping b d s).link.rx = s.link.rx
      ∧ (setDamping b d s).link.rxTimer = s.link.rxTimer
      ∧ (setDamping b d s).link.inbound = s.link.inbound
      ∧ (setDamping b d s).link.sent = s.link.sent
      ∧ (setDamping b d s).link.resetTaken = s.link.resetTaken
      ∧ (setDamping b d s).events.mask = s.events.mask
      ∧ (setDamping b d s).events.mode = s.events.mode
      ∧ (setDamping b d s).events.attn = s.events.attn
      ∧ (setDamping b d s).counts.lane = s.counts.lane
      ∧ (setDamping b d s).counts.carry = s.counts.carry
      ∧ (setDamping b d s).counts.probeFibre = s.counts.probeFibre
      ∧ (setDamping b d s).counts.probeRadio = s.counts.probeRadio
      ∧ (setDamping b d s).counts.module = s.counts.module := by simp [setDamping]

@[simp] theorem startDecay_frame (s : State) :
    (startDecay s).pending = s.pending
      ∧ (startDecay s).clock = s.clock
      ∧ (startDecay s).ties = s.ties
      ∧ (startDecay s).resetHeld = s.resetHeld
      ∧ (startDecay s).home = s.home
      ∧ (startDecay s).classMap = s.classMap
      ∧ (startDecay s).lanes = s.lanes
      ∧ (startDecay s).pause = s.pause
      ∧ (startDecay s).session = s.session
      ∧ (startDecay s).sender = s.sender
      ∧ (startDecay s).receiver = s.receiver
      ∧ (startDecay s).carry = s.carry
      ∧ (startDecay s).fibre = s.fibre
      ∧ (startDecay s).selector = s.selector
      ∧ (startDecay s).radio = s.radio
      ∧ (startDecay s).link = s.link
      ∧ (startDecay s).events = s.events
      ∧ (startDecay s).counts = s.counts
      ∧ (startDecay s).fibreJudge.settings = s.fibreJudge.settings
      ∧ (startDecay s).fibreJudge.timer = s.fibreJudge.timer
      ∧ (startDecay s).fibreJudge.count = s.fibreJudge.count
      ∧ (startDecay s).fibreJudge.verdict = s.fibreJudge.verdict
      ∧ (startDecay s).fibreJudge.penalty = s.fibreJudge.penalty
      ∧ (startDecay s).fibreJudge.suppressed = s.fibreJudge.suppressed
      ∧ (startDecay s).fibreJudge.damping = s.fibreJudge.damping
      ∧ (startDecay s).fibreJudge.handed = s.fibreJudge.handed
      ∧ (startDecay s).fibreJudge.srtt = s.fibreJudge.srtt
      ∧ (startDecay s).fibreJudge.table = s.fibreJudge.table
      ∧ (startDecay s).fibreJudge.tag = s.fibreJudge.tag
      ∧ (startDecay s).radioJudge.settings = s.radioJudge.settings
      ∧ (startDecay s).radioJudge.timer = s.radioJudge.timer
      ∧ (startDecay s).radioJudge.count = s.radioJudge.count
      ∧ (startDecay s).radioJudge.verdict = s.radioJudge.verdict
      ∧ (startDecay s).radioJudge.penalty = s.radioJudge.penalty
      ∧ (startDecay s).radioJudge.suppressed = s.radioJudge.suppressed
      ∧ (startDecay s).radioJudge.damping = s.radioJudge.damping
      ∧ (startDecay s).radioJudge.handed = s.radioJudge.handed
      ∧ (startDecay s).radioJudge.srtt = s.radioJudge.srtt
      ∧ (startDecay s).radioJudge.table = s.radioJudge.table
      ∧ (startDecay s).radioJudge.tag = s.radioJudge.tag := by simp [startDecay]

@[simp] theorem startCarrying_frame (s : State) :
    (startCarrying s).pending = s.pending
      ∧ (startCarrying s).clock = s.clock
      ∧ (startCarrying s).resetHeld = s.resetHeld
      ∧ (startCarrying s).home = s.home
      ∧ (startCarrying s).classMap = s.classMap
      ∧ (startCarrying s).lanes = s.lanes
      ∧ (startCarrying s).session = s.session
      ∧ (startCarrying s).receiver = s.receiver
      ∧ (startCarrying s).carry = s.carry
      ∧ (startCarrying s).fibre = s.fibre
      ∧ (startCarrying s).pause.session = s.pause.session
      ∧ (startCarrying s).pause.selector = s.pause.selector
      ∧ (startCarrying s).pause.pass = s.pause.pass
      ∧ (startCarrying s).sender.n = s.sender.n
      ∧ (startCarrying s).sender.store = s.sender.store
      ∧ (startCarrying s).sender.tallyOwed = s.sender.tallyOwed
      ∧ (startCarrying s).sender.tallyTimer = s.sender.tallyTimer
      ∧ (startCarrying s).sender.rewindPending = s.sender.rewindPending
      ∧ (startCarrying s).sender.announcePending = s.sender.announcePending
      ∧ (startCarrying s).sender.pass = s.sender.pass
      ∧ (startCarrying s).sender.cursor = s.sender.cursor
      ∧ (startCarrying s).sender.passStopping = s.sender.passStopping
      ∧ (startCarrying s).sender.passOwed = s.sender.passOwed
      ∧ (startCarrying s).fibreJudge.settings = s.fibreJudge.settings
      ∧ (startCarrying s).fibreJudge.penalty = s.fibreJudge.penalty
      ∧ (startCarrying s).fibreJudge.suppressed = s.fibreJudge.suppressed
      ∧ (startCarrying s).fibreJudge.damping = s.fibreJudge.damping
      ∧ (startCarrying s).fibreJudge.handed = s.fibreJudge.handed
      ∧ (startCarrying s).radioJudge.settings = s.radioJudge.settings
      ∧ (startCarrying s).radioJudge.penalty = s.radioJudge.penalty
      ∧ (startCarrying s).radioJudge.suppressed = s.radioJudge.suppressed
      ∧ (startCarrying s).radioJudge.damping = s.radioJudge.damping
      ∧ (startCarrying s).selector.pin = s.selector.pin
      ∧ (startCarrying s).selector.drainTimer = s.selector.drainTimer
      ∧ (startCarrying s).selector.holdTimer = s.selector.holdTimer
      ∧ (startCarrying s).selector.record = s.selector.record
      ∧ (startCarrying s).radio.rounds = s.radio.rounds
      ∧ (startCarrying s).radio.rest = s.radio.rest
      ∧ (startCarrying s).radio.lastReading = s.radio.lastReading
      ∧ (startCarrying s).radio.leaving = s.radio.leaving
      ∧ (startCarrying s).radio.stallCount = s.radio.stallCount
      ∧ (startCarrying s).radio.settings = s.radio.settings
      ∧ (startCarrying s).link.rx = s.link.rx
      ∧ (startCarrying s).link.rxTimer = s.link.rxTimer
      ∧ (startCarrying s).link.inbound = s.link.inbound
      ∧ (startCarrying s).link.sent = s.link.sent
      ∧ (startCarrying s).link.resetTaken = s.link.resetTaken
      ∧ (startCarrying s).events.mask = s.events.mask
      ∧ (startCarrying s).events.mode = s.events.mode
      ∧ (startCarrying s).events.attn = s.events.attn
      ∧ (startCarrying s).counts.lane = s.counts.lane
      ∧ (startCarrying s).counts.carry = s.counts.carry
      ∧ (startCarrying s).counts.probeFibre = s.counts.probeFibre
      ∧ (startCarrying s).counts.probeRadio = s.counts.probeRadio
      ∧ (startCarrying s).counts.module = s.counts.module := by
  simp only [startCarrying]
  split <;> simp

@[simp] theorem cutPorts_frame (s : State) :
    (cutPorts s).pending = s.pending
      ∧ (cutPorts s).clock = s.clock
      ∧ (cutPorts s).ties = s.ties
      ∧ (cutPorts s).resetHeld = s.resetHeld
      ∧ (cutPorts s).home = s.home
      ∧ (cutPorts s).classMap = s.classMap
      ∧ (cutPorts s).lanes = s.lanes
      ∧ (cutPorts s).pause = s.pause
      ∧ (cutPorts s).session = s.session
      ∧ (cutPorts s).receiver = s.receiver
      ∧ (cutPorts s).carry = s.carry
      ∧ (cutPorts s).fibreJudge = s.fibreJudge
      ∧ (cutPorts s).radioJudge = s.radioJudge
      ∧ (cutPorts s).selector = s.selector
      ∧ (cutPorts s).link = s.link
      ∧ (cutPorts s).events = s.events
      ∧ (cutPorts s).counts = s.counts
      ∧ (cutPorts s).sender.n = s.sender.n
      ∧ (cutPorts s).sender.store = s.sender.store
      ∧ (cutPorts s).sender.tallyOwed = s.sender.tallyOwed
      ∧ (cutPorts s).sender.tallyTimer = s.sender.tallyTimer
      ∧ (cutPorts s).sender.waitingFibre = s.sender.waitingFibre
      ∧ (cutPorts s).sender.waitingRadio = s.sender.waitingRadio
      ∧ (cutPorts s).sender.rewindPending = s.sender.rewindPending
      ∧ (cutPorts s).sender.announcePending = s.sender.announcePending
      ∧ (cutPorts s).sender.pass = s.sender.pass
      ∧ (cutPorts s).sender.cursor = s.sender.cursor
      ∧ (cutPorts s).sender.passStopping = s.sender.passStopping
      ∧ (cutPorts s).sender.passOwed = s.sender.passOwed
      ∧ (cutPorts s).fibre.linkUp = s.fibre.linkUp
      ∧ (cutPorts s).radio.status = s.radio.status
      ∧ (cutPorts s).radio.modPwr = s.radio.modPwr
      ∧ (cutPorts s).radio.outstanding = s.radio.outstanding
      ∧ (cutPorts s).radio.rounds = s.radio.rounds
      ∧ (cutPorts s).radio.linger = s.radio.linger
      ∧ (cutPorts s).radio.rest = s.radio.rest
      ∧ (cutPorts s).radio.cause = s.radio.cause
      ∧ (cutPorts s).radio.releaseDue = s.radio.releaseDue
      ∧ (cutPorts s).radio.wantedHeld = s.radio.wantedHeld
      ∧ (cutPorts s).radio.lastReading = s.radio.lastReading
      ∧ (cutPorts s).radio.handshake = s.radio.handshake
      ∧ (cutPorts s).radio.held = s.radio.held
      ∧ (cutPorts s).radio.stallCount = s.radio.stallCount
      ∧ (cutPorts s).radio.settings = s.radio.settings := by simp [cutPorts]

@[simp] theorem haltSelector_frame (s : State) :
    (haltSelector s).pending = s.pending
      ∧ (haltSelector s).clock = s.clock
      ∧ (haltSelector s).ties = s.ties
      ∧ (haltSelector s).resetHeld = s.resetHeld
      ∧ (haltSelector s).home = s.home
      ∧ (haltSelector s).classMap = s.classMap
      ∧ (haltSelector s).lanes = s.lanes
      ∧ (haltSelector s).session = s.session
      ∧ (haltSelector s).sender = s.sender
      ∧ (haltSelector s).receiver = s.receiver
      ∧ (haltSelector s).carry = s.carry
      ∧ (haltSelector s).fibre = s.fibre
      ∧ (haltSelector s).fibreJudge = s.fibreJudge
      ∧ (haltSelector s).radioJudge = s.radioJudge
      ∧ (haltSelector s).radio = s.radio
      ∧ (haltSelector s).link = s.link
      ∧ (haltSelector s).events = s.events
      ∧ (haltSelector s).counts = s.counts
      ∧ (haltSelector s).pause.session = s.pause.session
      ∧ (haltSelector s).pause.pass = s.pause.pass
      ∧ (haltSelector s).pause.stream = s.pause.stream
      ∧ (haltSelector s).selector.pin = s.selector.pin
      ∧ (haltSelector s).selector.wanted = s.selector.wanted := by
  simp only [haltSelector]
  split <;> simp

@[simp] theorem stopDecay_frame (s : State) :
    (stopDecay s).pending = s.pending
      ∧ (stopDecay s).clock = s.clock
      ∧ (stopDecay s).ties = s.ties
      ∧ (stopDecay s).resetHeld = s.resetHeld
      ∧ (stopDecay s).home = s.home
      ∧ (stopDecay s).classMap = s.classMap
      ∧ (stopDecay s).lanes = s.lanes
      ∧ (stopDecay s).pause = s.pause
      ∧ (stopDecay s).session = s.session
      ∧ (stopDecay s).sender = s.sender
      ∧ (stopDecay s).receiver = s.receiver
      ∧ (stopDecay s).carry = s.carry
      ∧ (stopDecay s).fibre = s.fibre
      ∧ (stopDecay s).selector = s.selector
      ∧ (stopDecay s).radio = s.radio
      ∧ (stopDecay s).link = s.link
      ∧ (stopDecay s).events = s.events
      ∧ (stopDecay s).counts = s.counts
      ∧ (stopDecay s).fibreJudge.settings = s.fibreJudge.settings
      ∧ (stopDecay s).fibreJudge.timer = s.fibreJudge.timer
      ∧ (stopDecay s).fibreJudge.count = s.fibreJudge.count
      ∧ (stopDecay s).fibreJudge.verdict = s.fibreJudge.verdict
      ∧ (stopDecay s).fibreJudge.penalty = s.fibreJudge.penalty
      ∧ (stopDecay s).fibreJudge.suppressed = s.fibreJudge.suppressed
      ∧ (stopDecay s).fibreJudge.damping = s.fibreJudge.damping
      ∧ (stopDecay s).fibreJudge.handed = s.fibreJudge.handed
      ∧ (stopDecay s).fibreJudge.srtt = s.fibreJudge.srtt
      ∧ (stopDecay s).fibreJudge.table = s.fibreJudge.table
      ∧ (stopDecay s).fibreJudge.tag = s.fibreJudge.tag
      ∧ (stopDecay s).radioJudge.settings = s.radioJudge.settings
      ∧ (stopDecay s).radioJudge.timer = s.radioJudge.timer
      ∧ (stopDecay s).radioJudge.count = s.radioJudge.count
      ∧ (stopDecay s).radioJudge.verdict = s.radioJudge.verdict
      ∧ (stopDecay s).radioJudge.penalty = s.radioJudge.penalty
      ∧ (stopDecay s).radioJudge.suppressed = s.radioJudge.suppressed
      ∧ (stopDecay s).radioJudge.damping = s.radioJudge.damping
      ∧ (stopDecay s).radioJudge.handed = s.radioJudge.handed
      ∧ (stopDecay s).radioJudge.srtt = s.radioJudge.srtt
      ∧ (stopDecay s).radioJudge.table = s.radioJudge.table
      ∧ (stopDecay s).radioJudge.tag = s.radioJudge.tag := by simp [stopDecay]

@[simp] theorem haltCarrying_frame (s : State) :
    (haltCarrying s).home.linkUp = s.home.linkUp
      ∧ (haltCarrying s).home.delivery = s.home.delivery
      ∧ (haltCarrying s).lanes.supply = s.lanes.supply
      ∧ (haltCarrying s).pause.session = s.pause.session
      ∧ (haltCarrying s).pause.selector = s.pause.selector
      ∧ (haltCarrying s).session.status = s.session.status
      ∧ (haltCarrying s).session.epoch = s.session.epoch
      ∧ (haltCarrying s).sender.n = s.sender.n
      ∧ (haltCarrying s).sender.store = s.sender.store
      ∧ (haltCarrying s).sender.stream = s.sender.stream
      ∧ (haltCarrying s).receiver.e = s.receiver.e
      ∧ (haltCarrying s).receiver.discard = s.receiver.discard
      ∧ (haltCarrying s).receiver.attempts = s.receiver.attempts
      ∧ (haltCarrying s).receiver.marksFibre = s.receiver.marksFibre
      ∧ (haltCarrying s).receiver.marksRadio = s.receiver.marksRadio
      ∧ (haltCarrying s).fibre.linkUp = s.fibre.linkUp
      ∧ (haltCarrying s).fibre.leaving = s.fibre.leaving
      ∧ (haltCarrying s).fibreJudge.settings = s.fibreJudge.settings
      ∧ (haltCarrying s).fibreJudge.timer = s.fibreJudge.timer
      ∧ (haltCarrying s).fibreJudge.count = s.fibreJudge.count
      ∧ (haltCarrying s).fibreJudge.verdict = s.fibreJudge.verdict
      ∧ (haltCarrying s).fibreJudge.penalty = s.fibreJudge.penalty
      ∧ (haltCarrying s).fibreJudge.suppressed = s.fibreJudge.suppressed
      ∧ (haltCarrying s).fibreJudge.decay = s.fibreJudge.decay
      ∧ (haltCarrying s).fibreJudge.damping = s.fibreJudge.damping
      ∧ (haltCarrying s).fibreJudge.handed = s.fibreJudge.handed
      ∧ (haltCarrying s).fibreJudge.srtt = s.fibreJudge.srtt
      ∧ (haltCarrying s).fibreJudge.table = s.fibreJudge.table
      ∧ (haltCarrying s).fibreJudge.tag = s.fibreJudge.tag
      ∧ (haltCarrying s).radioJudge.settings = s.radioJudge.settings
      ∧ (haltCarrying s).radioJudge.timer = s.radioJudge.timer
      ∧ (haltCarrying s).radioJudge.count = s.radioJudge.count
      ∧ (haltCarrying s).radioJudge.verdict = s.radioJudge.verdict
      ∧ (haltCarrying s).radioJudge.penalty = s.radioJudge.penalty
      ∧ (haltCarrying s).radioJudge.suppressed = s.radioJudge.suppressed
      ∧ (haltCarrying s).radioJudge.decay = s.radioJudge.decay
      ∧ (haltCarrying s).radioJudge.damping = s.radioJudge.damping
      ∧ (haltCarrying s).radioJudge.handed = s.radioJudge.handed
      ∧ (haltCarrying s).radioJudge.srtt = s.radioJudge.srtt
      ∧ (haltCarrying s).radioJudge.table = s.radioJudge.table
      ∧ (haltCarrying s).radioJudge.tag = s.radioJudge.tag
      ∧ (haltCarrying s).selector.status = s.selector.status
      ∧ (haltCarrying s).selector.pin = s.selector.pin
      ∧ (haltCarrying s).selector.drainTimer = s.selector.drainTimer
      ∧ (haltCarrying s).selector.holdTimer = s.selector.holdTimer
      ∧ (haltCarrying s).selector.record = s.selector.record
      ∧ (haltCarrying s).selector.wanted = s.selector.wanted
      ∧ (haltCarrying s).radio.status = s.radio.status
      ∧ (haltCarrying s).radio.modPwr = s.radio.modPwr
      ∧ (haltCarrying s).radio.outstanding = s.radio.outstanding
      ∧ (haltCarrying s).radio.rounds = s.radio.rounds
      ∧ (haltCarrying s).radio.linger = s.radio.linger
      ∧ (haltCarrying s).radio.rest = s.radio.rest
      ∧ (haltCarrying s).radio.cause = s.radio.cause
      ∧ (haltCarrying s).radio.releaseDue = s.radio.releaseDue
      ∧ (haltCarrying s).radio.wantedHeld = s.radio.wantedHeld
      ∧ (haltCarrying s).radio.lastReading = s.radio.lastReading
      ∧ (haltCarrying s).radio.leaving = s.radio.leaving
      ∧ (haltCarrying s).radio.held = s.radio.held
      ∧ (haltCarrying s).radio.handshake = s.radio.handshake
      ∧ (haltCarrying s).radio.stallCount = s.radio.stallCount
      ∧ (haltCarrying s).radio.settings = s.radio.settings
      ∧ (haltCarrying s).link.rx = s.link.rx
      ∧ (haltCarrying s).link.rxTimer = s.link.rxTimer
      ∧ (haltCarrying s).link.inbound = s.link.inbound
      ∧ (haltCarrying s).link.outbound = s.link.outbound
      ∧ (haltCarrying s).link.sent = s.link.sent
      ∧ (haltCarrying s).link.resetTaken = s.link.resetTaken
      ∧ (haltCarrying s).events.flags = s.events.flags
      ∧ (haltCarrying s).events.mask = s.events.mask
      ∧ (haltCarrying s).events.mode = s.events.mode
      ∧ (haltCarrying s).events.noticeNumber = s.events.noticeNumber
      ∧ (haltCarrying s).events.attn = s.events.attn
      ∧ (haltCarrying s).counts.lane = s.counts.lane
      ∧ (haltCarrying s).counts.carry = s.counts.carry
      ∧ (haltCarrying s).counts.probeFibre = s.counts.probeFibre
      ∧ (haltCarrying s).counts.probeRadio = s.counts.probeRadio
      ∧ (haltCarrying s).counts.module = s.counts.module
      ∧ (haltCarrying s).counts.link = s.counts.link := by simp [haltCarrying]

@[simp] theorem endJudging_frame (b : Bearer) (s : State) :
    (endJudging b s).pending = s.pending
      ∧ (endJudging b s).clock = s.clock
      ∧ (endJudging b s).ties = s.ties
      ∧ (endJudging b s).resetHeld = s.resetHeld
      ∧ (endJudging b s).home = s.home
      ∧ (endJudging b s).classMap = s.classMap
      ∧ (endJudging b s).lanes = s.lanes
      ∧ (endJudging b s).carry = s.carry
      ∧ (endJudging b s).fibre = s.fibre
      ∧ (endJudging b s).sender.n = s.sender.n
      ∧ (endJudging b s).sender.store = s.sender.store
      ∧ (endJudging b s).receiver.e = s.receiver.e
      ∧ (endJudging b s).receiver.discard = s.receiver.discard
      ∧ (endJudging b s).receiver.marksFibre = s.receiver.marksFibre
      ∧ (endJudging b s).receiver.marksRadio = s.receiver.marksRadio
      ∧ (endJudging b s).fibreJudge.settings = s.fibreJudge.settings
      ∧ (endJudging b s).fibreJudge.penalty = s.fibreJudge.penalty
      ∧ (endJudging b s).fibreJudge.suppressed = s.fibreJudge.suppressed
      ∧ (endJudging b s).fibreJudge.decay = s.fibreJudge.decay
      ∧ (endJudging b s).fibreJudge.damping = s.fibreJudge.damping
      ∧ (endJudging b s).fibreJudge.tag = s.fibreJudge.tag
      ∧ (endJudging b s).radioJudge.settings = s.radioJudge.settings
      ∧ (endJudging b s).radioJudge.penalty = s.radioJudge.penalty
      ∧ (endJudging b s).radioJudge.suppressed = s.radioJudge.suppressed
      ∧ (endJudging b s).radioJudge.decay = s.radioJudge.decay
      ∧ (endJudging b s).radioJudge.damping = s.radioJudge.damping
      ∧ (endJudging b s).radioJudge.tag = s.radioJudge.tag
      ∧ (endJudging b s).selector.pin = s.selector.pin
      ∧ (endJudging b s).radio.rounds = s.radio.rounds
      ∧ (endJudging b s).radio.rest = s.radio.rest
      ∧ (endJudging b s).radio.lastReading = s.radio.lastReading
      ∧ (endJudging b s).radio.leaving = s.radio.leaving
      ∧ (endJudging b s).radio.stallCount = s.radio.stallCount
      ∧ (endJudging b s).radio.settings = s.radio.settings
      ∧ (endJudging b s).link.rx = s.link.rx
      ∧ (endJudging b s).link.rxTimer = s.link.rxTimer
      ∧ (endJudging b s).link.inbound = s.link.inbound
      ∧ (endJudging b s).link.sent = s.link.sent
      ∧ (endJudging b s).link.resetTaken = s.link.resetTaken
      ∧ (endJudging b s).events.mask = s.events.mask
      ∧ (endJudging b s).events.mode = s.events.mode
      ∧ (endJudging b s).events.attn = s.events.attn
      ∧ (endJudging b s).counts.lane = s.counts.lane
      ∧ (endJudging b s).counts.carry = s.counts.carry
      ∧ (endJudging b s).counts.probeFibre = s.counts.probeFibre
      ∧ (endJudging b s).counts.probeRadio = s.counts.probeRadio
      ∧ (endJudging b s).counts.module = s.counts.module := by simp [endJudging]

@[simp] theorem setPin_frame (p : PinValue) (s : State) :
    (setPin p s).pending = s.pending
      ∧ (setPin p s).clock = s.clock
      ∧ (setPin p s).ties = s.ties
      ∧ (setPin p s).resetHeld = s.resetHeld
      ∧ (setPin p s).home = s.home
      ∧ (setPin p s).classMap = s.classMap
      ∧ (setPin p s).lanes = s.lanes
      ∧ (setPin p s).pause = s.pause
      ∧ (setPin p s).session = s.session
      ∧ (setPin p s).sender = s.sender
      ∧ (setPin p s).receiver = s.receiver
      ∧ (setPin p s).carry = s.carry
      ∧ (setPin p s).fibre = s.fibre
      ∧ (setPin p s).fibreJudge = s.fibreJudge
      ∧ (setPin p s).radioJudge = s.radioJudge
      ∧ (setPin p s).radio = s.radio
      ∧ (setPin p s).link = s.link
      ∧ (setPin p s).events = s.events
      ∧ (setPin p s).counts = s.counts
      ∧ (setPin p s).selector.status = s.selector.status
      ∧ (setPin p s).selector.drainTimer = s.selector.drainTimer
      ∧ (setPin p s).selector.holdTimer = s.selector.holdTimer
      ∧ (setPin p s).selector.record = s.selector.record
      ∧ (setPin p s).selector.wanted = s.selector.wanted := by simp [setPin]

@[simp] theorem leaveBearer_frame (b : Bearer) (s : State) :
    (leaveBearer b s).pending = s.pending
      ∧ (leaveBearer b s).clock = s.clock
      ∧ (leaveBearer b s).ties = s.ties
      ∧ (leaveBearer b s).resetHeld = s.resetHeld
      ∧ (leaveBearer b s).home = s.home
      ∧ (leaveBearer b s).classMap = s.classMap
      ∧ (leaveBearer b s).lanes = s.lanes
      ∧ (leaveBearer b s).carry = s.carry
      ∧ (leaveBearer b s).fibre = s.fibre
      ∧ (leaveBearer b s).sender.n = s.sender.n
      ∧ (leaveBearer b s).sender.store = s.sender.store
      ∧ (leaveBearer b s).receiver.e = s.receiver.e
      ∧ (leaveBearer b s).receiver.discard = s.receiver.discard
      ∧ (leaveBearer b s).receiver.marksFibre = s.receiver.marksFibre
      ∧ (leaveBearer b s).receiver.marksRadio = s.receiver.marksRadio
      ∧ (leaveBearer b s).fibreJudge.settings = s.fibreJudge.settings
      ∧ (leaveBearer b s).fibreJudge.penalty = s.fibreJudge.penalty
      ∧ (leaveBearer b s).fibreJudge.suppressed = s.fibreJudge.suppressed
      ∧ (leaveBearer b s).fibreJudge.decay = s.fibreJudge.decay
      ∧ (leaveBearer b s).fibreJudge.damping = s.fibreJudge.damping
      ∧ (leaveBearer b s).fibreJudge.handed = s.fibreJudge.handed
      ∧ (leaveBearer b s).fibreJudge.tag = s.fibreJudge.tag
      ∧ (leaveBearer b s).radioJudge.settings = s.radioJudge.settings
      ∧ (leaveBearer b s).radioJudge.penalty = s.radioJudge.penalty
      ∧ (leaveBearer b s).radioJudge.suppressed = s.radioJudge.suppressed
      ∧ (leaveBearer b s).radioJudge.decay = s.radioJudge.decay
      ∧ (leaveBearer b s).radioJudge.damping = s.radioJudge.damping
      ∧ (leaveBearer b s).radioJudge.tag = s.radioJudge.tag
      ∧ (leaveBearer b s).selector.pin = s.selector.pin
      ∧ (leaveBearer b s).radio.rounds = s.radio.rounds
      ∧ (leaveBearer b s).radio.rest = s.radio.rest
      ∧ (leaveBearer b s).radio.lastReading = s.radio.lastReading
      ∧ (leaveBearer b s).radio.leaving = s.radio.leaving
      ∧ (leaveBearer b s).radio.stallCount = s.radio.stallCount
      ∧ (leaveBearer b s).radio.settings = s.radio.settings
      ∧ (leaveBearer b s).link.rx = s.link.rx
      ∧ (leaveBearer b s).link.rxTimer = s.link.rxTimer
      ∧ (leaveBearer b s).link.inbound = s.link.inbound
      ∧ (leaveBearer b s).link.sent = s.link.sent
      ∧ (leaveBearer b s).link.resetTaken = s.link.resetTaken
      ∧ (leaveBearer b s).events.mask = s.events.mask
      ∧ (leaveBearer b s).events.mode = s.events.mode
      ∧ (leaveBearer b s).events.attn = s.events.attn
      ∧ (leaveBearer b s).counts.lane = s.counts.lane
      ∧ (leaveBearer b s).counts.carry = s.counts.carry
      ∧ (leaveBearer b s).counts.probeFibre = s.counts.probeFibre
      ∧ (leaveBearer b s).counts.probeRadio = s.counts.probeRadio
      ∧ (leaveBearer b s).counts.module = s.counts.module := by
  simp only [leaveBearer]
  split <;> simp

@[simp] theorem pinAction_frame (p : PinValue) (s : State) :
    (pinAction p s).pending = s.pending
      ∧ (pinAction p s).clock = s.clock
      ∧ (pinAction p s).ties = s.ties
      ∧ (pinAction p s).resetHeld = s.resetHeld
      ∧ (pinAction p s).home = s.home
      ∧ (pinAction p s).classMap = s.classMap
      ∧ (pinAction p s).lanes = s.lanes
      ∧ (pinAction p s).carry = s.carry
      ∧ (pinAction p s).fibre = s.fibre
      ∧ (pinAction p s).sender.n = s.sender.n
      ∧ (pinAction p s).sender.store = s.sender.store
      ∧ (pinAction p s).receiver.e = s.receiver.e
      ∧ (pinAction p s).receiver.discard = s.receiver.discard
      ∧ (pinAction p s).receiver.marksFibre = s.receiver.marksFibre
      ∧ (pinAction p s).receiver.marksRadio = s.receiver.marksRadio
      ∧ (pinAction p s).fibreJudge.settings = s.fibreJudge.settings
      ∧ (pinAction p s).fibreJudge.penalty = s.fibreJudge.penalty
      ∧ (pinAction p s).fibreJudge.suppressed = s.fibreJudge.suppressed
      ∧ (pinAction p s).fibreJudge.decay = s.fibreJudge.decay
      ∧ (pinAction p s).fibreJudge.damping = s.fibreJudge.damping
      ∧ (pinAction p s).fibreJudge.handed = s.fibreJudge.handed
      ∧ (pinAction p s).fibreJudge.tag = s.fibreJudge.tag
      ∧ (pinAction p s).radioJudge.settings = s.radioJudge.settings
      ∧ (pinAction p s).radioJudge.penalty = s.radioJudge.penalty
      ∧ (pinAction p s).radioJudge.suppressed = s.radioJudge.suppressed
      ∧ (pinAction p s).radioJudge.decay = s.radioJudge.decay
      ∧ (pinAction p s).radioJudge.damping = s.radioJudge.damping
      ∧ (pinAction p s).radioJudge.tag = s.radioJudge.tag
      ∧ (pinAction p s).selector.pin = s.selector.pin
      ∧ (pinAction p s).radio.rounds = s.radio.rounds
      ∧ (pinAction p s).radio.rest = s.radio.rest
      ∧ (pinAction p s).radio.lastReading = s.radio.lastReading
      ∧ (pinAction p s).radio.leaving = s.radio.leaving
      ∧ (pinAction p s).radio.stallCount = s.radio.stallCount
      ∧ (pinAction p s).radio.settings = s.radio.settings
      ∧ (pinAction p s).link.rx = s.link.rx
      ∧ (pinAction p s).link.rxTimer = s.link.rxTimer
      ∧ (pinAction p s).link.inbound = s.link.inbound
      ∧ (pinAction p s).link.sent = s.link.sent
      ∧ (pinAction p s).link.resetTaken = s.link.resetTaken
      ∧ (pinAction p s).events.mask = s.events.mask
      ∧ (pinAction p s).events.mode = s.events.mode
      ∧ (pinAction p s).events.attn = s.events.attn
      ∧ (pinAction p s).counts.lane = s.counts.lane
      ∧ (pinAction p s).counts.carry = s.counts.carry
      ∧ (pinAction p s).counts.probeFibre = s.counts.probeFibre
      ∧ (pinAction p s).counts.probeRadio = s.counts.probeRadio
      ∧ (pinAction p s).counts.module = s.counts.module := by
  simp only [pinAction]
  (repeat' split) <;> simp

@[simp] theorem takePin_frame (p : PinValue) (s : State) :
    (takePin p s).pending = s.pending
      ∧ (takePin p s).clock = s.clock
      ∧ (takePin p s).ties = s.ties
      ∧ (takePin p s).resetHeld = s.resetHeld
      ∧ (takePin p s).home = s.home
      ∧ (takePin p s).classMap = s.classMap
      ∧ (takePin p s).lanes = s.lanes
      ∧ (takePin p s).carry = s.carry
      ∧ (takePin p s).fibre = s.fibre
      ∧ (takePin p s).sender.n = s.sender.n
      ∧ (takePin p s).sender.store = s.sender.store
      ∧ (takePin p s).receiver.e = s.receiver.e
      ∧ (takePin p s).receiver.discard = s.receiver.discard
      ∧ (takePin p s).receiver.marksFibre = s.receiver.marksFibre
      ∧ (takePin p s).receiver.marksRadio = s.receiver.marksRadio
      ∧ (takePin p s).fibreJudge.settings = s.fibreJudge.settings
      ∧ (takePin p s).fibreJudge.penalty = s.fibreJudge.penalty
      ∧ (takePin p s).fibreJudge.suppressed = s.fibreJudge.suppressed
      ∧ (takePin p s).fibreJudge.decay = s.fibreJudge.decay
      ∧ (takePin p s).fibreJudge.damping = s.fibreJudge.damping
      ∧ (takePin p s).fibreJudge.tag = s.fibreJudge.tag
      ∧ (takePin p s).radioJudge.settings = s.radioJudge.settings
      ∧ (takePin p s).radioJudge.penalty = s.radioJudge.penalty
      ∧ (takePin p s).radioJudge.suppressed = s.radioJudge.suppressed
      ∧ (takePin p s).radioJudge.decay = s.radioJudge.decay
      ∧ (takePin p s).radioJudge.damping = s.radioJudge.damping
      ∧ (takePin p s).radioJudge.tag = s.radioJudge.tag
      ∧ (takePin p s).radio.rounds = s.radio.rounds
      ∧ (takePin p s).radio.rest = s.radio.rest
      ∧ (takePin p s).radio.lastReading = s.radio.lastReading
      ∧ (takePin p s).radio.leaving = s.radio.leaving
      ∧ (takePin p s).radio.stallCount = s.radio.stallCount
      ∧ (takePin p s).radio.settings = s.radio.settings
      ∧ (takePin p s).link.rx = s.link.rx
      ∧ (takePin p s).link.rxTimer = s.link.rxTimer
      ∧ (takePin p s).link.inbound = s.link.inbound
      ∧ (takePin p s).link.sent = s.link.sent
      ∧ (takePin p s).link.resetTaken = s.link.resetTaken
      ∧ (takePin p s).events.mask = s.events.mask
      ∧ (takePin p s).events.mode = s.events.mode
      ∧ (takePin p s).events.attn = s.events.attn
      ∧ (takePin p s).counts.lane = s.counts.lane
      ∧ (takePin p s).counts.carry = s.counts.carry
      ∧ (takePin p s).counts.probeFibre = s.counts.probeFibre
      ∧ (takePin p s).counts.probeRadio = s.counts.probeRadio
      ∧ (takePin p s).counts.module = s.counts.module := by
  simp only [takePin]
  (repeat' split) <;> simp

@[simp] theorem offerRequest_frame (r : Request) (s : State) :
    (offerRequest r s).pending = s.pending
      ∧ (offerRequest r s).clock = s.clock
      ∧ (offerRequest r s).ties = s.ties
      ∧ (offerRequest r s).resetHeld = s.resetHeld
      ∧ (offerRequest r s).home = s.home
      ∧ (offerRequest r s).classMap = s.classMap
      ∧ (offerRequest r s).lanes = s.lanes
      ∧ (offerRequest r s).pause = s.pause
      ∧ (offerRequest r s).session = s.session
      ∧ (offerRequest r s).sender = s.sender
      ∧ (offerRequest r s).receiver = s.receiver
      ∧ (offerRequest r s).carry = s.carry
      ∧ (offerRequest r s).fibre = s.fibre
      ∧ (offerRequest r s).fibreJudge = s.fibreJudge
      ∧ (offerRequest r s).radioJudge = s.radioJudge
      ∧ (offerRequest r s).selector = s.selector
      ∧ (offerRequest r s).radio = s.radio
      ∧ (offerRequest r s).link.rx = s.link.rx
      ∧ (offerRequest r s).link.rxTimer = s.link.rxTimer
      ∧ (offerRequest r s).link.sent = s.link.sent
      ∧ (offerRequest r s).link.resetTaken = s.link.resetTaken
      ∧ (offerRequest r s).events.mask = s.events.mask
      ∧ (offerRequest r s).events.mode = s.events.mode
      ∧ (offerRequest r s).events.attn = s.events.attn
      ∧ (offerRequest r s).counts.lane = s.counts.lane
      ∧ (offerRequest r s).counts.carry = s.counts.carry
      ∧ (offerRequest r s).counts.probeFibre = s.counts.probeFibre
      ∧ (offerRequest r s).counts.probeRadio = s.counts.probeRadio
      ∧ (offerRequest r s).counts.module = s.counts.module := by
  simp only [offerRequest]
  split <;> simp

@[simp] theorem fibreLinkLost_frame (s : State) :
    (fibreLinkLost s).pending = s.pending
      ∧ (fibreLinkLost s).clock = s.clock
      ∧ (fibreLinkLost s).ties = s.ties
      ∧ (fibreLinkLost s).resetHeld = s.resetHeld
      ∧ (fibreLinkLost s).home = s.home
      ∧ (fibreLinkLost s).classMap = s.classMap
      ∧ (fibreLinkLost s).lanes = s.lanes
      ∧ (fibreLinkLost s).carry = s.carry
      ∧ (fibreLinkLost s).sender.n = s.sender.n
      ∧ (fibreLinkLost s).sender.store = s.sender.store
      ∧ (fibreLinkLost s).receiver.e = s.receiver.e
      ∧ (fibreLinkLost s).receiver.discard = s.receiver.discard
      ∧ (fibreLinkLost s).receiver.marksFibre = s.receiver.marksFibre
      ∧ (fibreLinkLost s).receiver.marksRadio = s.receiver.marksRadio
      ∧ (fibreLinkLost s).fibre.leaving = s.fibre.leaving
      ∧ (fibreLinkLost s).selector.pin = s.selector.pin
      ∧ (fibreLinkLost s).radio.rounds = s.radio.rounds
      ∧ (fibreLinkLost s).radio.rest = s.radio.rest
      ∧ (fibreLinkLost s).radio.lastReading = s.radio.lastReading
      ∧ (fibreLinkLost s).radio.leaving = s.radio.leaving
      ∧ (fibreLinkLost s).radio.stallCount = s.radio.stallCount
      ∧ (fibreLinkLost s).radio.settings = s.radio.settings
      ∧ (fibreLinkLost s).link.rx = s.link.rx
      ∧ (fibreLinkLost s).link.rxTimer = s.link.rxTimer
      ∧ (fibreLinkLost s).link.inbound = s.link.inbound
      ∧ (fibreLinkLost s).link.sent = s.link.sent
      ∧ (fibreLinkLost s).link.resetTaken = s.link.resetTaken
      ∧ (fibreLinkLost s).events.mask = s.events.mask
      ∧ (fibreLinkLost s).events.mode = s.events.mode
      ∧ (fibreLinkLost s).events.attn = s.events.attn
      ∧ (fibreLinkLost s).counts.lane = s.counts.lane
      ∧ (fibreLinkLost s).counts.carry = s.counts.carry
      ∧ (fibreLinkLost s).counts.probeFibre = s.counts.probeFibre
      ∧ (fibreLinkLost s).counts.probeRadio = s.counts.probeRadio
      ∧ (fibreLinkLost s).counts.module = s.counts.module := by
  simp only [fibreLinkLost]
  split <;> simp

@[simp] theorem tallyExpires_frame (s : State) :
    (tallyExpires s).pending = s.pending
      ∧ (tallyExpires s).ties = s.ties
      ∧ (tallyExpires s).resetHeld = s.resetHeld
      ∧ (tallyExpires s).home = s.home
      ∧ (tallyExpires s).classMap = s.classMap
      ∧ (tallyExpires s).lanes = s.lanes
      ∧ (tallyExpires s).pause = s.pause
      ∧ (tallyExpires s).session = s.session
      ∧ (tallyExpires s).receiver = s.receiver
      ∧ (tallyExpires s).carry = s.carry
      ∧ (tallyExpires s).fibre = s.fibre
      ∧ (tallyExpires s).fibreJudge = s.fibreJudge
      ∧ (tallyExpires s).radioJudge = s.radioJudge
      ∧ (tallyExpires s).selector = s.selector
      ∧ (tallyExpires s).radio = s.radio
      ∧ (tallyExpires s).link = s.link
      ∧ (tallyExpires s).events = s.events
      ∧ (tallyExpires s).counts = s.counts
      ∧ (tallyExpires s).sender.n = s.sender.n
      ∧ (tallyExpires s).sender.store = s.sender.store
      ∧ (tallyExpires s).sender.tallyOwed = s.sender.tallyOwed
      ∧ (tallyExpires s).sender.stream = s.sender.stream
      ∧ (tallyExpires s).sender.rewindPending = s.sender.rewindPending
      ∧ (tallyExpires s).sender.announcePending = s.sender.announcePending
      ∧ (tallyExpires s).sender.pass = s.sender.pass
      ∧ (tallyExpires s).sender.cursor = s.sender.cursor
      ∧ (tallyExpires s).sender.passStopping = s.sender.passStopping
      ∧ (tallyExpires s).sender.passOwed = s.sender.passOwed := by
  simp only [tallyExpires]
  (repeat' split) <;> simp

@[simp] theorem retryExpires_frame (s : State) :
    (retryExpires s).pending = s.pending
      ∧ (retryExpires s).ties = s.ties
      ∧ (retryExpires s).resetHeld = s.resetHeld
      ∧ (retryExpires s).home = s.home
      ∧ (retryExpires s).classMap = s.classMap
      ∧ (retryExpires s).lanes = s.lanes
      ∧ (retryExpires s).pause = s.pause
      ∧ (retryExpires s).receiver = s.receiver
      ∧ (retryExpires s).carry = s.carry
      ∧ (retryExpires s).fibre = s.fibre
      ∧ (retryExpires s).fibreJudge = s.fibreJudge
      ∧ (retryExpires s).radioJudge = s.radioJudge
      ∧ (retryExpires s).selector = s.selector
      ∧ (retryExpires s).radio = s.radio
      ∧ (retryExpires s).link = s.link
      ∧ (retryExpires s).events = s.events
      ∧ (retryExpires s).counts = s.counts
      ∧ (retryExpires s).session.status = s.session.status
      ∧ (retryExpires s).session.epoch = s.session.epoch
      ∧ (retryExpires s).sender.n = s.sender.n
      ∧ (retryExpires s).sender.store = s.sender.store
      ∧ (retryExpires s).sender.tallyOwed = s.sender.tallyOwed
      ∧ (retryExpires s).sender.tallyTimer = s.sender.tallyTimer
      ∧ (retryExpires s).sender.stream = s.sender.stream
      ∧ (retryExpires s).sender.rewindPending = s.sender.rewindPending
      ∧ (retryExpires s).sender.announcePending = s.sender.announcePending
      ∧ (retryExpires s).sender.pass = s.sender.pass
      ∧ (retryExpires s).sender.cursor = s.sender.cursor
      ∧ (retryExpires s).sender.passStopping = s.sender.passStopping
      ∧ (retryExpires s).sender.passOwed = s.sender.passOwed := by
  simp only [retryExpires]
  (repeat' split) <;> simp

@[simp] theorem rewindExhausted_frame (s : State) :
    (rewindExhausted s).pending = s.pending
      ∧ (rewindExhausted s).clock = s.clock
      ∧ (rewindExhausted s).ties = s.ties
      ∧ (rewindExhausted s).resetHeld = s.resetHeld
      ∧ (rewindExhausted s).home = s.home
      ∧ (rewindExhausted s).classMap = s.classMap
      ∧ (rewindExhausted s).lanes = s.lanes
      ∧ (rewindExhausted s).carry = s.carry
      ∧ (rewindExhausted s).fibre = s.fibre
      ∧ (rewindExhausted s).sender.n = s.sender.n
      ∧ (rewindExhausted s).sender.store = s.sender.store
      ∧ (rewindExhausted s).receiver.e = s.receiver.e
      ∧ (rewindExhausted s).receiver.discard = s.receiver.discard
      ∧ (rewindExhausted s).receiver.marksFibre = s.receiver.marksFibre
      ∧ (rewindExhausted s).receiver.marksRadio = s.receiver.marksRadio
      ∧ (rewindExhausted s).selector.pin = s.selector.pin
      ∧ (rewindExhausted s).radio.rounds = s.radio.rounds
      ∧ (rewindExhausted s).radio.rest = s.radio.rest
      ∧ (rewindExhausted s).radio.lastReading = s.radio.lastReading
      ∧ (rewindExhausted s).radio.leaving = s.radio.leaving
      ∧ (rewindExhausted s).radio.stallCount = s.radio.stallCount
      ∧ (rewindExhausted s).radio.settings = s.radio.settings
      ∧ (rewindExhausted s).link.rx = s.link.rx
      ∧ (rewindExhausted s).link.rxTimer = s.link.rxTimer
      ∧ (rewindExhausted s).link.inbound = s.link.inbound
      ∧ (rewindExhausted s).link.sent = s.link.sent
      ∧ (rewindExhausted s).link.resetTaken = s.link.resetTaken
      ∧ (rewindExhausted s).events.mask = s.events.mask
      ∧ (rewindExhausted s).events.mode = s.events.mode
      ∧ (rewindExhausted s).events.attn = s.events.attn
      ∧ (rewindExhausted s).counts.lane = s.counts.lane
      ∧ (rewindExhausted s).counts.probeFibre = s.counts.probeFibre
      ∧ (rewindExhausted s).counts.probeRadio = s.counts.probeRadio
      ∧ (rewindExhausted s).counts.module = s.counts.module := by
  simp only [rewindExhausted]
  split <;> simp

@[simp] theorem rewindExpires_frame (s : State) :
    (rewindExpires s).pending = s.pending
      ∧ (rewindExpires s).ties = s.ties
      ∧ (rewindExpires s).resetHeld = s.resetHeld
      ∧ (rewindExpires s).home = s.home
      ∧ (rewindExpires s).classMap = s.classMap
      ∧ (rewindExpires s).lanes = s.lanes
      ∧ (rewindExpires s).carry = s.carry
      ∧ (rewindExpires s).fibre = s.fibre
      ∧ (rewindExpires s).sender.n = s.sender.n
      ∧ (rewindExpires s).sender.store = s.sender.store
      ∧ (rewindExpires s).receiver.e = s.receiver.e
      ∧ (rewindExpires s).receiver.discard = s.receiver.discard
      ∧ (rewindExpires s).receiver.marksFibre = s.receiver.marksFibre
      ∧ (rewindExpires s).receiver.marksRadio = s.receiver.marksRadio
      ∧ (rewindExpires s).selector.pin = s.selector.pin
      ∧ (rewindExpires s).radio.rounds = s.radio.rounds
      ∧ (rewindExpires s).radio.rest = s.radio.rest
      ∧ (rewindExpires s).radio.lastReading = s.radio.lastReading
      ∧ (rewindExpires s).radio.leaving = s.radio.leaving
      ∧ (rewindExpires s).radio.stallCount = s.radio.stallCount
      ∧ (rewindExpires s).radio.settings = s.radio.settings
      ∧ (rewindExpires s).link.rx = s.link.rx
      ∧ (rewindExpires s).link.rxTimer = s.link.rxTimer
      ∧ (rewindExpires s).link.inbound = s.link.inbound
      ∧ (rewindExpires s).link.sent = s.link.sent
      ∧ (rewindExpires s).link.resetTaken = s.link.resetTaken
      ∧ (rewindExpires s).events.mask = s.events.mask
      ∧ (rewindExpires s).events.mode = s.events.mode
      ∧ (rewindExpires s).events.attn = s.events.attn
      ∧ (rewindExpires s).counts.lane = s.counts.lane
      ∧ (rewindExpires s).counts.probeFibre = s.counts.probeFibre
      ∧ (rewindExpires s).counts.probeRadio = s.counts.probeRadio
      ∧ (rewindExpires s).counts.module = s.counts.module := by
  simp only [rewindExpires]
  (repeat' split) <;> simp

@[simp] theorem holdExpires_frame (s : State) :
    (holdExpires s).pending = s.pending
      ∧ (holdExpires s).ties = s.ties
      ∧ (holdExpires s).resetHeld = s.resetHeld
      ∧ (holdExpires s).home = s.home
      ∧ (holdExpires s).classMap = s.classMap
      ∧ (holdExpires s).lanes = s.lanes
      ∧ (holdExpires s).carry = s.carry
      ∧ (holdExpires s).fibre = s.fibre
      ∧ (holdExpires s).sender.n = s.sender.n
      ∧ (holdExpires s).sender.store = s.sender.store
      ∧ (holdExpires s).receiver.e = s.receiver.e
      ∧ (holdExpires s).receiver.discard = s.receiver.discard
      ∧ (holdExpires s).receiver.marksFibre = s.receiver.marksFibre
      ∧ (holdExpires s).receiver.marksRadio = s.receiver.marksRadio
      ∧ (holdExpires s).fibreJudge.settings = s.fibreJudge.settings
      ∧ (holdExpires s).fibreJudge.penalty = s.fibreJudge.penalty
      ∧ (holdExpires s).fibreJudge.suppressed = s.fibreJudge.suppressed
      ∧ (holdExpires s).fibreJudge.decay = s.fibreJudge.decay
      ∧ (holdExpires s).fibreJudge.damping = s.fibreJudge.damping
      ∧ (holdExpires s).fibreJudge.handed = s.fibreJudge.handed
      ∧ (holdExpires s).fibreJudge.tag = s.fibreJudge.tag
      ∧ (holdExpires s).radioJudge.settings = s.radioJudge.settings
      ∧ (holdExpires s).radioJudge.penalty = s.radioJudge.penalty
      ∧ (holdExpires s).radioJudge.suppressed = s.radioJudge.suppressed
      ∧ (holdExpires s).radioJudge.decay = s.radioJudge.decay
      ∧ (holdExpires s).radioJudge.damping = s.radioJudge.damping
      ∧ (holdExpires s).radioJudge.tag = s.radioJudge.tag
      ∧ (holdExpires s).selector.pin = s.selector.pin
      ∧ (holdExpires s).radio.rounds = s.radio.rounds
      ∧ (holdExpires s).radio.rest = s.radio.rest
      ∧ (holdExpires s).radio.lastReading = s.radio.lastReading
      ∧ (holdExpires s).radio.leaving = s.radio.leaving
      ∧ (holdExpires s).radio.stallCount = s.radio.stallCount
      ∧ (holdExpires s).radio.settings = s.radio.settings
      ∧ (holdExpires s).link.rx = s.link.rx
      ∧ (holdExpires s).link.rxTimer = s.link.rxTimer
      ∧ (holdExpires s).link.inbound = s.link.inbound
      ∧ (holdExpires s).link.sent = s.link.sent
      ∧ (holdExpires s).link.resetTaken = s.link.resetTaken
      ∧ (holdExpires s).events.mask = s.events.mask
      ∧ (holdExpires s).events.mode = s.events.mode
      ∧ (holdExpires s).events.attn = s.events.attn
      ∧ (holdExpires s).counts.lane = s.counts.lane
      ∧ (holdExpires s).counts.carry = s.counts.carry
      ∧ (holdExpires s).counts.probeFibre = s.counts.probeFibre
      ∧ (holdExpires s).counts.probeRadio = s.counts.probeRadio
      ∧ (holdExpires s).counts.module = s.counts.module := by
  simp only [holdExpires]
  (repeat' split) <;> simp

@[simp] theorem drainExpires_frame (s : State) :
    (drainExpires s).pending = s.pending
      ∧ (drainExpires s).ties = s.ties
      ∧ (drainExpires s).resetHeld = s.resetHeld
      ∧ (drainExpires s).home = s.home
      ∧ (drainExpires s).classMap = s.classMap
      ∧ (drainExpires s).lanes = s.lanes
      ∧ (drainExpires s).carry = s.carry
      ∧ (drainExpires s).fibre = s.fibre
      ∧ (drainExpires s).sender.n = s.sender.n
      ∧ (drainExpires s).sender.store = s.sender.store
      ∧ (drainExpires s).receiver.e = s.receiver.e
      ∧ (drainExpires s).receiver.discard = s.receiver.discard
      ∧ (drainExpires s).receiver.marksFibre = s.receiver.marksFibre
      ∧ (drainExpires s).receiver.marksRadio = s.receiver.marksRadio
      ∧ (drainExpires s).fibreJudge.settings = s.fibreJudge.settings
      ∧ (drainExpires s).fibreJudge.penalty = s.fibreJudge.penalty
      ∧ (drainExpires s).fibreJudge.suppressed = s.fibreJudge.suppressed
      ∧ (drainExpires s).fibreJudge.decay = s.fibreJudge.decay
      ∧ (drainExpires s).fibreJudge.damping = s.fibreJudge.damping
      ∧ (drainExpires s).fibreJudge.handed = s.fibreJudge.handed
      ∧ (drainExpires s).fibreJudge.tag = s.fibreJudge.tag
      ∧ (drainExpires s).radioJudge.settings = s.radioJudge.settings
      ∧ (drainExpires s).radioJudge.penalty = s.radioJudge.penalty
      ∧ (drainExpires s).radioJudge.suppressed = s.radioJudge.suppressed
      ∧ (drainExpires s).radioJudge.decay = s.radioJudge.decay
      ∧ (drainExpires s).radioJudge.damping = s.radioJudge.damping
      ∧ (drainExpires s).radioJudge.tag = s.radioJudge.tag
      ∧ (drainExpires s).selector.pin = s.selector.pin
      ∧ (drainExpires s).radio.rounds = s.radio.rounds
      ∧ (drainExpires s).radio.rest = s.radio.rest
      ∧ (drainExpires s).radio.lastReading = s.radio.lastReading
      ∧ (drainExpires s).radio.leaving = s.radio.leaving
      ∧ (drainExpires s).radio.stallCount = s.radio.stallCount
      ∧ (drainExpires s).radio.settings = s.radio.settings
      ∧ (drainExpires s).link.rx = s.link.rx
      ∧ (drainExpires s).link.rxTimer = s.link.rxTimer
      ∧ (drainExpires s).link.inbound = s.link.inbound
      ∧ (drainExpires s).link.sent = s.link.sent
      ∧ (drainExpires s).link.resetTaken = s.link.resetTaken
      ∧ (drainExpires s).events.mask = s.events.mask
      ∧ (drainExpires s).events.mode = s.events.mode
      ∧ (drainExpires s).events.attn = s.events.attn
      ∧ (drainExpires s).counts.lane = s.counts.lane
      ∧ (drainExpires s).counts.carry = s.counts.carry
      ∧ (drainExpires s).counts.probeFibre = s.counts.probeFibre
      ∧ (drainExpires s).counts.probeRadio = s.counts.probeRadio
      ∧ (drainExpires s).counts.module = s.counts.module := by
  simp only [drainExpires]
  (repeat' split) <;> simp

@[simp] theorem poweredTaken_frame (s : State) :
    (poweredTaken s).pending = s.pending
      ∧ (poweredTaken s).clock = s.clock
      ∧ (poweredTaken s).ties = s.ties
      ∧ (poweredTaken s).resetHeld = s.resetHeld
      ∧ (poweredTaken s).home = s.home
      ∧ (poweredTaken s).classMap = s.classMap
      ∧ (poweredTaken s).lanes = s.lanes
      ∧ (poweredTaken s).pause = s.pause
      ∧ (poweredTaken s).session = s.session
      ∧ (poweredTaken s).sender = s.sender
      ∧ (poweredTaken s).receiver = s.receiver
      ∧ (poweredTaken s).carry = s.carry
      ∧ (poweredTaken s).fibre = s.fibre
      ∧ (poweredTaken s).fibreJudge = s.fibreJudge
      ∧ (poweredTaken s).radioJudge = s.radioJudge
      ∧ (poweredTaken s).selector = s.selector
      ∧ (poweredTaken s).link = s.link
      ∧ (poweredTaken s).events = s.events
      ∧ (poweredTaken s).radio.modPwr = s.radio.modPwr
      ∧ (poweredTaken s).radio.linger = s.radio.linger
      ∧ (poweredTaken s).radio.rest = s.radio.rest
      ∧ (poweredTaken s).radio.cause = s.radio.cause
      ∧ (poweredTaken s).radio.releaseDue = s.radio.releaseDue
      ∧ (poweredTaken s).radio.wantedHeld = s.radio.wantedHeld
      ∧ (poweredTaken s).radio.lastReading = s.radio.lastReading
      ∧ (poweredTaken s).radio.leaving = s.radio.leaving
      ∧ (poweredTaken s).radio.held = s.radio.held
      ∧ (poweredTaken s).radio.handshake = s.radio.handshake
      ∧ (poweredTaken s).radio.stallCount = s.radio.stallCount
      ∧ (poweredTaken s).radio.settings = s.radio.settings
      ∧ (poweredTaken s).counts.lane = s.counts.lane
      ∧ (poweredTaken s).counts.carry = s.counts.carry
      ∧ (poweredTaken s).counts.probeFibre = s.counts.probeFibre
      ∧ (poweredTaken s).counts.probeRadio = s.counts.probeRadio
      ∧ (poweredTaken s).counts.link = s.counts.link := by
  simp only [poweredTaken]
  split <;> simp

@[simp] theorem attachedTaken_frame (s : State) :
    (attachedTaken s).pending = s.pending
      ∧ (attachedTaken s).clock = s.clock
      ∧ (attachedTaken s).resetHeld = s.resetHeld
      ∧ (attachedTaken s).home = s.home
      ∧ (attachedTaken s).classMap = s.classMap
      ∧ (attachedTaken s).lanes = s.lanes
      ∧ (attachedTaken s).session = s.session
      ∧ (attachedTaken s).receiver = s.receiver
      ∧ (attachedTaken s).carry = s.carry
      ∧ (attachedTaken s).fibre = s.fibre
      ∧ (attachedTaken s).selector = s.selector
      ∧ (attachedTaken s).pause.session = s.pause.session
      ∧ (attachedTaken s).pause.selector = s.pause.selector
      ∧ (attachedTaken s).pause.pass = s.pause.pass
      ∧ (attachedTaken s).sender.n = s.sender.n
      ∧ (attachedTaken s).sender.store = s.sender.store
      ∧ (attachedTaken s).sender.tallyOwed = s.sender.tallyOwed
      ∧ (attachedTaken s).sender.tallyTimer = s.sender.tallyTimer
      ∧ (attachedTaken s).sender.rewindPending = s.sender.rewindPending
      ∧ (attachedTaken s).sender.announcePending = s.sender.announcePending
      ∧ (attachedTaken s).sender.pass = s.sender.pass
      ∧ (attachedTaken s).sender.cursor = s.sender.cursor
      ∧ (attachedTaken s).sender.passStopping = s.sender.passStopping
      ∧ (attachedTaken s).sender.passOwed = s.sender.passOwed
      ∧ (attachedTaken s).fibreJudge.settings = s.fibreJudge.settings
      ∧ (attachedTaken s).fibreJudge.penalty = s.fibreJudge.penalty
      ∧ (attachedTaken s).fibreJudge.suppressed = s.fibreJudge.suppressed
      ∧ (attachedTaken s).fibreJudge.decay = s.fibreJudge.decay
      ∧ (attachedTaken s).fibreJudge.damping = s.fibreJudge.damping
      ∧ (attachedTaken s).fibreJudge.handed = s.fibreJudge.handed
      ∧ (attachedTaken s).radioJudge.settings = s.radioJudge.settings
      ∧ (attachedTaken s).radioJudge.penalty = s.radioJudge.penalty
      ∧ (attachedTaken s).radioJudge.suppressed = s.radioJudge.suppressed
      ∧ (attachedTaken s).radioJudge.decay = s.radioJudge.decay
      ∧ (attachedTaken s).radioJudge.damping = s.radioJudge.damping
      ∧ (attachedTaken s).radioJudge.handed = s.radioJudge.handed
      ∧ (attachedTaken s).radio.modPwr = s.radio.modPwr
      ∧ (attachedTaken s).radio.rounds = s.radio.rounds
      ∧ (attachedTaken s).radio.rest = s.radio.rest
      ∧ (attachedTaken s).radio.wantedHeld = s.radio.wantedHeld
      ∧ (attachedTaken s).radio.lastReading = s.radio.lastReading
      ∧ (attachedTaken s).radio.leaving = s.radio.leaving
      ∧ (attachedTaken s).radio.settings = s.radio.settings
      ∧ (attachedTaken s).link.rx = s.link.rx
      ∧ (attachedTaken s).link.rxTimer = s.link.rxTimer
      ∧ (attachedTaken s).link.inbound = s.link.inbound
      ∧ (attachedTaken s).link.sent = s.link.sent
      ∧ (attachedTaken s).link.resetTaken = s.link.resetTaken
      ∧ (attachedTaken s).events.mask = s.events.mask
      ∧ (attachedTaken s).events.mode = s.events.mode
      ∧ (attachedTaken s).events.attn = s.events.attn
      ∧ (attachedTaken s).counts.lane = s.counts.lane
      ∧ (attachedTaken s).counts.carry = s.counts.carry
      ∧ (attachedTaken s).counts.probeFibre = s.counts.probeFibre
      ∧ (attachedTaken s).counts.probeRadio = s.counts.probeRadio
      ∧ (attachedTaken s).counts.module = s.counts.module := by
  simp only [attachedTaken]
  split <;> simp

@[simp] theorem roundFails_frame (s : State) :
    (roundFails s).pending = s.pending
      ∧ (roundFails s).clock = s.clock
      ∧ (roundFails s).ties = s.ties
      ∧ (roundFails s).resetHeld = s.resetHeld
      ∧ (roundFails s).home = s.home
      ∧ (roundFails s).classMap = s.classMap
      ∧ (roundFails s).lanes = s.lanes
      ∧ (roundFails s).session = s.session
      ∧ (roundFails s).receiver = s.receiver
      ∧ (roundFails s).carry = s.carry
      ∧ (roundFails s).fibre = s.fibre
      ∧ (roundFails s).selector = s.selector
      ∧ (roundFails s).pause.session = s.pause.session
      ∧ (roundFails s).pause.selector = s.pause.selector
      ∧ (roundFails s).pause.pass = s.pause.pass
      ∧ (roundFails s).sender.n = s.sender.n
      ∧ (roundFails s).sender.store = s.sender.store
      ∧ (roundFails s).sender.tallyOwed = s.sender.tallyOwed
      ∧ (roundFails s).sender.tallyTimer = s.sender.tallyTimer
      ∧ (roundFails s).sender.rewindPending = s.sender.rewindPending
      ∧ (roundFails s).sender.announcePending = s.sender.announcePending
      ∧ (roundFails s).sender.pass = s.sender.pass
      ∧ (roundFails s).sender.cursor = s.sender.cursor
      ∧ (roundFails s).sender.passStopping = s.sender.passStopping
      ∧ (roundFails s).sender.passOwed = s.sender.passOwed
      ∧ (roundFails s).fibreJudge.settings = s.fibreJudge.settings
      ∧ (roundFails s).fibreJudge.penalty = s.fibreJudge.penalty
      ∧ (roundFails s).fibreJudge.suppressed = s.fibreJudge.suppressed
      ∧ (roundFails s).fibreJudge.decay = s.fibreJudge.decay
      ∧ (roundFails s).fibreJudge.damping = s.fibreJudge.damping
      ∧ (roundFails s).fibreJudge.handed = s.fibreJudge.handed
      ∧ (roundFails s).fibreJudge.tag = s.fibreJudge.tag
      ∧ (roundFails s).radioJudge.settings = s.radioJudge.settings
      ∧ (roundFails s).radioJudge.penalty = s.radioJudge.penalty
      ∧ (roundFails s).radioJudge.suppressed = s.radioJudge.suppressed
      ∧ (roundFails s).radioJudge.decay = s.radioJudge.decay
      ∧ (roundFails s).radioJudge.damping = s.radioJudge.damping
      ∧ (roundFails s).radioJudge.handed = s.radioJudge.handed
      ∧ (roundFails s).radioJudge.tag = s.radioJudge.tag
      ∧ (roundFails s).radio.modPwr = s.radio.modPwr
      ∧ (roundFails s).radio.rest = s.radio.rest
      ∧ (roundFails s).radio.wantedHeld = s.radio.wantedHeld
      ∧ (roundFails s).radio.lastReading = s.radio.lastReading
      ∧ (roundFails s).radio.leaving = s.radio.leaving
      ∧ (roundFails s).radio.stallCount = s.radio.stallCount
      ∧ (roundFails s).radio.settings = s.radio.settings
      ∧ (roundFails s).link.rx = s.link.rx
      ∧ (roundFails s).link.rxTimer = s.link.rxTimer
      ∧ (roundFails s).link.inbound = s.link.inbound
      ∧ (roundFails s).link.sent = s.link.sent
      ∧ (roundFails s).link.resetTaken = s.link.resetTaken
      ∧ (roundFails s).events.mask = s.events.mask
      ∧ (roundFails s).events.mode = s.events.mode
      ∧ (roundFails s).events.attn = s.events.attn
      ∧ (roundFails s).counts.lane = s.counts.lane
      ∧ (roundFails s).counts.carry = s.counts.carry
      ∧ (roundFails s).counts.probeFibre = s.counts.probeFibre
      ∧ (roundFails s).counts.probeRadio = s.counts.probeRadio := by
  simp only [roundFails]
  split <;> simp

@[simp] theorem attachFailedTaken_frame (s : State) :
    (attachFailedTaken s).pending = s.pending
      ∧ (attachFailedTaken s).clock = s.clock
      ∧ (attachFailedTaken s).ties = s.ties
      ∧ (attachFailedTaken s).resetHeld = s.resetHeld
      ∧ (attachFailedTaken s).home = s.home
      ∧ (attachFailedTaken s).classMap = s.classMap
      ∧ (attachFailedTaken s).lanes = s.lanes
      ∧ (attachFailedTaken s).session = s.session
      ∧ (attachFailedTaken s).receiver = s.receiver
      ∧ (attachFailedTaken s).carry = s.carry
      ∧ (attachFailedTaken s).fibre = s.fibre
      ∧ (attachFailedTaken s).selector = s.selector
      ∧ (attachFailedTaken s).pause.session = s.pause.session
      ∧ (attachFailedTaken s).pause.selector = s.pause.selector
      ∧ (attachFailedTaken s).pause.pass = s.pause.pass
      ∧ (attachFailedTaken s).sender.n = s.sender.n
      ∧ (attachFailedTaken s).sender.store = s.sender.store
      ∧ (attachFailedTaken s).sender.tallyOwed = s.sender.tallyOwed
      ∧ (attachFailedTaken s).sender.tallyTimer = s.sender.tallyTimer
      ∧ (attachFailedTaken s).sender.rewindPending = s.sender.rewindPending
      ∧ (attachFailedTaken s).sender.announcePending = s.sender.announcePending
      ∧ (attachFailedTaken s).sender.pass = s.sender.pass
      ∧ (attachFailedTaken s).sender.cursor = s.sender.cursor
      ∧ (attachFailedTaken s).sender.passStopping = s.sender.passStopping
      ∧ (attachFailedTaken s).sender.passOwed = s.sender.passOwed
      ∧ (attachFailedTaken s).fibreJudge.settings = s.fibreJudge.settings
      ∧ (attachFailedTaken s).fibreJudge.penalty = s.fibreJudge.penalty
      ∧ (attachFailedTaken s).fibreJudge.suppressed = s.fibreJudge.suppressed
      ∧ (attachFailedTaken s).fibreJudge.decay = s.fibreJudge.decay
      ∧ (attachFailedTaken s).fibreJudge.damping = s.fibreJudge.damping
      ∧ (attachFailedTaken s).fibreJudge.handed = s.fibreJudge.handed
      ∧ (attachFailedTaken s).fibreJudge.tag = s.fibreJudge.tag
      ∧ (attachFailedTaken s).radioJudge.settings = s.radioJudge.settings
      ∧ (attachFailedTaken s).radioJudge.penalty = s.radioJudge.penalty
      ∧ (attachFailedTaken s).radioJudge.suppressed = s.radioJudge.suppressed
      ∧ (attachFailedTaken s).radioJudge.decay = s.radioJudge.decay
      ∧ (attachFailedTaken s).radioJudge.damping = s.radioJudge.damping
      ∧ (attachFailedTaken s).radioJudge.handed = s.radioJudge.handed
      ∧ (attachFailedTaken s).radioJudge.tag = s.radioJudge.tag
      ∧ (attachFailedTaken s).radio.modPwr = s.radio.modPwr
      ∧ (attachFailedTaken s).radio.rest = s.radio.rest
      ∧ (attachFailedTaken s).radio.wantedHeld = s.radio.wantedHeld
      ∧ (attachFailedTaken s).radio.lastReading = s.radio.lastReading
      ∧ (attachFailedTaken s).radio.leaving = s.radio.leaving
      ∧ (attachFailedTaken s).radio.stallCount = s.radio.stallCount
      ∧ (attachFailedTaken s).radio.settings = s.radio.settings
      ∧ (attachFailedTaken s).link.rx = s.link.rx
      ∧ (attachFailedTaken s).link.rxTimer = s.link.rxTimer
      ∧ (attachFailedTaken s).link.inbound = s.link.inbound
      ∧ (attachFailedTaken s).link.sent = s.link.sent
      ∧ (attachFailedTaken s).link.resetTaken = s.link.resetTaken
      ∧ (attachFailedTaken s).events.mask = s.events.mask
      ∧ (attachFailedTaken s).events.mode = s.events.mode
      ∧ (attachFailedTaken s).events.attn = s.events.attn
      ∧ (attachFailedTaken s).counts.lane = s.counts.lane
      ∧ (attachFailedTaken s).counts.carry = s.counts.carry
      ∧ (attachFailedTaken s).counts.probeFibre = s.counts.probeFibre
      ∧ (attachFailedTaken s).counts.probeRadio = s.counts.probeRadio := by
  simp only [attachFailedTaken]
  split <;> simp

@[simp] theorem roundEnds_frame (s : State) :
    (roundEnds s).pending = s.pending
      ∧ (roundEnds s).ties = s.ties
      ∧ (roundEnds s).resetHeld = s.resetHeld
      ∧ (roundEnds s).home = s.home
      ∧ (roundEnds s).classMap = s.classMap
      ∧ (roundEnds s).lanes = s.lanes
      ∧ (roundEnds s).session = s.session
      ∧ (roundEnds s).receiver = s.receiver
      ∧ (roundEnds s).carry = s.carry
      ∧ (roundEnds s).fibre = s.fibre
      ∧ (roundEnds s).selector = s.selector
      ∧ (roundEnds s).pause.session = s.pause.session
      ∧ (roundEnds s).pause.selector = s.pause.selector
      ∧ (roundEnds s).pause.pass = s.pause.pass
      ∧ (roundEnds s).sender.n = s.sender.n
      ∧ (roundEnds s).sender.store = s.sender.store
      ∧ (roundEnds s).sender.tallyOwed = s.sender.tallyOwed
      ∧ (roundEnds s).sender.tallyTimer = s.sender.tallyTimer
      ∧ (roundEnds s).sender.rewindPending = s.sender.rewindPending
      ∧ (roundEnds s).sender.announcePending = s.sender.announcePending
      ∧ (roundEnds s).sender.pass = s.sender.pass
      ∧ (roundEnds s).sender.cursor = s.sender.cursor
      ∧ (roundEnds s).sender.passStopping = s.sender.passStopping
      ∧ (roundEnds s).sender.passOwed = s.sender.passOwed
      ∧ (roundEnds s).fibreJudge.settings = s.fibreJudge.settings
      ∧ (roundEnds s).fibreJudge.penalty = s.fibreJudge.penalty
      ∧ (roundEnds s).fibreJudge.suppressed = s.fibreJudge.suppressed
      ∧ (roundEnds s).fibreJudge.decay = s.fibreJudge.decay
      ∧ (roundEnds s).fibreJudge.damping = s.fibreJudge.damping
      ∧ (roundEnds s).fibreJudge.handed = s.fibreJudge.handed
      ∧ (roundEnds s).fibreJudge.tag = s.fibreJudge.tag
      ∧ (roundEnds s).radioJudge.settings = s.radioJudge.settings
      ∧ (roundEnds s).radioJudge.penalty = s.radioJudge.penalty
      ∧ (roundEnds s).radioJudge.suppressed = s.radioJudge.suppressed
      ∧ (roundEnds s).radioJudge.decay = s.radioJudge.decay
      ∧ (roundEnds s).radioJudge.damping = s.radioJudge.damping
      ∧ (roundEnds s).radioJudge.handed = s.radioJudge.handed
      ∧ (roundEnds s).radioJudge.tag = s.radioJudge.tag
      ∧ (roundEnds s).radio.modPwr = s.radio.modPwr
      ∧ (roundEnds s).radio.rest = s.radio.rest
      ∧ (roundEnds s).radio.wantedHeld = s.radio.wantedHeld
      ∧ (roundEnds s).radio.lastReading = s.radio.lastReading
      ∧ (roundEnds s).radio.leaving = s.radio.leaving
      ∧ (roundEnds s).radio.stallCount = s.radio.stallCount
      ∧ (roundEnds s).radio.settings = s.radio.settings
      ∧ (roundEnds s).link.rx = s.link.rx
      ∧ (roundEnds s).link.rxTimer = s.link.rxTimer
      ∧ (roundEnds s).link.inbound = s.link.inbound
      ∧ (roundEnds s).link.sent = s.link.sent
      ∧ (roundEnds s).link.resetTaken = s.link.resetTaken
      ∧ (roundEnds s).events.mask = s.events.mask
      ∧ (roundEnds s).events.mode = s.events.mode
      ∧ (roundEnds s).events.attn = s.events.attn
      ∧ (roundEnds s).counts.lane = s.counts.lane
      ∧ (roundEnds s).counts.carry = s.counts.carry
      ∧ (roundEnds s).counts.probeFibre = s.counts.probeFibre
      ∧ (roundEnds s).counts.probeRadio = s.counts.probeRadio := by
  simp only [roundEnds]
  (repeat' split) <;> simp

@[simp] theorem releaseFrom_frame (cause : ReleaseCause) (s : State) :
    (releaseFrom cause s).pending = s.pending
      ∧ (releaseFrom cause s).clock = s.clock
      ∧ (releaseFrom cause s).ties = s.ties
      ∧ (releaseFrom cause s).resetHeld = s.resetHeld
      ∧ (releaseFrom cause s).home = s.home
      ∧ (releaseFrom cause s).classMap = s.classMap
      ∧ (releaseFrom cause s).lanes = s.lanes
      ∧ (releaseFrom cause s).carry = s.carry
      ∧ (releaseFrom cause s).fibre = s.fibre
      ∧ (releaseFrom cause s).sender.n = s.sender.n
      ∧ (releaseFrom cause s).sender.store = s.sender.store
      ∧ (releaseFrom cause s).receiver.e = s.receiver.e
      ∧ (releaseFrom cause s).receiver.discard = s.receiver.discard
      ∧ (releaseFrom cause s).receiver.marksFibre = s.receiver.marksFibre
      ∧ (releaseFrom cause s).receiver.marksRadio = s.receiver.marksRadio
      ∧ (releaseFrom cause s).fibreJudge.settings = s.fibreJudge.settings
      ∧ (releaseFrom cause s).fibreJudge.penalty = s.fibreJudge.penalty
      ∧ (releaseFrom cause s).fibreJudge.suppressed = s.fibreJudge.suppressed
      ∧ (releaseFrom cause s).fibreJudge.decay = s.fibreJudge.decay
      ∧ (releaseFrom cause s).fibreJudge.damping = s.fibreJudge.damping
      ∧ (releaseFrom cause s).fibreJudge.tag = s.fibreJudge.tag
      ∧ (releaseFrom cause s).radioJudge.settings = s.radioJudge.settings
      ∧ (releaseFrom cause s).radioJudge.penalty = s.radioJudge.penalty
      ∧ (releaseFrom cause s).radioJudge.suppressed = s.radioJudge.suppressed
      ∧ (releaseFrom cause s).radioJudge.decay = s.radioJudge.decay
      ∧ (releaseFrom cause s).radioJudge.damping = s.radioJudge.damping
      ∧ (releaseFrom cause s).radioJudge.tag = s.radioJudge.tag
      ∧ (releaseFrom cause s).selector.pin = s.selector.pin
      ∧ (releaseFrom cause s).radio.rounds = s.radio.rounds
      ∧ (releaseFrom cause s).radio.rest = s.radio.rest
      ∧ (releaseFrom cause s).radio.lastReading = s.radio.lastReading
      ∧ (releaseFrom cause s).radio.leaving = s.radio.leaving
      ∧ (releaseFrom cause s).radio.stallCount = s.radio.stallCount
      ∧ (releaseFrom cause s).radio.settings = s.radio.settings
      ∧ (releaseFrom cause s).link.rx = s.link.rx
      ∧ (releaseFrom cause s).link.rxTimer = s.link.rxTimer
      ∧ (releaseFrom cause s).link.inbound = s.link.inbound
      ∧ (releaseFrom cause s).link.sent = s.link.sent
      ∧ (releaseFrom cause s).link.resetTaken = s.link.resetTaken
      ∧ (releaseFrom cause s).events.mask = s.events.mask
      ∧ (releaseFrom cause s).events.mode = s.events.mode
      ∧ (releaseFrom cause s).events.attn = s.events.attn
      ∧ (releaseFrom cause s).counts.lane = s.counts.lane
      ∧ (releaseFrom cause s).counts.carry = s.counts.carry
      ∧ (releaseFrom cause s).counts.probeFibre = s.counts.probeFibre
      ∧ (releaseFrom cause s).counts.probeRadio = s.counts.probeRadio
      ∧ (releaseFrom cause s).counts.module = s.counts.module := by simp [releaseFrom]

@[simp] theorem takeReading_frame (level : Option Int) (s : State) :
    (takeReading level s).pending = s.pending
      ∧ (takeReading level s).clock = s.clock
      ∧ (takeReading level s).ties = s.ties
      ∧ (takeReading level s).resetHeld = s.resetHeld
      ∧ (takeReading level s).home = s.home
      ∧ (takeReading level s).classMap = s.classMap
      ∧ (takeReading level s).lanes = s.lanes
      ∧ (takeReading level s).pause = s.pause
      ∧ (takeReading level s).session = s.session
      ∧ (takeReading level s).sender = s.sender
      ∧ (takeReading level s).receiver = s.receiver
      ∧ (takeReading level s).carry = s.carry
      ∧ (takeReading level s).fibre = s.fibre
      ∧ (takeReading level s).fibreJudge = s.fibreJudge
      ∧ (takeReading level s).selector = s.selector
      ∧ (takeReading level s).link = s.link
      ∧ (takeReading level s).events = s.events
      ∧ (takeReading level s).counts = s.counts
      ∧ (takeReading level s).radioJudge.settings = s.radioJudge.settings
      ∧ (takeReading level s).radioJudge.timer = s.radioJudge.timer
      ∧ (takeReading level s).radioJudge.count = s.radioJudge.count
      ∧ (takeReading level s).radioJudge.verdict = s.radioJudge.verdict
      ∧ (takeReading level s).radioJudge.penalty = s.radioJudge.penalty
      ∧ (takeReading level s).radioJudge.suppressed = s.radioJudge.suppressed
      ∧ (takeReading level s).radioJudge.decay = s.radioJudge.decay
      ∧ (takeReading level s).radioJudge.damping = s.radioJudge.damping
      ∧ (takeReading level s).radioJudge.handed = s.radioJudge.handed
      ∧ (takeReading level s).radioJudge.srtt = s.radioJudge.srtt
      ∧ (takeReading level s).radioJudge.table = s.radioJudge.table
      ∧ (takeReading level s).radioJudge.tag = s.radioJudge.tag
      ∧ (takeReading level s).radio.status = s.radio.status
      ∧ (takeReading level s).radio.modPwr = s.radio.modPwr
      ∧ (takeReading level s).radio.outstanding = s.radio.outstanding
      ∧ (takeReading level s).radio.rounds = s.radio.rounds
      ∧ (takeReading level s).radio.linger = s.radio.linger
      ∧ (takeReading level s).radio.rest = s.radio.rest
      ∧ (takeReading level s).radio.cause = s.radio.cause
      ∧ (takeReading level s).radio.releaseDue = s.radio.releaseDue
      ∧ (takeReading level s).radio.wantedHeld = s.radio.wantedHeld
      ∧ (takeReading level s).radio.leaving = s.radio.leaving
      ∧ (takeReading level s).radio.held = s.radio.held
      ∧ (takeReading level s).radio.handshake = s.radio.handshake
      ∧ (takeReading level s).radio.stallCount = s.radio.stallCount
      ∧ (takeReading level s).radio.settings = s.radio.settings := by
  simp only [takeReading]
  (repeat' split) <;> simp

@[simp] theorem afterSignal_frame (s : State) :
    (afterSignal s).pending = s.pending
      ∧ (afterSignal s).clock = s.clock
      ∧ (afterSignal s).ties = s.ties
      ∧ (afterSignal s).resetHeld = s.resetHeld
      ∧ (afterSignal s).home = s.home
      ∧ (afterSignal s).classMap = s.classMap
      ∧ (afterSignal s).lanes = s.lanes
      ∧ (afterSignal s).carry = s.carry
      ∧ (afterSignal s).fibre = s.fibre
      ∧ (afterSignal s).sender.n = s.sender.n
      ∧ (afterSignal s).sender.store = s.sender.store
      ∧ (afterSignal s).receiver.e = s.receiver.e
      ∧ (afterSignal s).receiver.discard = s.receiver.discard
      ∧ (afterSignal s).receiver.marksFibre = s.receiver.marksFibre
      ∧ (afterSignal s).receiver.marksRadio = s.receiver.marksRadio
      ∧ (afterSignal s).fibreJudge.settings = s.fibreJudge.settings
      ∧ (afterSignal s).fibreJudge.penalty = s.fibreJudge.penalty
      ∧ (afterSignal s).fibreJudge.suppressed = s.fibreJudge.suppressed
      ∧ (afterSignal s).fibreJudge.decay = s.fibreJudge.decay
      ∧ (afterSignal s).fibreJudge.damping = s.fibreJudge.damping
      ∧ (afterSignal s).fibreJudge.tag = s.fibreJudge.tag
      ∧ (afterSignal s).radioJudge.settings = s.radioJudge.settings
      ∧ (afterSignal s).radioJudge.penalty = s.radioJudge.penalty
      ∧ (afterSignal s).radioJudge.suppressed = s.radioJudge.suppressed
      ∧ (afterSignal s).radioJudge.decay = s.radioJudge.decay
      ∧ (afterSignal s).radioJudge.damping = s.radioJudge.damping
      ∧ (afterSignal s).radioJudge.tag = s.radioJudge.tag
      ∧ (afterSignal s).selector.pin = s.selector.pin
      ∧ (afterSignal s).radio.rounds = s.radio.rounds
      ∧ (afterSignal s).radio.rest = s.radio.rest
      ∧ (afterSignal s).radio.lastReading = s.radio.lastReading
      ∧ (afterSignal s).radio.leaving = s.radio.leaving
      ∧ (afterSignal s).radio.stallCount = s.radio.stallCount
      ∧ (afterSignal s).radio.settings = s.radio.settings
      ∧ (afterSignal s).link.rx = s.link.rx
      ∧ (afterSignal s).link.rxTimer = s.link.rxTimer
      ∧ (afterSignal s).link.inbound = s.link.inbound
      ∧ (afterSignal s).link.sent = s.link.sent
      ∧ (afterSignal s).link.resetTaken = s.link.resetTaken
      ∧ (afterSignal s).events.mask = s.events.mask
      ∧ (afterSignal s).events.mode = s.events.mode
      ∧ (afterSignal s).events.attn = s.events.attn
      ∧ (afterSignal s).counts.lane = s.counts.lane
      ∧ (afterSignal s).counts.carry = s.counts.carry
      ∧ (afterSignal s).counts.probeFibre = s.counts.probeFibre
      ∧ (afterSignal s).counts.probeRadio = s.counts.probeRadio
      ∧ (afterSignal s).counts.module = s.counts.module := by
  simp only [afterSignal]
  (repeat' split) <;> simp

@[simp] theorem signalTaken_frame (level : Option Int) (s : State) :
    (signalTaken level s).pending = s.pending
      ∧ (signalTaken level s).clock = s.clock
      ∧ (signalTaken level s).ties = s.ties
      ∧ (signalTaken level s).resetHeld = s.resetHeld
      ∧ (signalTaken level s).home = s.home
      ∧ (signalTaken level s).classMap = s.classMap
      ∧ (signalTaken level s).lanes = s.lanes
      ∧ (signalTaken level s).carry = s.carry
      ∧ (signalTaken level s).fibre = s.fibre
      ∧ (signalTaken level s).sender.n = s.sender.n
      ∧ (signalTaken level s).sender.store = s.sender.store
      ∧ (signalTaken level s).receiver.e = s.receiver.e
      ∧ (signalTaken level s).receiver.discard = s.receiver.discard
      ∧ (signalTaken level s).receiver.marksFibre = s.receiver.marksFibre
      ∧ (signalTaken level s).receiver.marksRadio = s.receiver.marksRadio
      ∧ (signalTaken level s).fibreJudge.settings = s.fibreJudge.settings
      ∧ (signalTaken level s).fibreJudge.penalty = s.fibreJudge.penalty
      ∧ (signalTaken level s).fibreJudge.suppressed = s.fibreJudge.suppressed
      ∧ (signalTaken level s).fibreJudge.decay = s.fibreJudge.decay
      ∧ (signalTaken level s).fibreJudge.damping = s.fibreJudge.damping
      ∧ (signalTaken level s).fibreJudge.tag = s.fibreJudge.tag
      ∧ (signalTaken level s).radioJudge.settings = s.radioJudge.settings
      ∧ (signalTaken level s).radioJudge.penalty = s.radioJudge.penalty
      ∧ (signalTaken level s).radioJudge.suppressed = s.radioJudge.suppressed
      ∧ (signalTaken level s).radioJudge.decay = s.radioJudge.decay
      ∧ (signalTaken level s).radioJudge.damping = s.radioJudge.damping
      ∧ (signalTaken level s).radioJudge.tag = s.radioJudge.tag
      ∧ (signalTaken level s).selector.pin = s.selector.pin
      ∧ (signalTaken level s).radio.rounds = s.radio.rounds
      ∧ (signalTaken level s).radio.rest = s.radio.rest
      ∧ (signalTaken level s).radio.leaving = s.radio.leaving
      ∧ (signalTaken level s).radio.stallCount = s.radio.stallCount
      ∧ (signalTaken level s).radio.settings = s.radio.settings
      ∧ (signalTaken level s).link.rx = s.link.rx
      ∧ (signalTaken level s).link.rxTimer = s.link.rxTimer
      ∧ (signalTaken level s).link.inbound = s.link.inbound
      ∧ (signalTaken level s).link.sent = s.link.sent
      ∧ (signalTaken level s).link.resetTaken = s.link.resetTaken
      ∧ (signalTaken level s).events.mask = s.events.mask
      ∧ (signalTaken level s).events.mode = s.events.mode
      ∧ (signalTaken level s).events.attn = s.events.attn
      ∧ (signalTaken level s).counts.lane = s.counts.lane
      ∧ (signalTaken level s).counts.carry = s.counts.carry
      ∧ (signalTaken level s).counts.probeFibre = s.counts.probeFibre
      ∧ (signalTaken level s).counts.probeRadio = s.counts.probeRadio
      ∧ (signalTaken level s).counts.module = s.counts.module := by
  simp only [signalTaken]
  split <;> simp

@[simp] theorem cellLost_frame (s : State) :
    (cellLost s).pending = s.pending
      ∧ (cellLost s).clock = s.clock
      ∧ (cellLost s).ties = s.ties
      ∧ (cellLost s).resetHeld = s.resetHeld
      ∧ (cellLost s).home = s.home
      ∧ (cellLost s).classMap = s.classMap
      ∧ (cellLost s).lanes = s.lanes
      ∧ (cellLost s).carry = s.carry
      ∧ (cellLost s).fibre = s.fibre
      ∧ (cellLost s).sender.n = s.sender.n
      ∧ (cellLost s).sender.store = s.sender.store
      ∧ (cellLost s).receiver.e = s.receiver.e
      ∧ (cellLost s).receiver.discard = s.receiver.discard
      ∧ (cellLost s).receiver.marksFibre = s.receiver.marksFibre
      ∧ (cellLost s).receiver.marksRadio = s.receiver.marksRadio
      ∧ (cellLost s).selector.pin = s.selector.pin
      ∧ (cellLost s).radio.rest = s.radio.rest
      ∧ (cellLost s).radio.lastReading = s.radio.lastReading
      ∧ (cellLost s).radio.leaving = s.radio.leaving
      ∧ (cellLost s).radio.stallCount = s.radio.stallCount
      ∧ (cellLost s).radio.settings = s.radio.settings
      ∧ (cellLost s).link.rx = s.link.rx
      ∧ (cellLost s).link.rxTimer = s.link.rxTimer
      ∧ (cellLost s).link.inbound = s.link.inbound
      ∧ (cellLost s).link.sent = s.link.sent
      ∧ (cellLost s).link.resetTaken = s.link.resetTaken
      ∧ (cellLost s).events.mask = s.events.mask
      ∧ (cellLost s).events.mode = s.events.mode
      ∧ (cellLost s).events.attn = s.events.attn
      ∧ (cellLost s).counts.lane = s.counts.lane
      ∧ (cellLost s).counts.carry = s.counts.carry
      ∧ (cellLost s).counts.probeFibre = s.counts.probeFibre
      ∧ (cellLost s).counts.probeRadio = s.counts.probeRadio := by
  simp only [cellLost]
  split <;> simp

@[simp] theorem detachedTaken_frame (s : State) :
    (detachedTaken s).pending = s.pending
      ∧ (detachedTaken s).clock = s.clock
      ∧ (detachedTaken s).ties = s.ties
      ∧ (detachedTaken s).resetHeld = s.resetHeld
      ∧ (detachedTaken s).home = s.home
      ∧ (detachedTaken s).classMap = s.classMap
      ∧ (detachedTaken s).lanes = s.lanes
      ∧ (detachedTaken s).carry = s.carry
      ∧ (detachedTaken s).fibre = s.fibre
      ∧ (detachedTaken s).sender.n = s.sender.n
      ∧ (detachedTaken s).sender.store = s.sender.store
      ∧ (detachedTaken s).receiver.e = s.receiver.e
      ∧ (detachedTaken s).receiver.discard = s.receiver.discard
      ∧ (detachedTaken s).receiver.marksFibre = s.receiver.marksFibre
      ∧ (detachedTaken s).receiver.marksRadio = s.receiver.marksRadio
      ∧ (detachedTaken s).selector.pin = s.selector.pin
      ∧ (detachedTaken s).radio.rest = s.radio.rest
      ∧ (detachedTaken s).radio.lastReading = s.radio.lastReading
      ∧ (detachedTaken s).radio.leaving = s.radio.leaving
      ∧ (detachedTaken s).radio.stallCount = s.radio.stallCount
      ∧ (detachedTaken s).radio.settings = s.radio.settings
      ∧ (detachedTaken s).link.rx = s.link.rx
      ∧ (detachedTaken s).link.rxTimer = s.link.rxTimer
      ∧ (detachedTaken s).link.inbound = s.link.inbound
      ∧ (detachedTaken s).link.sent = s.link.sent
      ∧ (detachedTaken s).link.resetTaken = s.link.resetTaken
      ∧ (detachedTaken s).events.mask = s.events.mask
      ∧ (detachedTaken s).events.mode = s.events.mode
      ∧ (detachedTaken s).events.attn = s.events.attn
      ∧ (detachedTaken s).counts.lane = s.counts.lane
      ∧ (detachedTaken s).counts.carry = s.counts.carry
      ∧ (detachedTaken s).counts.probeFibre = s.counts.probeFibre
      ∧ (detachedTaken s).counts.probeRadio = s.counts.probeRadio := by
  simp only [detachedTaken]
  (repeat' split) <;> simp

@[simp] theorem offTaken_frame (s : State) :
    (offTaken s).pending = s.pending
      ∧ (offTaken s).clock = s.clock
      ∧ (offTaken s).ties = s.ties
      ∧ (offTaken s).resetHeld = s.resetHeld
      ∧ (offTaken s).home = s.home
      ∧ (offTaken s).classMap = s.classMap
      ∧ (offTaken s).lanes = s.lanes
      ∧ (offTaken s).session = s.session
      ∧ (offTaken s).receiver = s.receiver
      ∧ (offTaken s).carry = s.carry
      ∧ (offTaken s).fibre = s.fibre
      ∧ (offTaken s).selector = s.selector
      ∧ (offTaken s).pause.session = s.pause.session
      ∧ (offTaken s).pause.selector = s.pause.selector
      ∧ (offTaken s).pause.pass = s.pause.pass
      ∧ (offTaken s).sender.n = s.sender.n
      ∧ (offTaken s).sender.store = s.sender.store
      ∧ (offTaken s).sender.tallyOwed = s.sender.tallyOwed
      ∧ (offTaken s).sender.tallyTimer = s.sender.tallyTimer
      ∧ (offTaken s).sender.rewindPending = s.sender.rewindPending
      ∧ (offTaken s).sender.announcePending = s.sender.announcePending
      ∧ (offTaken s).sender.pass = s.sender.pass
      ∧ (offTaken s).sender.cursor = s.sender.cursor
      ∧ (offTaken s).sender.passStopping = s.sender.passStopping
      ∧ (offTaken s).sender.passOwed = s.sender.passOwed
      ∧ (offTaken s).fibreJudge.settings = s.fibreJudge.settings
      ∧ (offTaken s).fibreJudge.penalty = s.fibreJudge.penalty
      ∧ (offTaken s).fibreJudge.suppressed = s.fibreJudge.suppressed
      ∧ (offTaken s).fibreJudge.decay = s.fibreJudge.decay
      ∧ (offTaken s).fibreJudge.damping = s.fibreJudge.damping
      ∧ (offTaken s).fibreJudge.handed = s.fibreJudge.handed
      ∧ (offTaken s).fibreJudge.tag = s.fibreJudge.tag
      ∧ (offTaken s).radioJudge.settings = s.radioJudge.settings
      ∧ (offTaken s).radioJudge.penalty = s.radioJudge.penalty
      ∧ (offTaken s).radioJudge.suppressed = s.radioJudge.suppressed
      ∧ (offTaken s).radioJudge.decay = s.radioJudge.decay
      ∧ (offTaken s).radioJudge.damping = s.radioJudge.damping
      ∧ (offTaken s).radioJudge.handed = s.radioJudge.handed
      ∧ (offTaken s).radioJudge.tag = s.radioJudge.tag
      ∧ (offTaken s).radio.rounds = s.radio.rounds
      ∧ (offTaken s).radio.wantedHeld = s.radio.wantedHeld
      ∧ (offTaken s).radio.lastReading = s.radio.lastReading
      ∧ (offTaken s).radio.leaving = s.radio.leaving
      ∧ (offTaken s).radio.stallCount = s.radio.stallCount
      ∧ (offTaken s).radio.settings = s.radio.settings
      ∧ (offTaken s).link.rx = s.link.rx
      ∧ (offTaken s).link.rxTimer = s.link.rxTimer
      ∧ (offTaken s).link.inbound = s.link.inbound
      ∧ (offTaken s).link.sent = s.link.sent
      ∧ (offTaken s).link.resetTaken = s.link.resetTaken
      ∧ (offTaken s).events.mask = s.events.mask
      ∧ (offTaken s).events.mode = s.events.mode
      ∧ (offTaken s).events.attn = s.events.attn
      ∧ (offTaken s).counts.lane = s.counts.lane
      ∧ (offTaken s).counts.carry = s.counts.carry
      ∧ (offTaken s).counts.probeFibre = s.counts.probeFibre
      ∧ (offTaken s).counts.probeRadio = s.counts.probeRadio
      ∧ (offTaken s).counts.module = s.counts.module := by
  simp only [offTaken]
  (repeat' split) <;> simp

@[simp] theorem commandTimesOut_frame (s : State) :
    (commandTimesOut s).pending = s.pending
      ∧ (commandTimesOut s).clock = s.clock
      ∧ (commandTimesOut s).ties = s.ties
      ∧ (commandTimesOut s).resetHeld = s.resetHeld
      ∧ (commandTimesOut s).home = s.home
      ∧ (commandTimesOut s).classMap = s.classMap
      ∧ (commandTimesOut s).lanes = s.lanes
      ∧ (commandTimesOut s).carry = s.carry
      ∧ (commandTimesOut s).fibre = s.fibre
      ∧ (commandTimesOut s).sender.n = s.sender.n
      ∧ (commandTimesOut s).sender.store = s.sender.store
      ∧ (commandTimesOut s).receiver.e = s.receiver.e
      ∧ (commandTimesOut s).receiver.discard = s.receiver.discard
      ∧ (commandTimesOut s).receiver.marksFibre = s.receiver.marksFibre
      ∧ (commandTimesOut s).receiver.marksRadio = s.receiver.marksRadio
      ∧ (commandTimesOut s).selector.pin = s.selector.pin
      ∧ (commandTimesOut s).radio.rounds = s.radio.rounds
      ∧ (commandTimesOut s).radio.lastReading = s.radio.lastReading
      ∧ (commandTimesOut s).radio.leaving = s.radio.leaving
      ∧ (commandTimesOut s).radio.stallCount = s.radio.stallCount
      ∧ (commandTimesOut s).radio.settings = s.radio.settings
      ∧ (commandTimesOut s).link.rx = s.link.rx
      ∧ (commandTimesOut s).link.rxTimer = s.link.rxTimer
      ∧ (commandTimesOut s).link.inbound = s.link.inbound
      ∧ (commandTimesOut s).link.sent = s.link.sent
      ∧ (commandTimesOut s).link.resetTaken = s.link.resetTaken
      ∧ (commandTimesOut s).events.mask = s.events.mask
      ∧ (commandTimesOut s).events.mode = s.events.mode
      ∧ (commandTimesOut s).events.attn = s.events.attn
      ∧ (commandTimesOut s).counts.lane = s.counts.lane
      ∧ (commandTimesOut s).counts.carry = s.counts.carry
      ∧ (commandTimesOut s).counts.probeFibre = s.counts.probeFibre
      ∧ (commandTimesOut s).counts.probeRadio = s.counts.probeRadio := by
  simp only [commandTimesOut]
  split <;> simp

@[simp] theorem responseLate_frame (s : State) :
    (responseLate s).pending = s.pending
      ∧ (responseLate s).ties = s.ties
      ∧ (responseLate s).resetHeld = s.resetHeld
      ∧ (responseLate s).home = s.home
      ∧ (responseLate s).classMap = s.classMap
      ∧ (responseLate s).lanes = s.lanes
      ∧ (responseLate s).carry = s.carry
      ∧ (responseLate s).fibre = s.fibre
      ∧ (responseLate s).sender.n = s.sender.n
      ∧ (responseLate s).sender.store = s.sender.store
      ∧ (responseLate s).receiver.e = s.receiver.e
      ∧ (responseLate s).receiver.discard = s.receiver.discard
      ∧ (responseLate s).receiver.marksFibre = s.receiver.marksFibre
      ∧ (responseLate s).receiver.marksRadio = s.receiver.marksRadio
      ∧ (responseLate s).selector.pin = s.selector.pin
      ∧ (responseLate s).radio.rounds = s.radio.rounds
      ∧ (responseLate s).radio.lastReading = s.radio.lastReading
      ∧ (responseLate s).radio.leaving = s.radio.leaving
      ∧ (responseLate s).radio.stallCount = s.radio.stallCount
      ∧ (responseLate s).radio.settings = s.radio.settings
      ∧ (responseLate s).link.rx = s.link.rx
      ∧ (responseLate s).link.rxTimer = s.link.rxTimer
      ∧ (responseLate s).link.inbound = s.link.inbound
      ∧ (responseLate s).link.sent = s.link.sent
      ∧ (responseLate s).link.resetTaken = s.link.resetTaken
      ∧ (responseLate s).events.mask = s.events.mask
      ∧ (responseLate s).events.mode = s.events.mode
      ∧ (responseLate s).events.attn = s.events.attn
      ∧ (responseLate s).counts.lane = s.counts.lane
      ∧ (responseLate s).counts.carry = s.counts.carry
      ∧ (responseLate s).counts.probeFibre = s.counts.probeFibre
      ∧ (responseLate s).counts.probeRadio = s.counts.probeRadio := by
  simp only [responseLate]
  (repeat' split) <;> simp

@[simp] theorem lingerExpires_frame (s : State) :
    (lingerExpires s).pending = s.pending
      ∧ (lingerExpires s).ties = s.ties
      ∧ (lingerExpires s).resetHeld = s.resetHeld
      ∧ (lingerExpires s).home = s.home
      ∧ (lingerExpires s).classMap = s.classMap
      ∧ (lingerExpires s).lanes = s.lanes
      ∧ (lingerExpires s).carry = s.carry
      ∧ (lingerExpires s).fibre = s.fibre
      ∧ (lingerExpires s).sender.n = s.sender.n
      ∧ (lingerExpires s).sender.store = s.sender.store
      ∧ (lingerExpires s).receiver.e = s.receiver.e
      ∧ (lingerExpires s).receiver.discard = s.receiver.discard
      ∧ (lingerExpires s).receiver.marksFibre = s.receiver.marksFibre
      ∧ (lingerExpires s).receiver.marksRadio = s.receiver.marksRadio
      ∧ (lingerExpires s).fibreJudge.settings = s.fibreJudge.settings
      ∧ (lingerExpires s).fibreJudge.penalty = s.fibreJudge.penalty
      ∧ (lingerExpires s).fibreJudge.suppressed = s.fibreJudge.suppressed
      ∧ (lingerExpires s).fibreJudge.decay = s.fibreJudge.decay
      ∧ (lingerExpires s).fibreJudge.damping = s.fibreJudge.damping
      ∧ (lingerExpires s).fibreJudge.tag = s.fibreJudge.tag
      ∧ (lingerExpires s).radioJudge.settings = s.radioJudge.settings
      ∧ (lingerExpires s).radioJudge.penalty = s.radioJudge.penalty
      ∧ (lingerExpires s).radioJudge.suppressed = s.radioJudge.suppressed
      ∧ (lingerExpires s).radioJudge.decay = s.radioJudge.decay
      ∧ (lingerExpires s).radioJudge.damping = s.radioJudge.damping
      ∧ (lingerExpires s).radioJudge.tag = s.radioJudge.tag
      ∧ (lingerExpires s).selector.pin = s.selector.pin
      ∧ (lingerExpires s).radio.rounds = s.radio.rounds
      ∧ (lingerExpires s).radio.rest = s.radio.rest
      ∧ (lingerExpires s).radio.lastReading = s.radio.lastReading
      ∧ (lingerExpires s).radio.leaving = s.radio.leaving
      ∧ (lingerExpires s).radio.stallCount = s.radio.stallCount
      ∧ (lingerExpires s).radio.settings = s.radio.settings
      ∧ (lingerExpires s).link.rx = s.link.rx
      ∧ (lingerExpires s).link.rxTimer = s.link.rxTimer
      ∧ (lingerExpires s).link.inbound = s.link.inbound
      ∧ (lingerExpires s).link.sent = s.link.sent
      ∧ (lingerExpires s).link.resetTaken = s.link.resetTaken
      ∧ (lingerExpires s).events.mask = s.events.mask
      ∧ (lingerExpires s).events.mode = s.events.mode
      ∧ (lingerExpires s).events.attn = s.events.attn
      ∧ (lingerExpires s).counts.lane = s.counts.lane
      ∧ (lingerExpires s).counts.carry = s.counts.carry
      ∧ (lingerExpires s).counts.probeFibre = s.counts.probeFibre
      ∧ (lingerExpires s).counts.probeRadio = s.counts.probeRadio
      ∧ (lingerExpires s).counts.module = s.counts.module := by
  simp only [lingerExpires]
  (repeat' split) <;> simp

@[simp] theorem restExpires_frame (s : State) :
    (restExpires s).pending = s.pending
      ∧ (restExpires s).ties = s.ties
      ∧ (restExpires s).resetHeld = s.resetHeld
      ∧ (restExpires s).home = s.home
      ∧ (restExpires s).classMap = s.classMap
      ∧ (restExpires s).lanes = s.lanes
      ∧ (restExpires s).session = s.session
      ∧ (restExpires s).receiver = s.receiver
      ∧ (restExpires s).carry = s.carry
      ∧ (restExpires s).fibre = s.fibre
      ∧ (restExpires s).selector = s.selector
      ∧ (restExpires s).pause.session = s.pause.session
      ∧ (restExpires s).pause.selector = s.pause.selector
      ∧ (restExpires s).pause.pass = s.pause.pass
      ∧ (restExpires s).sender.n = s.sender.n
      ∧ (restExpires s).sender.store = s.sender.store
      ∧ (restExpires s).sender.tallyOwed = s.sender.tallyOwed
      ∧ (restExpires s).sender.tallyTimer = s.sender.tallyTimer
      ∧ (restExpires s).sender.rewindPending = s.sender.rewindPending
      ∧ (restExpires s).sender.announcePending = s.sender.announcePending
      ∧ (restExpires s).sender.pass = s.sender.pass
      ∧ (restExpires s).sender.cursor = s.sender.cursor
      ∧ (restExpires s).sender.passStopping = s.sender.passStopping
      ∧ (restExpires s).sender.passOwed = s.sender.passOwed
      ∧ (restExpires s).fibreJudge.settings = s.fibreJudge.settings
      ∧ (restExpires s).fibreJudge.penalty = s.fibreJudge.penalty
      ∧ (restExpires s).fibreJudge.suppressed = s.fibreJudge.suppressed
      ∧ (restExpires s).fibreJudge.decay = s.fibreJudge.decay
      ∧ (restExpires s).fibreJudge.damping = s.fibreJudge.damping
      ∧ (restExpires s).fibreJudge.handed = s.fibreJudge.handed
      ∧ (restExpires s).fibreJudge.tag = s.fibreJudge.tag
      ∧ (restExpires s).radioJudge.settings = s.radioJudge.settings
      ∧ (restExpires s).radioJudge.penalty = s.radioJudge.penalty
      ∧ (restExpires s).radioJudge.suppressed = s.radioJudge.suppressed
      ∧ (restExpires s).radioJudge.decay = s.radioJudge.decay
      ∧ (restExpires s).radioJudge.damping = s.radioJudge.damping
      ∧ (restExpires s).radioJudge.handed = s.radioJudge.handed
      ∧ (restExpires s).radioJudge.tag = s.radioJudge.tag
      ∧ (restExpires s).radio.rounds = s.radio.rounds
      ∧ (restExpires s).radio.wantedHeld = s.radio.wantedHeld
      ∧ (restExpires s).radio.lastReading = s.radio.lastReading
      ∧ (restExpires s).radio.leaving = s.radio.leaving
      ∧ (restExpires s).radio.stallCount = s.radio.stallCount
      ∧ (restExpires s).radio.settings = s.radio.settings
      ∧ (restExpires s).link.rx = s.link.rx
      ∧ (restExpires s).link.rxTimer = s.link.rxTimer
      ∧ (restExpires s).link.inbound = s.link.inbound
      ∧ (restExpires s).link.sent = s.link.sent
      ∧ (restExpires s).link.resetTaken = s.link.resetTaken
      ∧ (restExpires s).events.mask = s.events.mask
      ∧ (restExpires s).events.mode = s.events.mode
      ∧ (restExpires s).events.attn = s.events.attn
      ∧ (restExpires s).counts.lane = s.counts.lane
      ∧ (restExpires s).counts.carry = s.counts.carry
      ∧ (restExpires s).counts.probeFibre = s.counts.probeFibre
      ∧ (restExpires s).counts.probeRadio = s.counts.probeRadio
      ∧ (restExpires s).counts.module = s.counts.module := by
  simp only [restExpires]
  (repeat' split) <;> simp

@[simp] theorem pollStarts_frame (s : State) :
    (pollStarts s).pending = s.pending
      ∧ (pollStarts s).ties = s.ties
      ∧ (pollStarts s).resetHeld = s.resetHeld
      ∧ (pollStarts s).home = s.home
      ∧ (pollStarts s).classMap = s.classMap
      ∧ (pollStarts s).lanes = s.lanes
      ∧ (pollStarts s).pause = s.pause
      ∧ (pollStarts s).session = s.session
      ∧ (pollStarts s).sender = s.sender
      ∧ (pollStarts s).receiver = s.receiver
      ∧ (pollStarts s).carry = s.carry
      ∧ (pollStarts s).fibre = s.fibre
      ∧ (pollStarts s).fibreJudge = s.fibreJudge
      ∧ (pollStarts s).radioJudge = s.radioJudge
      ∧ (pollStarts s).selector = s.selector
      ∧ (pollStarts s).link = s.link
      ∧ (pollStarts s).events = s.events
      ∧ (pollStarts s).counts = s.counts
      ∧ (pollStarts s).radio.status = s.radio.status
      ∧ (pollStarts s).radio.modPwr = s.radio.modPwr
      ∧ (pollStarts s).radio.outstanding = s.radio.outstanding
      ∧ (pollStarts s).radio.rounds = s.radio.rounds
      ∧ (pollStarts s).radio.linger = s.radio.linger
      ∧ (pollStarts s).radio.rest = s.radio.rest
      ∧ (pollStarts s).radio.cause = s.radio.cause
      ∧ (pollStarts s).radio.releaseDue = s.radio.releaseDue
      ∧ (pollStarts s).radio.wantedHeld = s.radio.wantedHeld
      ∧ (pollStarts s).radio.lastReading = s.radio.lastReading
      ∧ (pollStarts s).radio.leaving = s.radio.leaving
      ∧ (pollStarts s).radio.held = s.radio.held
      ∧ (pollStarts s).radio.stallCount = s.radio.stallCount
      ∧ (pollStarts s).radio.settings = s.radio.settings := by
  simp only [pollStarts]
  split <;> simp

@[simp] theorem readySeen_frame (s : State) :
    (readySeen s).pending = s.pending
      ∧ (readySeen s).clock = s.clock
      ∧ (readySeen s).ties = s.ties
      ∧ (readySeen s).resetHeld = s.resetHeld
      ∧ (readySeen s).home = s.home
      ∧ (readySeen s).classMap = s.classMap
      ∧ (readySeen s).lanes = s.lanes
      ∧ (readySeen s).pause = s.pause
      ∧ (readySeen s).session = s.session
      ∧ (readySeen s).receiver = s.receiver
      ∧ (readySeen s).carry = s.carry
      ∧ (readySeen s).fibreJudge = s.fibreJudge
      ∧ (readySeen s).radioJudge = s.radioJudge
      ∧ (readySeen s).selector = s.selector
      ∧ (readySeen s).link = s.link
      ∧ (readySeen s).events = s.events
      ∧ (readySeen s).counts = s.counts
      ∧ (readySeen s).sender.n = s.sender.n
      ∧ (readySeen s).sender.store = s.sender.store
      ∧ (readySeen s).sender.stream = s.sender.stream
      ∧ (readySeen s).sender.rewindPending = s.sender.rewindPending
      ∧ (readySeen s).sender.announcePending = s.sender.announcePending
      ∧ (readySeen s).sender.pass = s.sender.pass
      ∧ (readySeen s).sender.cursor = s.sender.cursor
      ∧ (readySeen s).sender.passStopping = s.sender.passStopping
      ∧ (readySeen s).sender.passOwed = s.sender.passOwed
      ∧ (readySeen s).fibre.linkUp = s.fibre.linkUp
      ∧ (readySeen s).radio.status = s.radio.status
      ∧ (readySeen s).radio.modPwr = s.radio.modPwr
      ∧ (readySeen s).radio.outstanding = s.radio.outstanding
      ∧ (readySeen s).radio.rounds = s.radio.rounds
      ∧ (readySeen s).radio.linger = s.radio.linger
      ∧ (readySeen s).radio.rest = s.radio.rest
      ∧ (readySeen s).radio.cause = s.radio.cause
      ∧ (readySeen s).radio.releaseDue = s.radio.releaseDue
      ∧ (readySeen s).radio.wantedHeld = s.radio.wantedHeld
      ∧ (readySeen s).radio.lastReading = s.radio.lastReading
      ∧ (readySeen s).radio.settings = s.radio.settings := by
  simp only [readySeen]
  (repeat' split) <;> simp

@[simp] theorem unitStalls_frame (s : State) :
    (unitStalls s).pending = s.pending
      ∧ (unitStalls s).clock = s.clock
      ∧ (unitStalls s).ties = s.ties
      ∧ (unitStalls s).resetHeld = s.resetHeld
      ∧ (unitStalls s).home = s.home
      ∧ (unitStalls s).classMap = s.classMap
      ∧ (unitStalls s).lanes = s.lanes
      ∧ (unitStalls s).carry = s.carry
      ∧ (unitStalls s).fibre = s.fibre
      ∧ (unitStalls s).sender.n = s.sender.n
      ∧ (unitStalls s).sender.store = s.sender.store
      ∧ (unitStalls s).receiver.e = s.receiver.e
      ∧ (unitStalls s).receiver.discard = s.receiver.discard
      ∧ (unitStalls s).receiver.marksFibre = s.receiver.marksFibre
      ∧ (unitStalls s).receiver.marksRadio = s.receiver.marksRadio
      ∧ (unitStalls s).selector.pin = s.selector.pin
      ∧ (unitStalls s).radio.rounds = s.radio.rounds
      ∧ (unitStalls s).radio.rest = s.radio.rest
      ∧ (unitStalls s).radio.lastReading = s.radio.lastReading
      ∧ (unitStalls s).radio.leaving = s.radio.leaving
      ∧ (unitStalls s).radio.settings = s.radio.settings
      ∧ (unitStalls s).link.rx = s.link.rx
      ∧ (unitStalls s).link.rxTimer = s.link.rxTimer
      ∧ (unitStalls s).link.inbound = s.link.inbound
      ∧ (unitStalls s).link.sent = s.link.sent
      ∧ (unitStalls s).link.resetTaken = s.link.resetTaken
      ∧ (unitStalls s).events.mask = s.events.mask
      ∧ (unitStalls s).events.mode = s.events.mode
      ∧ (unitStalls s).events.attn = s.events.attn
      ∧ (unitStalls s).counts.lane = s.counts.lane
      ∧ (unitStalls s).counts.carry = s.counts.carry
      ∧ (unitStalls s).counts.probeFibre = s.counts.probeFibre
      ∧ (unitStalls s).counts.probeRadio = s.counts.probeRadio := by
  simp only [unitStalls]
  split <;> simp

@[simp] theorem readyLate_frame (s : State) :
    (readyLate s).pending = s.pending
      ∧ (readyLate s).ties = s.ties
      ∧ (readyLate s).resetHeld = s.resetHeld
      ∧ (readyLate s).home = s.home
      ∧ (readyLate s).classMap = s.classMap
      ∧ (readyLate s).lanes = s.lanes
      ∧ (readyLate s).carry = s.carry
      ∧ (readyLate s).sender.n = s.sender.n
      ∧ (readyLate s).sender.store = s.sender.store
      ∧ (readyLate s).receiver.e = s.receiver.e
      ∧ (readyLate s).receiver.discard = s.receiver.discard
      ∧ (readyLate s).receiver.marksFibre = s.receiver.marksFibre
      ∧ (readyLate s).receiver.marksRadio = s.receiver.marksRadio
      ∧ (readyLate s).fibre.linkUp = s.fibre.linkUp
      ∧ (readyLate s).selector.pin = s.selector.pin
      ∧ (readyLate s).radio.rounds = s.radio.rounds
      ∧ (readyLate s).radio.rest = s.radio.rest
      ∧ (readyLate s).radio.lastReading = s.radio.lastReading
      ∧ (readyLate s).radio.settings = s.radio.settings
      ∧ (readyLate s).link.rx = s.link.rx
      ∧ (readyLate s).link.rxTimer = s.link.rxTimer
      ∧ (readyLate s).link.inbound = s.link.inbound
      ∧ (readyLate s).link.sent = s.link.sent
      ∧ (readyLate s).link.resetTaken = s.link.resetTaken
      ∧ (readyLate s).events.mask = s.events.mask
      ∧ (readyLate s).events.mode = s.events.mode
      ∧ (readyLate s).events.attn = s.events.attn
      ∧ (readyLate s).counts.lane = s.counts.lane
      ∧ (readyLate s).counts.carry = s.counts.carry
      ∧ (readyLate s).counts.probeFibre = s.counts.probeFibre
      ∧ (readyLate s).counts.probeRadio = s.counts.probeRadio := by
  simp only [readyLate]
  (repeat' split) <;> simp

@[simp] theorem gapEnds_frame (s : State) :
    (gapEnds s).pending = s.pending
      ∧ (gapEnds s).ties = s.ties
      ∧ (gapEnds s).resetHeld = s.resetHeld
      ∧ (gapEnds s).home = s.home
      ∧ (gapEnds s).classMap = s.classMap
      ∧ (gapEnds s).lanes = s.lanes
      ∧ (gapEnds s).pause = s.pause
      ∧ (gapEnds s).session = s.session
      ∧ (gapEnds s).sender = s.sender
      ∧ (gapEnds s).receiver = s.receiver
      ∧ (gapEnds s).carry = s.carry
      ∧ (gapEnds s).fibre = s.fibre
      ∧ (gapEnds s).fibreJudge = s.fibreJudge
      ∧ (gapEnds s).radioJudge = s.radioJudge
      ∧ (gapEnds s).selector = s.selector
      ∧ (gapEnds s).link = s.link
      ∧ (gapEnds s).events = s.events
      ∧ (gapEnds s).counts = s.counts
      ∧ (gapEnds s).radio.status = s.radio.status
      ∧ (gapEnds s).radio.modPwr = s.radio.modPwr
      ∧ (gapEnds s).radio.outstanding = s.radio.outstanding
      ∧ (gapEnds s).radio.rounds = s.radio.rounds
      ∧ (gapEnds s).radio.linger = s.radio.linger
      ∧ (gapEnds s).radio.rest = s.radio.rest
      ∧ (gapEnds s).radio.cause = s.radio.cause
      ∧ (gapEnds s).radio.releaseDue = s.radio.releaseDue
      ∧ (gapEnds s).radio.wantedHeld = s.radio.wantedHeld
      ∧ (gapEnds s).radio.lastReading = s.radio.lastReading
      ∧ (gapEnds s).radio.leaving = s.radio.leaving
      ∧ (gapEnds s).radio.held = s.radio.held
      ∧ (gapEnds s).radio.stallCount = s.radio.stallCount
      ∧ (gapEnds s).radio.settings = s.radio.settings := by
  simp only [gapEnds]
  split <;> simp

/-- A judge that is DOWN reports nothing at a soft reset. -/
@[simp] theorem judgeResetReport_of_down (b : Bearer) (s : State) (h : (s.judge b).verdict = .down) :
    judgeResetReport b s = s := by
  simp [judgeResetReport, reportIf, h]

/-- The soft reset in one line: the blank part with the epoch, and with the LINK counts as the two reports leave them. -/
theorem softReset_eq (s : State) :
    softReset s = report .started
      (blankPart s.session.epoch (judgeResetReport .radio (judgeResetReport .fibre s)).counts.link s) := rfl

theorem softReset_frame (s : State) :
    (softReset s).pending = s.pending
      ∧ (softReset s).ties = s.ties
      ∧ (softReset s).home = ⟨s.home.linkUp, [], s.home.sent⟩
      ∧ (softReset s).fibre = ⟨s.fibre.linkUp, none⟩
      ∧ (softReset s).session = ⟨.closed, s.session.epoch, none⟩
      ∧ (softReset s).link.sent = s.link.sent
      ∧ (softReset s).link.inbound = []
      ∧ (softReset s).clock = 0
      ∧ (softReset s).resetHeld = false
      ∧ (softReset s).counts.carry = .zero
      ∧ (softReset s).counts.module = .zero := by
  simp [softReset_eq, startUp, blankPart, State.reset, Counts.zero]

end Sys2Proof.Machine
end

