-- ==== Sys2Proof/WellFormed.lean ====
section
/-! DEFINITION. What a command's operands must be to stand for something that can happen at a pin or a port. The meanings do
not ask for it: they are total on every operand. -/

namespace Sys2Proof

/-- An Ethernet frame holds at least its frame check of 4 bytes (R21, R23). -/
def ethernetOperandOk (bytes : List Byte) : Bool := decide (4 ≤ bytes.length)

/-- A command's operands can occur: an Ethernet frame holds its frame check, a data unit and a run of bytes from the host are
not empty. -/
def Instr.wellFormed : Instr → Bool
  | .homeFrameArrival bytes => ethernetOperandOk bytes
  | .fibreFrameArrival bytes => ethernetOperandOk bytes
  | .moduleUnitArrival bytes => !bytes.isEmpty
  | .controlMessageReceived bytes => !bytes.isEmpty
  | .powerOn | .interByteTimeout | .unknownRequest | .identify | .getStatus | .setLane | .getLane | .setClass | .getClass
  | .setJudge | .getJudge | .setDamping | .setCarry | .setModule | .setSupply | .start | .haltImmediate | .haltAtBoundary
  | .pin | .handoverNow | .readEvents | .clearEvents | .setAlert | .readCounts | .reset | .messageSent | .homeLinkChange _
  | .deliveryComplete | .frameDepartureComplete _ | .tallyTimerExpiry | .openRetryTimerExpiry | .rewindTimerExpiry
  | .intervalEnd _ | .probeEntryExpiry _ _ | .fibreLinkDown | .fibreLinkUp | .decayTick _ | .returnHoldExpiry
  | .drainTimerExpiry | .powered | .attached | .attachFailed | .searchRoundEnd | .signalAnswer _ | .detached | .offAnswer
  | .responseTimeout | .lingerExpiry | .restTimerExpiry | .pollStartPasses | .modReadySeen | .readyLimitPasses
  | .pacingGapEnd | .resetNAsserted => true

end Sys2Proof
end

