-- ==== Sys2Proof/Tests/Slice0.lean ====
section
/-! SUPPORT. The model's own tests: the checks of WellFormed, the worked examples of the spec, small tests of the commands on one
step each, and for every statement a witness that its hypotheses can be met. The expected values are the spec's, or worked by hand
from its tables. -/

open Sys2Proof Sys2Proof.Machine

namespace Sys2Proof.Tests

set_option Elab.async false

/-! ## Small states -/

/-- The state after a command. -/
def after (c : Instr) (s : State) : State :=
  match exec c s with
  | .next t => t
  | .fault _ => s
  | .refused _ => s

/-- The part after power-on, its STARTED notice sent. -/
def idle : State := { State.reset with link := ⟨[], none, [], [], false, []⟩, clock := 5000000 }

/-- A state with one request at the head of its inbound queue. -/
def asked (kind : Byte) (body : List Byte) (s : State) : State := { s with link := ⟨[], none, [⟨kind, 9, body⟩], [], false, []⟩ }

/-- A judged bearer's judge, UP and handed over. -/
def upJudge (b : Bearer) : Judge :=
  { Judge.atReset b with
    timer := some 5100000, count := 7, verdict := .up, handed := true, decay := some 9000000, linkHeld := true, srtt := some 223 }

/-- A judged bearer's judge, DOWN. -/
def downJudge (b : Bearer) : Judge :=
  { Judge.atReset b with timer := some 5100000, count := 7, decay := some 9000000, linkHeld := true }

/-- The module controller with the module READY and wanted. -/
def readyRadio : Radio := { Radio.atReset with status := .ready, modPwr := true, wantedHeld := .active, rounds := 1 }

/-- ON_FIBRE with the session OPEN in epoch 7; the module is OFF. -/
def onFibre : State :=
  { idle with
    fibre := ⟨true, none⟩
    home := ⟨true, [], []⟩
    selector := ⟨.on .fibre, .auto, none, none, none, .none⟩
    pause := ⟨false, false, false, false⟩
    session := ⟨.opened, 7, none⟩
    fibreJudge := upJudge .fibre
    radioJudge := { Judge.atReset .radio with decay := some 9000000 } }

/-- ON_FIBRE with the radio READY, UP and lingering. -/
def onBoth : State :=
  { onFibre with
    radioJudge := upJudge .radio
    radio := { readyRadio with wantedHeld := .none, linger := some 300000000 } }

/-- ON_RADIO with the fibre DOWN. -/
def onRadio : State :=
  { onFibre with
    selector := ⟨.on .radio, .auto, none, none, none, .active⟩
    fibreJudge := downJudge .fibre
    radioJudge := upJudge .radio
    radio := readyRadio }

/-- ON_RADIO with the fibre UP, the return hold running. -/
def holding : State :=
  { onRadio with
    selector := ⟨.on .radio, .auto, none, some 60000000, none, .active⟩
    fibreJudge := upJudge .fibre }

/-- OUTAGE after START, the module OFF under a pin of FIBRE. -/
def outage : State :=
  { onFibre with
    selector := ⟨.outage, .only .fibre, none, none, none, .none⟩
    pause := ⟨true, true, false, false⟩
    session := ⟨.closed, 0, none⟩
    fibreJudge := downJudge .fibre }

/-- A record of one voice frame. -/
def oneRecord : StoreRecord := ⟨1, .voice, 0, 0, some (List.replicate 60 0)⟩

/-- The sender holds one record, number 1. -/
def holdsOne : Sender := { Sender.atReset with n := 2, store := [oneRecord] }

/-- DRAINING from the fibre with one record held. -/
def draining : State :=
  { onBoth with
    selector := ⟨.draining .fibre, .auto, some 5145000, none, some ⟨some .fibre, .radio, .planned, 5000, none⟩, .active⟩
    pause := ⟨false, true, false, false⟩
    radio := readyRadio
    sender := holdsOne }

/-- The module commands in flight. -/
def awaiting (status : ModuleStatus) (c : ModuleCommand) (limit : Nat) (s : State) : State :=
  { s with radio := { s.radio with status := status, modPwr := true, outstanding := some ⟨c, limit⟩ } }

theorem lawful_idle : Lawful idle :=
  ⟨by decide +kernel, by decide +kernel, by decide +kernel, by decide +kernel, by decide +kernel, by decide +kernel,
    by decide +kernel⟩

theorem lawful_onFibre : Lawful onFibre :=
  ⟨by decide +kernel, by decide +kernel, by decide +kernel, by decide +kernel, by decide +kernel, by decide +kernel,
    by decide +kernel⟩

theorem lawful_onBoth : Lawful onBoth :=
  ⟨by decide +kernel, by decide +kernel, by decide +kernel, by decide +kernel, by decide +kernel, by decide +kernel,
    by decide +kernel⟩

theorem lawful_onRadio : Lawful onRadio :=
  ⟨by decide +kernel, by decide +kernel, by decide +kernel, by decide +kernel, by decide +kernel, by decide +kernel,
    by decide +kernel⟩

theorem lawful_holding : Lawful holding :=
  ⟨by decide +kernel, by decide +kernel, by decide +kernel, by decide +kernel, by decide +kernel, by decide +kernel,
    by decide +kernel⟩

theorem lawful_outage : Lawful outage :=
  ⟨by decide +kernel, by decide +kernel, by decide +kernel, by decide +kernel, by decide +kernel, by decide +kernel,
    by decide +kernel⟩

theorem lawful_draining : Lawful draining :=
  ⟨by decide +kernel, by decide +kernel, by decide +kernel, by decide +kernel, by decide +kernel, by decide +kernel,
    by decide +kernel⟩

/-! ## WellFormed -/

theorem test_home_frame_too_short : (Instr.homeFrameArrival [1, 2, 3]).wellFormed = false := by decide +kernel
theorem test_fibre_frame_too_short : (Instr.fibreFrameArrival []).wellFormed = false := by decide +kernel
theorem test_unit_empty : (Instr.moduleUnitArrival []).wellFormed = false := by decide +kernel
theorem test_host_bytes_empty : (Instr.controlMessageReceived []).wellFormed = false := by decide +kernel
theorem test_well_formed : (Instr.homeFrameArrival [1, 2, 3, 4]).wellFormed = true ∧ Instr.powerOn.wellFormed = true := by
  decide +kernel

/-! ## The spec's worked examples -/

/-- R6: the check over "123456789"; R22: the CRC-16 over the same characters. -/
theorem test_checks :
    checkOf [0x31, 0x32, 0x33, 0x34, 0x35, 0x36, 0x37, 0x38, 0x39] = 0xCBF43926
      ∧ crc16Of [0x31, 0x32, 0x33, 0x34, 0x35, 0x36, 0x37, 0x38, 0x39] = 0x29B1 := by decide +kernel

/-- R6: the register takes the generator's bits in reversed order. -/
theorem test_polynomial : checkBit 1 = checkPolynomial.reverse := by decide +kernel

/-- R10: a distance of exactly 32768 is a duplicate. -/
theorem test_distances :
    classOf 0 65535 = .gap ∧ classOf 0 0 = .inOrder ∧ classOf 32767 0 = .gap ∧ classOf 32768 0 = .duplicate
      ∧ classOf 65535 0 = .duplicate := by decide +kernel

/-- R12: 65535 is followed by 1, and the first session has epoch 1. -/
theorem test_epochs : nextEpoch 0xFFFF = 1 ∧ nextEpoch 0 = 1 ∧ nextEpoch 6 = 7 := by decide +kernel

/-- R44: the cell needs of the table's frame lengths. -/
theorem test_cell_need :
    [60, 128, 129, 256, 1281, 1408, 1409, 1522].map cellNeed = [1, 1, 2, 2, 11, 11, 12, 12] := by decide +kernel

/-- R127: one tick, from the table. -/
theorem test_decay :
    ({ Damping.atReset .fibre with factor := 32 }).decayed 3311 = 2898
      ∧ ({ Damping.atReset .fibre with factor := 32 }).decayed 7 = 6
      ∧ ({ Damping.atReset .fibre with factor := 1 }).decayed 12000 = 11954
      ∧ ({ Damping.atReset .fibre with factor := 255 }).decayed 12000 = 47
      ∧ ({ Damping.atReset .fibre with factor := 255 }).decayed 1 = 0 := by decide +kernel

/-- R125: a penalty of 11,500 becomes 12,000. -/
theorem test_penalty_ceiling : (Damping.atReset .fibre).stepped 11500 = 12000 := by decide +kernel

/-- R131: the table's samples, one after another. -/
theorem test_smoothing :
    smoothed none 310 = 310 ∧ smoothed (some 310) 200 = 297 ∧ smoothed (some 297) 520 = 324 ∧ smoothed (some 324) 318 = 324
      ∧ smoothed (some 324) 100 = 296 ∧ smoothed (some 296) 60000 = 7759 ∧ smoothed (some 240) 100 = 223 := by decide +kernel

/-- R133: the rewind periods of the table. -/
theorem test_rewind_periods :
    [some 223, some 600, some 25, some 15000, none].map (fun t => rewindPeriod t 20) = [110, 260, 40, 5000, 1000] := by
  decide +kernel

/-- R134: the drain limits of the table. -/
theorem test_drain_limits :
    [some 223, some 600, some 0, some 60000, none].map (fun t => drainLimit t 100) = [145, 220, 100, 10000, 500] := by
  decide +kernel

/-- R135: the gaps of the table. -/
theorem test_pacing_gaps :
    [pacingGap 1538 8000, pacingGap 16 8000, pacingGap 76 100000, pacingGap 16 64, pacingGap 1538 64]
      = [1538, 16, 7, 2000, 192250] := by decide +kernel

/-- R20: an OPEN of epoch 7 on the fibre, written out byte by byte from the layout, up to its check. -/
theorem test_open_header :
    (CarryFrame.header ⟨1, 1, 0, false, false, false, 1, 0, 7, 0, 1, 0, []⟩) = [1, 1, 0x01, 0, 0, 7, 0, 0, 0, 1, 0, 0] := by
  decide +kernel

/-- R20: a void stub of SIGNAL on the radio: lane 1, SEQ, RESENT and VOID set, bearer 2. -/
theorem test_stub_flags : (CarryFrame.flagByte ⟨1, 3, 1, true, true, true, 2, 0, 7, 5, 1, 0, []⟩) = 0x7A := by decide +kernel

/-- R24: a tag of 5 with priority 6, and an untagged frame. -/
theorem test_tags :
    tagAndPriority (List.replicate 12 0 ++ [0x81, 0x00, 0xC0, 0x05]) = (some 5, 6)
      ∧ tagAndPriority (List.replicate 60 0) = (none, 0) := by decide +kernel

/-- R86: the run of marks of the table, from 5 good REWIND marks on. -/
theorem test_mark_run :
    (⟨5, 2⟩ : MarkCounters).mark .rewind 6 = (⟨6, 0⟩, true) ∧ (⟨6, 0⟩ : MarkCounters).mark .rewind 6 = (⟨6, 0⟩, false)
      ∧ (⟨6, 0⟩ : MarkCounters).mark .replay 6 = (⟨0, 1⟩, false) := by decide +kernel

/-! ## The commands, one step each -/

theorem test_step_runs_the_front :
    step { idle with pending := [.homeLinkChange true, .powerOn] } = .next { idle with
      pending := [.powerOn], home := ⟨true, [], []⟩ } := rfl
theorem test_step_idles : step idle = .next { idle with clock := 5000100 } := rfl

theorem test_power_on : (after .powerOn onBoth).link.outbound = [.notice 0 .started 0 (some 3)] := by decide +kernel
theorem test_reset_n :
    (after .resetNAsserted State.reset).events.attn = false ∧ (after .powered (after .resetNAsserted onFibre)).resetHeld = true := by
  decide +kernel

/-- R22: IDENTIFY with tag 9, byte by byte, with its CRC-16 worked by hand. -/
theorem test_control_message :
    (after (.controlMessageReceived [0x55, 0xA5, 0x00, 0x00, 0x01, 0x09, 0x26, 0xD8]) idle).link.inbound = [⟨0x01, 0x09, []⟩] := by
  decide +kernel
theorem test_control_message_bad :
    (after (.controlMessageReceived [0xA5, 0x00, 0x00, 0x01, 0x09, 0x26, 0xD9]) idle).counts.link.bad = 1 := by decide +kernel
theorem test_inter_byte :
    (after .interByteTimeout (after (.controlMessageReceived [0xA5, 0x00]) idle)).counts.link.bad = 1 := by decide +kernel
theorem test_message_sent : (after .messageSent State.reset).link.outbound = [] := by decide +kernel
theorem test_soft_reset_keeps_the_epoch :
    (after .messageSent (after .reset (asked 0x15 [] onFibre))).session.epoch = 7
      ∧ (after .messageSent (after .reset (asked 0x15 [] onFibre))).selector.status = .stopped := by decide +kernel

/-- R22, R176, R178: the STARTED notice in its 13 bytes, and the reply to an IDENTIFY with tag 9; each CRC-16 worked by hand. -/
theorem test_notice_bytes :
    (after .messageSent State.reset).link.sent = [0xA5, 0, 6, 0x60, 0, 0, 0, 0, 0, 0, 3, 0x06, 0x6A] := by decide +kernel
theorem test_reply_bytes :
    (after .messageSent (after .identify (asked 0x01 [] idle))).link.sent =
      [0xA5, 0, 7, 0x81, 9, 0, 0x53, 0xA4, 1, 0xA1, 1, 1, 0x07, 0x73] := by decide +kernel

/-- R172: a kind of 0x80, and a length of 513, are dropped; no byte leaves a message in progress and its gap alone. -/
theorem test_message_drops :
    (after (.controlMessageReceived [0xA5, 0x00, 0x00, 0x80, 0x09, 0x0E, 0x71]) idle).counts.link.bad = 1
      ∧ (after (.controlMessageReceived [0xA5, 0x02, 0x01]) idle).counts.link.bad = 1 := by decide +kernel
theorem test_no_byte :
    (after (.controlMessageReceived []) { idle with link := { idle.link with rx := [0xA5, 0], rxTimer := some 7 } }).link.rxTimer =
      some 7 := by decide +kernel

/-- R108, R120, R185: a soft reset with both bearers UP and seven notices behind its reply: FIBRE_DOWN takes the last place, and
RADIO_DOWN is lost. -/
theorem test_soft_reset_counts_a_lost_notice :
    (after .messageSent { onBoth with link := ⟨[], none, [],
      .reply 0x95 9 [0] :: List.replicate 7 (.notice 1 .laneDrop 2 (some 0)), true, []⟩ }).counts.link.noticeLost = 1 := by
  decide +kernel

theorem test_unknown : (after .unknownRequest (asked 0x30 [] idle)).link.outbound = [.reply 0xB0 9 [4]] := by decide +kernel
theorem test_identify :
    (after .identify (asked 0x01 [] idle)).link.outbound = [.reply 0x81 9 [0, 0x53, 0xA4, 0x01, 0xA1, 1, 1]] := by decide +kernel
/-- R175: a part that has just started, field by field. -/
theorem test_get_status :
    (after .getStatus (asked 0x02 [] idle)).link.outbound =
      [.reply 0x82 9 [0, 0, 0, 0, 0, 0, 0, 0, 1, 0, 1, 0, 0, 0, 8, 0, 0, 0, 0, 0, 0, 0, 0, 0, 0, 0, 0xFF, 0xFF, 0xFF, 0xFF, 0,
        0, 0, 0, 0, 0, 0, 0, 0]] := by decide +kernel
theorem test_set_lane :
    (after .setLane (asked 0x03 [0, 1, 0, 10, 0, 0, 50, 1, 0] idle)).lanes.voice.profile =
      ⟨true, 10, .dropNew, 50, true, false⟩ := by decide +kernel
theorem test_set_lane_limit :
    (after .setLane (asked 0x03 [0, 1, 0, 25, 0, 0, 50, 1, 0] idle)).link.outbound = [.reply 0x83 9 [7]] := by decide +kernel
/-- R27: the reset profile of VOICE. -/
theorem test_get_lane :
    (after .getLane (asked 0x04 [0] idle)).link.outbound = [.reply 0x84 9 [0, 1, 0, 24, 1, 0, 80, 0, 0, 0, 0]] := by decide +kernel
theorem test_set_class :
    (after .setClass (asked 0x05 [15, 1, 0x0F, 0xFF, 0xFF, 2] idle)).classMap.get 15 = ⟨true, .tag 4095, .any, .priority⟩ := by
  decide +kernel
theorem test_set_class_bad :
    (after .setClass (asked 0x05 [15, 1, 0x10, 0x00, 0xFF, 2] idle)).link.outbound = [.reply 0x85 9 [2]] := by decide +kernel
theorem test_get_class :
    (after .getClass (asked 0x06 [16] idle)).link.outbound = [.reply 0x86 9 [2]] := by decide +kernel
theorem test_set_judge :
    (after .setJudge (asked 0x07 [2, 0x03, 0xE8, 5, 1, 1, 0, 10, 3, 140] idle)).radioJudge.settings =
      ⟨1000, 5, 1, 1, 10, 3, -140⟩ := by decide +kernel
theorem test_set_judge_bad :
    (after .setJudge (asked 0x07 [1, 0x00, 0x09, 5, 1, 1, 0, 10, 3, 0] idle)).link.outbound = [.reply 0x87 9 [2]] := by
  decide +kernel
/-- R122: the fibre's reset settings. -/
theorem test_get_judge :
    (after .getJudge (asked 0x08 [1] idle)).link.outbound = [.reply 0x88 9 [0, 1, 0, 100, 10, 0, 30, 0, 10, 3, 0]] := by
  decide +kernel
theorem test_set_damping :
    (after .setDamping (asked 0x09 [2, 0, 5, 0x03, 0xE8, 0, 9, 0, 8, 255, 0x02, 0x58] idle)).radioJudge.damping =
      ⟨5, 1000, 9, 8, 255, 600⟩ := by decide +kernel
theorem test_set_damping_out_of_order :
    (after .setDamping (asked 0x09 [2, 0, 5, 0x03, 0xE8, 0, 9, 0, 9, 255, 0x02, 0x58] idle)).link.outbound =
      [.reply 0x89 9 [2]] := by decide +kernel
theorem test_set_carry :
    (after .setCarry (asked 0x0A [2, 0, 0, 0, 0, 1, 0x88, 0xB5, 16, 6, 4, 8, 5, 0, 20, 0, 100, 0, 60] idle)).carry.address =
      0x020000000001 := by decide +kernel
theorem test_set_carry_wrong_state :
    (after .setCarry (asked 0x0A [2, 0, 0, 0, 0, 1, 0x88, 0xB5, 16, 6, 4, 8, 5, 0, 20, 0, 100, 0, 60] onFibre)).link.outbound =
      [.reply 0x8A 9 [6]] := by decide +kernel
theorem test_set_module :
    (after .setModule (asked 0x0B [1, 20, 30, 4, 0, 120, 0, 0, 1, 0, 50, 20, 3, 0, 0, 0x1F, 0x40] idle)).radio.settings.linger =
      0 := by decide +kernel
theorem test_set_module_bad :
    (after .setModule (asked 0x0B [1, 20, 30, 4, 0, 120, 0, 0, 2, 0, 50, 20, 3, 0, 0, 0x1F, 0x40] idle)).link.outbound =
      [.reply 0x8B 9 [2]] := by decide +kernel
theorem test_set_supply : (after .setSupply (asked 0x0C [1] idle)).lanes.supply = .battery := by decide +kernel
theorem test_start :
    (after .start (asked 0x0D [] idle)).selector.status = .outage ∧ (after .start (asked 0x0D [] idle)).radio.status = .waking := by
  decide +kernel
theorem test_halt_immediate :
    (after .haltImmediate (asked 0x0E [0] draining)).selector.status = .stopped
      ∧ ((after .haltImmediate (asked 0x0E [0] draining)).selector.record.map HandoverRecord.outcome) = some (some .halted) := by
  decide +kernel
/-- R171: a unit is being handed over; HALT cuts it off and keeps the handshake, which its completion then moves on (log entry 11).
-/
def handing : State :=
  { onRadio with radio := { readyRadio with
      leaving := some ⟨⟨1, 3, 0, true, false, false, 2, 0, 7, 1, 1, 60, List.replicate 60 7⟩, List.replicate 76 7, false⟩
      handshake := .handing .readyWait } }
theorem test_halt_keeps_the_handshake :
    (after .haltImmediate (asked 0x0E [0] handing)).radio.handshake = .handing .readyWait
      ∧ (after .haltImmediate (asked 0x0E [0] handing)).radio.leaving = none
      ∧ (after (.frameDepartureComplete .radio) (after .haltImmediate (asked 0x0E [0] handing))).radio.handshake = .settling 5000050
    := by decide +kernel
theorem test_halt_at_boundary :
    (after .haltAtBoundary (asked 0x0E [1] onBoth)).selector.status = .stopped
      ∧ (after .haltAtBoundary (asked 0x0E [1] onBoth)).fibreJudge.verdict = .down := by decide +kernel
theorem test_pin : (after .pin (asked 0x0F [2] onBoth)).selector.status = .on .radio := by decide +kernel
theorem test_pin_busy : (after .pin (asked 0x0F [2] draining)).link.outbound = [.reply 0x8F 9 [1]] := by decide +kernel
theorem test_handover_now :
    (after .handoverNow (asked 0x10 [] { onBoth with sender := holdsOne })).selector.status = .draining .fibre := by decide +kernel
theorem test_handover_not_eligible :
    (after .handoverNow (asked 0x10 [] onFibre)).link.outbound = [.reply 0x90 9 [5]] := by decide +kernel
theorem test_read_events :
    (after .readEvents (asked 0x11 [] idle)).link.outbound = [.reply 0x91 9 [0, 0, 0, 1, 3, 0, 0, 0, 0]] := by decide +kernel
theorem test_clear_events :
    (after .clearEvents (asked 0x12 [0, 0, 1] idle)).events = ⟨0, 0, .latch, 1, false⟩ := by decide +kernel
theorem test_set_alert :
    (after .setAlert (asked 0x13 [0xF8, 0, 1, 1] idle)).events = ⟨1, 1, .follow, 1, true⟩ := by decide +kernel
theorem test_read_counts :
    (after .readCounts (asked 0x14 [4, 1] { idle with counts := { Counts.zero with link := ⟨258, 0, 1⟩ } })).link.outbound =
      [.reply 0x94 9 [0, 0, 0, 1, 2, 0, 0, 0, 0, 0, 0, 0, 1]] := by decide +kernel
theorem test_read_counts_clears :
    (after .readCounts (asked 0x14 [4, 1] { idle with counts := { Counts.zero with link := ⟨258, 0, 1⟩ } })).counts.link =
      ⟨0, 0, 0⟩ := by decide +kernel
theorem test_reset : (after .reset (asked 0x15 [] idle)).link.resetTaken = true := by decide +kernel

/-- A home frame of 60 bytes without its frame check, untagged; and the same as the line carries it. -/
def homeFrame : List Byte := List.replicate 60 0
def onLine (frame : List Byte) : List Byte := frame ++ bytesOfCheck (checkOf frame)

theorem test_home_frame :
    (after (.homeFrameArrival (onLine homeFrame)) outage).lanes.bulk.queue = [⟨homeFrame, 5000⟩] := by decide +kernel
theorem test_home_frame_stopped :
    (after (.homeFrameArrival (onLine homeFrame)) { idle with home := ⟨true, [], []⟩ }).counts.carry.stoppedDrop = 1 := by decide +kernel
theorem test_home_link : (after (.homeLinkChange true) idle).home.linkUp = true := by decide +kernel
theorem test_delivery_complete :
    (after .deliveryComplete { idle with home := ⟨true, [⟨[1], .voice⟩, ⟨[2], .bulk⟩], []⟩ }).home.delivery = [⟨[2], .bulk⟩] := by
  decide +kernel

/-- R21, R37: what leaves the home port is the frame and its frame check, least significant byte first; the frame is R6's example. -/
theorem test_delivered_bytes :
    (after .deliveryComplete { idle with home := ⟨true, [⟨[0x31, 0x32, 0x33, 0x34, 0x35, 0x36, 0x37, 0x38, 0x39], .voice⟩], []⟩ }
      ).home.sent = [0x31, 0x32, 0x33, 0x34, 0x35, 0x36, 0x37, 0x38, 0x39, 0x26, 0x39, 0xF4, 0xCB] := by decide +kernel

/-- A carry frame of a kind, with no payload, in epoch 7. -/
def plainOf (kind : Byte) (b : BitVec 2) (tag : Byte) (epoch ackno : BitVec 16) : CarryFrame :=
  ⟨1, kind, 0, false, false, false, b, tag, epoch, 0, ackno, 0, []⟩
/-- Sequenced DATA of VOICE with 60 bytes. -/
def dataOf (seq : Seq) : CarryFrame := ⟨1, 3, 0, true, false, false, 1, 0, 7, seq, 1, 60, List.replicate 60 7⟩
/-- A carry frame as the concentrator's Ethernet frame brings it. -/
def fromFibre (f : CarryFrame) : Instr :=
  .fibreFrameArrival (ethernetOf 0x020000000009 0x020000000001 0x88B5 (encodeCarry f))

/-- A carry frame as a data unit of the module. -/
def fromModule (f : CarryFrame) : Instr := .moduleUnitArrival (encodeCarry f)

theorem test_fibre_tally : (after (fromFibre (plainOf 4 1 0 7 2)) { onFibre with sender := holdsOne }).sender.store = [] := by
  decide +kernel
theorem test_fibre_stale : (after (fromFibre (plainOf 4 1 0 8 2)) onFibre).counts.carry.staleEpoch = 1 := by decide +kernel
theorem test_data_in_order :
    (after (fromModule (dataOf 1)) onRadio).home.delivery = [⟨List.replicate 60 7, .voice⟩]
      ∧ (after (fromModule (dataOf 1)) onRadio).receiver.e = 2 := by decide +kernel
theorem test_data_gap : (after (fromModule (dataOf 2)) onRadio).receiver.discard = true := by decide +kernel
theorem test_unit_echo :
    (after (fromModule (plainOf 8 2 0 0 1))
      { onRadio with radioJudge := { upJudge .radio with table := [⟨0, 49000, 7, 60000⟩] } }).radioJudge.answered = true := by
  decide +kernel
theorem test_unit_probe :
    ((after (fromModule (plainOf 7 2 44 3 1)) onRadio).radio.leaving.map fun l => (l.frame.kind, l.frame.tag)) =
      some (8, 44) := by decide +kernel
theorem test_opened :
    (after (fromFibre (plainOf 2 1 0 7 1)) { onFibre with session := ⟨.opening, 7, some 6000000⟩, pause := ⟨true, false, false, false⟩ }
      ).session = ⟨.opened, 7, none⟩ := by decide +kernel

/-- A DATA frame leaving the fibre port. -/
def leavingData : Leaving := ⟨dataOf 1, List.replicate 76 7, false⟩

theorem test_departure :
    (after (.frameDepartureComplete .fibre) { onFibre with fibre := ⟨true, some leavingData⟩ }).counts.carry.sent = 1 := by
  decide +kernel
theorem test_departure_settles :
    (after (.frameDepartureComplete .radio)
      { onRadio with radio := { readyRadio with leaving := some leavingData, handshake := .handing .readyWait } }).radio.handshake =
        .settling 5000050 := by decide +kernel
/-- R101, R105: the completion of a unit offered again is the boundary at which a stopped pass ends. -/
theorem test_reoffered_unit_ends_a_stopped_pass :
    (after (.frameDepartureComplete .radio)
      { onRadio with
        radio := { readyRadio with leaving := some { leavingData with reoffer := true }, handshake := .handing .readyWait }
        sender := { Sender.atReset with pass := .waiting, passStopping := true }
        pause := ⟨false, false, true, false⟩ }).pause.pass = false := by decide +kernel
theorem test_tally_timer :
    ((after .tallyTimerExpiry { onFibre with sender := { Sender.atReset with tallyOwed := true, tallyTimer := some 5005000 } }
      ).fibre.leaving.map fun l => l.frame.kind) = some 4 := by decide +kernel
theorem test_open_retry :
    ((after .openRetryTimerExpiry { onFibre with session := ⟨.opening, 7, some 6000000⟩, pause := ⟨true, false, false, false⟩ }
      ).fibre.leaving.map fun l => l.frame.kind) = some 1 := by decide +kernel
theorem test_rewind_timer :
    (after .rewindTimerExpiry { onFibre with receiver := ⟨5, true, 1, some 5110000, ⟨0, 0⟩, ⟨0, 0⟩⟩ }).receiver.attempts = 2 := by
  decide +kernel
theorem test_rewind_exhausted :
    (after .rewindTimerExpiry { onBoth with receiver := ⟨5, true, 4, some 5110000, ⟨0, 0⟩, ⟨0, 0⟩⟩ }).selector.status = .on .radio := by
  decide +kernel
theorem test_interval_end :
    (after (.intervalEnd .fibre) onFibre).fibreJudge.badRun = 1 ∧ (after (.intervalEnd .fibre) onFibre).fibreJudge.timer = some 5200000
    := by decide +kernel
theorem test_interval_end_falls :
    (after (.intervalEnd .fibre) { onBoth with fibreJudge := { upJudge .fibre with badRun := 2 } }).selector.status = .on .radio := by
  decide +kernel
theorem test_probe_entry :
    (after (.probeEntryExpiry .radio 4)
      { onRadio with radioJudge := { upJudge .radio with table := [⟨4, 49000, 6, 60000⟩] } }).counts.probeRadio.lost = 1 := by
  decide +kernel
theorem test_decay_tick :
    (after (.decayTick .fibre) { onFibre with fibreJudge := { upJudge .fibre with penalty := 3311 } }).fibreJudge.penalty = 2898 := by
  decide +kernel
theorem test_fibre_down : (after .fibreLinkDown onBoth).selector.status = .on .radio := by decide +kernel
theorem test_fibre_down_outage : (after .fibreLinkDown onFibre).selector.status = .outage := by decide +kernel
theorem test_fibre_up : (after .fibreLinkUp idle).fibre.linkUp = true := by decide +kernel
theorem test_return_hold : (after .returnHoldExpiry holding).selector.status = .on .fibre := by decide +kernel
theorem test_drain_timer :
    ((after .drainTimerExpiry draining).selector.record.map HandoverRecord.outcome) = some (some .expired) := by decide +kernel

theorem test_powered : (after .powered (awaiting .waking .powerUp 9000000 idle)).radio.status = .searching := by decide +kernel
theorem test_attached : (after .attached (awaiting .searching .attach 9000000 outage)).radio.status = .ready := by decide +kernel
theorem test_attach_failed : (after .attachFailed (awaiting .searching .attach 9000000 outage)).radio.rounds = 1 := by decide +kernel
theorem test_search_round :
    (after .searchRoundEnd (awaiting .searching .attach 9000000 { outage with radio := { Radio.atReset with rounds := 4 } })).radio.cause
      = some .searchFailed := by decide +kernel
theorem test_signal :
    (after (.signalAnswer (some (-44))) (awaiting .ready .signal 9000000 onRadio)).radio.lastReading = some (-44) := by decide +kernel
theorem test_signal_out_of_range :
    (after (.signalAnswer (some (-43))) (awaiting .ready .signal 9000000 onRadio)).radio.lastReading = none := by decide +kernel
theorem test_detached : (after .detached onRadio).radio.status = .searching := by decide +kernel
theorem test_off :
    (after .offAnswer (awaiting .releasing .powerOff 9000000 { idle with radio := { Radio.atReset with cause := some .fault } })
      ).radio.status = .resting := by decide +kernel
theorem test_response_late :
    (after .responseTimeout (awaiting .waking .powerUp 9000000 idle)).radio.cause = some .fault := by decide +kernel
theorem test_linger : (after .lingerExpiry onBoth).radio.status = .releasing := by decide +kernel
theorem test_rest :
    (after .restTimerExpiry { idle with radio := { Radio.atReset with status := .resting, rest := some 9000000 } }).radio.status = .off
    := by decide +kernel
theorem test_poll_start :
    (after .pollStartPasses { onRadio with radio := { readyRadio with handshake := .settling 5000050 } }).radio.handshake =
      .watching 5020050 := by decide +kernel
theorem test_ready_seen :
    (after .modReadySeen { onRadio with radio := { readyRadio with handshake := .watching 5020050, stallCount := 2 } }).radio.stallCount =
      0 := by decide +kernel
theorem test_ready_late :
    (after .readyLimitPasses { onRadio with radio := { readyRadio with handshake := .watching 5020050, held := some leavingData } }
      ).radio.handshake = .stalled 5040050 := by decide +kernel
theorem test_ready_late_fails :
    (after .readyLimitPasses { onRadio with radio := { readyRadio with handshake := .watching 5020050, stallCount := 2 } }).radio.cause =
      some .fault := by decide +kernel
theorem test_pacing_gap :
    (after .pacingGapEnd { onRadio with radio := { readyRadio with handshake := .pacing 5000016 } }).radio.handshake = .free := by
  decide +kernel
theorem test_decode_answers_none :
    decodeTableWord 16 0x1234 = none ∧ idle.withFetchWord 16 0x1234 = idle := ⟨rfl, rfl⟩

/-! ## Witnesses: the hypotheses of each statement can be met -/

/-- RESET_N is held. -/
def held : State := after .resetNAsserted onFibre

theorem witness_StepRunsTheFrontCommand : idle.resetHeld = false ∧ held.resetHeld = true := by decide +kernel
theorem witness_EveryCommandCompletes : Instr.start ≠ .powerOn ∧ Instr.start ≠ .resetNAsserted := by decide +kernel
theorem witness_HeldResetStopsThePart :
    held.resetHeld = true ∧ Instr.start ≠ .powerOn ∧ Instr.start ≠ .resetNAsserted ∧ Instr.start ≠ .homeLinkChange true
      ∧ Instr.start ≠ .homeLinkChange false ∧ Instr.start ≠ .fibreLinkDown ∧ Instr.start ≠ .fibreLinkUp := by decide +kernel

/-- A RESET was taken; its reply is the head. -/
def closing : State := after .reset (asked 0x15 [] onFibre)

/-- R108, R120: a judge that is UP is reported by the soft reset where its flag is clear and unmasked. -/
theorem witness_MessageSent_both_up :
    closing.fibreJudge.verdict = .up ∧ closing.events.flags.getLsbD 2 = false ∧ closing.events.mask.getLsbD 2 = false
      ∧ (OutMessage.reply 0x95 9 [3]).whole = true ∧ (OutMessage.notice 0 .started 0 (some 3)).whole = true := by decide +kernel

theorem witness_MessageSent :
    (idle.resetHeld = false ∧ idle.link.outbound = [])
      ∧ (State.reset.resetHeld = false ∧ State.reset.link.outbound = [.notice 0 .started 0 (some 3)]
        ∧ (State.reset.link.resetTaken = false ∨ (OutMessage.notice 0 .started 0 (some 3)).answersReset = false))
      ∧ (closing.resetHeld = false ∧ closing.link.outbound = [.reply 0x95 9 [0]] ∧ closing.link.resetTaken = true) := by
  decide +kernel

/-- Two requests of the host, one with the longest body. -/
def twoRequests : List Request := [⟨1, 9, []⟩, ⟨0x7F, 0, List.replicate 512 0xA5⟩]

theorem witness_EnvelopesRoundTrip :
    (∀ r ∈ twoRequests, r.kind.toNat < 128 ∧ r.body.length ≤ 512)
      ∧ (twoRequests.flatMap fun r => envelopeOf r.kind r.tag r.body).length ≤ 528 := by decide +kernel

/-- The inbound queue holds some requests. -/
def waitingInbound (n : Nat) : State := { idle with link := ⟨[], none, List.replicate n ⟨1, 0, []⟩, [], false, []⟩ }

theorem witness_HostMessageArrives :
    (waitingInbound 3).resetHeld = false ∧ (⟨1, 9, []⟩ : Request).kind.toNat < 128
      ∧ (waitingInbound 3).link.rx ++ [0xA5, 0x00, 0x00, 0x01, 0x09, 0x26, 0xD8] = envelopeOf 1 9 []
      ∧ (waitingInbound 3).link.inbound.length < 4
      ∧ (waitingInbound 4).link.rx ++ [0xA5, 0x00, 0x00, 0x01, 0x09, 0x26, 0xD8] = envelopeOf 1 9 []
      ∧ 4 ≤ (waitingInbound 4).link.inbound.length := by decide +kernel

/-- The first bytes of a message wait. -/
def halfMessage : State := { idle with link := ⟨[0xA5, 0x00], some 5020000, [], [], false, []⟩ }

theorem witness_HostMessageArrives_partial_bad_late :
    (halfMessage.resetHeld = false ∧ (⟨1, 9, []⟩ : Request).body.length ≤ 512
        ∧ halfMessage.link.rx ++ [0x00, 0x01] ++ [0x09, 0x26, 0xD8] = envelopeOf 1 9 [])
      ∧ (([0, 0, 1, 9] : List Byte) = bytesOf16 (BitVec.ofNat 16 0) ++ [1, 9] ++ [] ∧ (0 : BitVec 16) ≠ crc16Of [0, 0, 1, 9]
        ∧ (∀ x ∈ ([0, 0, 1, 9] : List Byte) ++ bytesOf16 0, x ≠ 0xA5#8)
        ∧ idle.link.rx ++ [0xA5, 0, 0, 1, 9, 0, 0] = [0xA5#8] ++ [0, 0, 1, 9] ++ bytesOf16 0)
      ∧ (128 ≤ (⟨0x80, 9, []⟩ : Request).kind.toNat ∧ crc16Of [0, 0, 0x80, 9] = 0x0E71
        ∧ ∀ x ∈ ([0, 0, 0x80, 9] : List Byte) ++ bytesOf16 0x0E71, x ≠ 0xA5#8)
      ∧ (512 < ((2 : Byte) ++ (1 : Byte)).toNat ∧ ¬512 < ((2 : Byte) ++ (0 : Byte)).toNat
        ∧ idle.link.rx ++ [0xA5, 2, 1] = [0xA5#8, 2, 1])
      ∧ (halfMessage.link.rxTimer = some 5020000 ∧ ∀ x ∈ halfMessage.link.rx.drop 1, x ≠ 0xA5#8)
      ∧ idle.link.rxTimer = none := by decide +kernel

/-- The outbound queue is full. -/
def fullOutbound : State :=
  { asked 0x01 [] idle with link := ⟨[], none, [⟨1, 9, []⟩], List.replicate 8 (.notice 0 .started 0 (some 3)), false, []⟩ }

theorem witness_RequestsWaitOrAreRefused :
    (fullOutbound.resetHeld = false ∧ 8 ≤ fullOutbound.link.outbound.length ∧ (Instr.identify, (0x01 : Byte), 0) ∈ quietRequests
        ∧ closing.link.resetTaken = true ∧ idle.link.inbound = [] ∧ (Instr.start, (0x0D : Byte), 0) ∈ actingRequests)
      ∧ (Takes (asked 0 [] idle) 0 9 [] ∧ Takes (asked 0x16 [] idle) 0x16 9 [] ∧ Takes (asked 0x15 [] idle) 0x15 9 []
        ∧ Takes (asked 0x01 [5] idle) 0x01 9 [5] ∧ Takes (asked 0x0D [5] idle) 0x0D 9 [5]) := by decide +kernel
theorem witness_RequestsWaitOrAreRefused_other_kind :
    (Takes (asked 0x01 [] idle) 0x01 9 [] ∧ (0x01 : Byte) ≠ 0x02 ∧ (Instr.getStatus, (0x02 : Byte), 0) ∈ quietRequests
        ∧ (0x01 : Byte) ≠ 0x0D ∧ Takes (asked 0x0E [1] idle) 0x0E 9 [1] ∧ Takes (asked 0x0E [0] idle) 0x0E 9 [0]) := by
  decide +kernel

theorem witness_ReadingRequestsAnswer :
    Takes (asked 0x01 [] idle) 0x01 9 [] ∧ Takes (asked 0x02 [] idle) 0x02 9 []
      ∧ Takes (asked 0x04 [3] idle) 0x04 9 [codeOfLane .bulk] ∧ Takes (asked 0x04 [4] idle) 0x04 9 [4]
      ∧ Takes (asked 0x06 [15] idle) 0x06 9 [BitVec.ofNat 8 (15 : Fin 16).val] ∧ Takes (asked 0x06 [16] idle) 0x06 9 [16]
      ∧ Takes (asked 0x08 [1] idle) 0x08 9 [codeOfBearer (some .fibre)]
      ∧ Takes (asked 0x08 [2] idle) 0x08 9 [codeOfBearer (some .radio)] ∧ Takes (asked 0x08 [0] idle) 0x08 9 [0]
      ∧ Takes (asked 0x08 [3] idle) 0x08 9 [3] ∧ Takes (asked 0x11 [] idle) 0x11 9 [] := by decide +kernel

theorem witness_ReplyFieldsStandInOrder :
    idle.selector.record = none ∧ draining.selector.record = some ⟨some .fibre, .radio, .planned, 5000, none⟩ := by decide +kernel

theorem witness_ReadingRequestsAnswer_counts :
    Takes (asked 0x14 [0, 0] idle) 0x14 9 [0, 0] ∧ Takes (asked 0x14 [1, 1] idle) 0x14 9 [1, 1]
      ∧ Takes (asked 0x14 [2, 1] idle) 0x14 9 [2, 1] ∧ Takes (asked 0x14 [3, 0] idle) 0x14 9 [3, 0]
      ∧ Takes (asked 0x14 [4, 1] idle) 0x14 9 [4, 1] ∧ Takes (asked 0x14 [5, 0] idle) 0x14 9 [5, 0]
      ∧ Takes (asked 0x14 [4, 2] idle) 0x14 9 [4, 2] := by decide +kernel

/-! Bodies at the ends of their ranges. -/

theorem witness_SettingsBodiesRoundTrip_lane_class :
    readLaneBody [3, 0, 2, 0, 1, 0xEA, 0x60, 0, 1] = some (.bulk, ⟨false, 512, .dropOld, 60000, false, true⟩)
      ∧ readLaneBody [3, 0, 2, 1, 1, 0xEA, 0x60, 0, 1] = none ∧ readLaneBody [3, 0, 2, 0, 1, 0xEA, 0x61, 0, 1] = none
      ∧ readClassBody [15, 1, 0xFF, 0xFE, 7, 0] = some (15, ⟨true, .untagged, .level 7, .voice⟩)
      ∧ readClassBody [15, 1, 0xFF, 0xFE, 8, 0] = none := by decide +kernel

theorem witness_SettingsBodiesRoundTrip_judge_damping :
    readJudgeBody (fun b => (idle.judge b).settings) [2, 0x13, 0x88, 64, 64, 255, 0x03, 0xE8, 255, 44] =
        some (.radio, ⟨5000, 64, 64, 255, 1000, 255, -44⟩)
      ∧ readJudgeBody (fun b => (idle.judge b).settings) [2, 0x13, 0x89, 64, 64, 255, 0x03, 0xE8, 255, 44] = none
      ∧ readJudgeBody (fun b => (idle.judge b).settings) [1, 0, 10, 1, 0, 0, 0, 1, 1, 9] =
        some (.fibre, ⟨10, 1, 0, 0, 1, 1, -113⟩)
      ∧ readDampingBody [1, 0x1F, 0x40, 0x4E, 0x20, 0x4E, 0x20, 0x4E, 0x1F, 1, 0, 1] =
        some (.fibre, ⟨8000, 20000, 20000, 19999, 1, 1⟩) := by decide +kernel

theorem witness_SettingsBodiesRoundTrip :
    readCarryBody [0xFF, 0xFF, 0xFF, 0xFF, 0xFF, 0xFF, 0x06, 0x00, 63, 31, 15, 255, 100, 0x03, 0xE8, 0x13, 0x88, 0x0E, 0x10] =
        some ⟨0xFFFFFFFFFFFF, 0x0600, 63, 31, 15, 255, 100, 1000, 5000, 3600⟩
      ∧ readCarryBody [0x03, 0xFF, 0xFF, 0xFF, 0xFF, 0xFF, 0x06, 0x00, 63, 31, 15, 255, 100, 0x03, 0xE8, 0x13, 0x88, 0x0E, 0x10] =
        none
      ∧ readModuleBody [1, 60, 120, 15, 0x0E, 0x10, 0x0E, 0x10, 1, 0x03, 0xE8, 200, 15, 0, 1, 0x86, 0xA0] =
        some ⟨.hot, 60, 120, 15, 3600, 3600, .paced, 1000, 200, 15, 100000⟩ := by decide +kernel

/-- A SET_LANE body for VOICE with a limit of 2 under DROP_OLD, and one with a limit of 25. -/
def smallVoice : List Byte := [0, 1, 0, 2, 1, 0, 80, 0, 0]
def bigVoice : List Byte := [0, 1, 0, 25, 1, 0, 80, 0, 0]

theorem witness_SetLaneWritesAndTrims :
    (Takes (asked 0x03 smallVoice draining) 0x03 9 smallVoice ∧ (asked 0x03 smallVoice draining).draining = true)
      ∧ (Takes (asked 0x03 (List.replicate 9 9) idle) 0x03 9 (List.replicate 9 9) ∧ readLaneBody (List.replicate 9 9) = none)
      ∧ (Takes (asked 0x03 smallVoice idle) 0x03 9 smallVoice ∧ (asked 0x03 smallVoice idle).draining = false
        ∧ readLaneBody smallVoice = some (.voice, ⟨true, 2, .dropOld, 80, false, false⟩)
        ∧ idle.lanes.signal.profile.limit + idle.lanes.priority.profile.limit + idle.lanes.bulk.profile.limit + 24 = 512)
      ∧ (Takes (asked 0x03 bigVoice idle) 0x03 9 bigVoice
        ∧ readLaneBody bigVoice = some (.voice, ⟨true, 25, .dropOld, 80, false, false⟩)) := by decide +kernel

theorem witness_SettingsAndEventRequestsWrite :
    (Takes (asked 0x05 [15, 1, 0xFF, 0xFE, 8, 0] idle) 0x05 9 [15, 1, 0xFF, 0xFE, 8, 0]
        ∧ readClassBody [15, 1, 0xFF, 0xFE, 8, 0] = none
        ∧ Takes (asked 0x05 [15, 1, 0xFF, 0xFE, 7, 0] idle) 0x05 9 [15, 1, 0xFF, 0xFE, 7, 0]
        ∧ (readClassBody [15, 1, 0xFF, 0xFE, 7, 0]).isSome = true)
      ∧ (Takes (asked 0x07 [1, 0, 100, 11, 0, 30, 0, 10, 3, 0] draining) 0x07 9 [1, 0, 100, 11, 0, 30, 0, 10, 3, 0]
        ∧ draining.draining = true ∧ onFibre.draining = false
        ∧ Takes (asked 0x07 [1, 0, 100, 11, 0, 30, 0, 10, 3, 0] onFibre) 0x07 9 [1, 0, 100, 11, 0, 30, 0, 10, 3, 0]
        ∧ (readJudgeBody (fun b => (onFibre.judge b).settings) [1, 0, 100, 11, 0, 30, 0, 10, 3, 0]).isSome = true
        ∧ readJudgeBody (fun b => (onFibre.judge b).settings) [3, 0, 100, 11, 0, 30, 0, 10, 3, 0] = none)
      ∧ (Takes (asked 0x0A (carryBody .atReset) onFibre) 0x0A 9 (carryBody .atReset) ∧ onFibre.selector.status ≠ .stopped
        ∧ Takes (asked 0x0A (carryBody .atReset) idle) 0x0A 9 (carryBody .atReset) ∧ idle.selector.status = .stopped
        ∧ readCarryBody (carryBody .atReset) = some .atReset ∧ readCarryBody (List.replicate 19 0) = none)
      ∧ (Takes (asked 0x0B (moduleBody idle.radio.settings) idle) 0x0B 9 (moduleBody idle.radio.settings)
        ∧ Takes (asked 0x0B (moduleBody idle.radio.settings) onFibre) 0x0B 9 (moduleBody idle.radio.settings)
        ∧ readModuleBody (moduleBody idle.radio.settings) = some idle.radio.settings
        ∧ readModuleBody (List.replicate 17 0) = none)
      ∧ (Takes (asked 0x12 [0, 0, 1] idle) 0x12 9 [0, 0, 1] ∧ Takes (asked 0x13 [0, 0, 1, 1] idle) 0x13 9 [0, 0, 1, 1]
        ∧ Takes (asked 0x13 [0, 0, 1, 2] idle) 0x13 9 [0, 0, 1, 2] ∧ Takes (asked 0x15 [] idle) 0x15 9 []) :=
  ⟨by decide +kernel, by decide +kernel, by decide +kernel, by decide +kernel, by decide +kernel⟩

/-- A SET_DAMPING body for the fibre with suppress 3,000 and reuse 1,500. -/
def fibreDamping : List Byte := dampingBody .fibre (Damping.atReset .fibre)

theorem witness_SetDampingWrites :
    (Takes (asked 0x09 fibreDamping draining) 0x09 9 fibreDamping ∧ draining.draining = true)
      ∧ (Takes (asked 0x09 (List.replicate 12 0) onFibre) 0x09 9 (List.replicate 12 0)
        ∧ readDampingBody (List.replicate 12 0) = none)
      ∧ (Takes (asked 0x09 fibreDamping onFibre) 0x09 9 fibreDamping ∧ onFibre.draining = false
        ∧ readDampingBody fibreDamping = some (.fibre, Damping.atReset .fibre)
        ∧ decide ((Damping.atReset .fibre).suppress ≤ min onFibre.fibreJudge.penalty (Damping.atReset .fibre).ceiling) = false
        ∧ onFibre.fibreJudge.suppressed = false ∧ (Damping.atReset .fibre).suppress ≤ 3000) := by decide +kernel

theorem witness_SetSupplyWrites :
    Takes (asked 0x0C [2] onFibre) 0x0C 9 [2] ∧ Takes (asked 0x0C [1] onFibre) 0x0C 9 [1] ∧ onFibre.selector.wanted = .none
      ∧ Takes (asked 0x0C [0] onFibre) 0x0C 9 [0] ∧ onFibre.radio.settings.standby = .cold := by decide +kernel

/-- ON_FIBRE under a standby of HOT, on a supply, with a wanted level held. -/
def standingBy (supply : Supply) (level : WantedLevel) (r : Radio) : State :=
  { onFibre with
    lanes := { onFibre.lanes with supply := supply }
    selector := { onFibre.selector with wanted := level }
    radio := { r with settings := { r.settings with standby := .hot }, wantedHeld := level } }

/-- Levels that rise and fall: at a module that is OFF, READY with the linger timer running, and READY without it. -/
theorem witness_SetSupplyWrites_level :
    (Takes (asked 0x0C [0] (standingBy .battery .none Radio.atReset)) 0x0C 9 [0] ∧ Radio.atReset.status = .off
        ∧ (standingBy .battery .none Radio.atReset).selector.status = .on .fibre
        ∧ (standingBy .battery .none Radio.atReset).selector.wanted = .none)
      ∧ (readyRadio.status = .ready ∧ readyRadio.outstanding = none ∧ readyRadio.linger = none ∧ readyRadio.releaseDue = false
        ∧ readyRadio.settings.linger ≠ 0)
      ∧ (Takes (asked 0x0C [1] (standingBy .mains .active readyRadio)) 0x0C 9 [1]
        ∧ (standingBy .mains .active readyRadio).selector.wanted = .active) := by decide +kernel

/-- R160, R164: a raised level wakes a module that is OFF and stops the linger timer of one that is READY; a fallen one starts it,
and waits behind a SIGNAL. -/
theorem test_set_supply_moves_the_module :
    (after .setSupply (asked 0x0C [0] (standingBy .battery .none Radio.atReset))).radio.status = .waking
      ∧ (after .setSupply (asked 0x0C [0] (standingBy .battery .none { readyRadio with linger := some 9000000 }))).radio.linger = none
      ∧ (after .setSupply (asked 0x0C [1] (standingBy .mains .active readyRadio))).radio.linger = some 305000000
      ∧ (after .setSupply (asked 0x0C [1] (standingBy .mains .active
        { readyRadio with outstanding := some ⟨.signal, 7000000⟩ }))).radio.linger = none := by decide +kernel

/-- STOPPED with the fibre's link up and a READY module that lingers. -/
def lingering : State :=
  { idle with
    fibre := ⟨true, none⟩
    radio := { readyRadio with wantedHeld := .none, linger := some 9000000 } }

theorem witness_StartBeginsCarrying :
    (Takes (asked 0x0D [] onFibre) 0x0D 9 [] ∧ onFibre.selector.status ≠ .stopped)
      ∧ (Takes (asked 0x0D [] idle) 0x0D 9 [] ∧ idle.selector.status = .stopped ∧ idle.selector.wanted = .none
        ∧ idle.radio.status = .off ∧ idle.selector.pin = .auto)
      ∧ (Takes (asked 0x0D [] lingering) 0x0D 9 [] ∧ lingering.selector.status = .stopped ∧ lingering.selector.wanted = .none
        ∧ lingering.radio.status = .ready ∧ lingering.radio.outstanding = none ∧ lingering.fibre.linkUp = true) := by decide +kernel

/-- R109, R167; log entry 41: START sends the first PROBE and the first SIGNAL, and the linger timer runs on. -/
theorem test_start_with_a_lingering_module :
    (after .start (asked 0x0D [] lingering)).radio.outstanding = some ⟨.signal, 7000000⟩
      ∧ (after .start (asked 0x0D [] lingering)).radio.linger = some 9000000
      ∧ ((after .start (asked 0x0D [] lingering)).fibre.leaving.map fun l => (l.frame.kind, l.frame.tag, l.frame.epoch)) =
        some (7, 0, 1) := by decide +kernel

theorem witness_HaltStopsCarrying :
    (Takes (asked 0x0E [2] onBoth) 0x0E 9 [2] ∧ Takes (asked 0x0E [0] idle) 0x0E 9 [0] ∧ idle.selector.status = .stopped)
      ∧ (Takes (asked 0x0E [0] draining) 0x0E 9 [0] ∧ draining.selector.status ≠ .stopped
        ∧ draining.sender.waitingFibre.any WaitingFrame.isEcho = false)
      ∧ (Takes (asked 0x0E [1] onBoth) 0x0E 9 [1] ∧ onBoth.selector.status ≠ .stopped ∧ onBoth.fibreJudge.verdict = .up
        ∧ onBoth.radio.settings.linger ≠ 0)
      ∧ (handing.selector.status ≠ .stopped ∧ handing.radio.handshake ≠ .free ∧ handing.radio.settings.linger ≠ 0
        ∧ handing.radio.leaving.isSome = true ∧ onBoth.radio.handshake = .free ∧ onBoth.sender.stream = none
        ∧ onBoth.sender.waitingRadio.any WaitingFrame.isEcho = false) := by decide +kernel

/-- ON_FIBRE with a frame of each kind waiting on the fibre, whose port is free or not. -/
def waitingAll (leaving : Option Leaving) : State :=
  { onFibre with
    fibre := ⟨true, leaving⟩
    sender := { onFibre.sender with waitingFibre := [.opening 7, .echo 4 2 7, .probe 3 7 8, .echo 5 2 7, .tally 7] } }

/-- A mark leaving the fibre's port. -/
def leavingMark : Leaving := ⟨⟨1, 5, 0, false, false, false, 1, 0, 7, 0, 1, 0, []⟩, [], false⟩

theorem witness_HaltStopsCarrying_waiting :
    (Takes (asked 0x0E [1] (waitingAll (some leavingMark))) 0x0E 9 [1] ∧ (waitingAll (some leavingMark)).selector.status ≠ .stopped
        ∧ (waitingAll (some leavingMark)).portFree .fibre = false ∧ (waitingAll none).portFree .fibre = true
        ∧ ∀ m ∈ (waitingAll none).sender.stream, m.bearer ≠ Bearer.fibre)
      ∧ (onBoth.radio.settings.linger ≠ 0 ∧ onBoth.portFree .radio = true) := by decide +kernel

/-- R63: HALT abandons the waiting OPEN, PROBE and TALLY; a waiting ECHO stays, and a free port starts it. -/
theorem test_halt_waiting :
    (after .haltAtBoundary (asked 0x0E [1] (waitingAll (some leavingMark)))).sender.waitingFibre = [.echo 4 2 7, .echo 5 2 7]
      ∧ (after .haltImmediate (asked 0x0E [0] (waitingAll (some leavingMark)))).sender.waitingFibre = [.echo 5 2 7]
      ∧ ((after .haltImmediate (asked 0x0E [0] (waitingAll (some leavingMark)))).fibre.leaving.map fun l =>
        (l.frame.kind, l.frame.tag, l.frame.bearer)) = some (8, 4, 2) := by decide +kernel

/-- A lawful state stays lawful when a request stands at the head of its inbound queue. -/
theorem asked_lawful (kind : Byte) (body : List Byte) (s : State) (h : Lawful s) : Lawful (asked kind body s) :=
  ⟨h.pause, h.session, h.judging, h.handed, h.active, h.timers, h.module⟩

theorem witness_PinMovesTheSelector :
    (Takes (asked 0x0F [3] onBoth) 0x0F 9 [3] ∧ Takes (asked 0x0F [2] draining) 0x0F 9 [2]
        ∧ pinOfCode 2 = some (.only Bearer.fibre.other) ∧ draining.selector.status = .draining .fibre)
      ∧ (pinOfCode 0 = some .auto ∧ pinOfCode 1 = some (.only .fibre) ∧ Lawful (asked 0x0F [1] idle) ∧ Lawful (asked 0x0F [1] onBoth)
        ∧ Lawful (asked 0x0F [0] outage) ∧ Lawful (asked 0x0F [1] draining) ∧ Lawful (asked 0x0F [1] holding))
      ∧ (onBoth.fibreJudge.suppressed = false ∧ onBoth.carry.returnHold ≠ 0 ∧ idle.selector.status = .stopped
        ∧ onBoth.selector.status = .on .fibre ∧ onBoth.radioJudge.verdict = .up ∧ onBoth.sender.store = []
        ∧ outage.selector.status = .outage ∧ holding.selector.status = .on .radio) :=
  ⟨by decide +kernel,
    ⟨rfl, rfl, asked_lawful _ _ _ lawful_idle, asked_lawful _ _ _ lawful_onBoth, asked_lawful _ _ _ lawful_outage,
      asked_lawful _ _ _ lawful_draining, asked_lawful _ _ _ lawful_holding⟩,
    by decide +kernel⟩

/-- A return hold of 0 s; and ON_RADIO with it under a pin of RADIO, the fibre UP. -/
def noHold (s : State) : State := { s with carry := { s.carry with returnHold := 0 } }
theorem noHold_lawful (s : State) (h : Lawful s) : Lawful (noHold s) :=
  ⟨h.pause, h.session, h.judging, h.handed, h.active, h.timers, h.module⟩
def pinnedRadio : State :=
  noHold { onRadio with selector := ⟨.on .radio, .only .radio, none, none, none, .active⟩, fibreJudge := upJudge .fibre }

theorem lawful_pinnedRadio : Lawful pinnedRadio :=
  ⟨by decide +kernel, by decide +kernel, by decide +kernel, by decide +kernel, by decide +kernel, by decide +kernel,
    by decide +kernel⟩

/-- ON_FIBRE under a pin of FIBRE with the fibre suppressed and the radio UP; OUTAGE with the fibre UP and suppressed; DRAINING to
a suppressed fibre under a pin of FIBRE. -/
def suppressedJudge (handed : Bool) : Judge := { upJudge .fibre with penalty := 3000, suppressed := true, handed := handed }
def pinnedFibre : State :=
  { onBoth with
    selector := ⟨.on .fibre, .only .fibre, none, none, none, .none⟩
    fibreJudge := suppressedJudge true }
def suppressedOutage : State :=
  { outage with
    selector := ⟨.outage, .auto, none, none, none, .active⟩
    radio := { Radio.atReset with status := .waking, modPwr := true, wantedHeld := .active, outstanding := some ⟨.powerUp, 20000000⟩ }
    fibreJudge := suppressedJudge false }
def drainingToFibre : State :=
  { draining with
    selector := ⟨.draining .radio, .only .fibre, some 5145000, none, some ⟨some .radio, .fibre, .planned, 5000, none⟩, .active⟩
    fibreJudge := suppressedJudge true }

theorem lawful_pinnedFibre : Lawful pinnedFibre :=
  ⟨by decide +kernel, by decide +kernel, by decide +kernel, by decide +kernel, by decide +kernel, by decide +kernel,
    by decide +kernel⟩
theorem lawful_suppressedOutage : Lawful suppressedOutage :=
  ⟨by decide +kernel, by decide +kernel, by decide +kernel, by decide +kernel, by decide +kernel, by decide +kernel,
    by decide +kernel⟩
theorem lawful_drainingToFibre : Lawful drainingToFibre :=
  ⟨by decide +kernel, by decide +kernel, by decide +kernel, by decide +kernel, by decide +kernel, by decide +kernel,
    by decide +kernel⟩

/-- A SET_DAMPING body for the fibre with other levels, and states whose suppression it changes: a release in OUTAGE, the active
fibre suppressed, and the fibre suppressed while the return hold runs. -/
def fibreLevels (suppress reuse : Nat) : List Byte := dampingBody .fibre ⟨1000, 12000, suppress, reuse, 32, 10⟩
def penalised (s : State) : State := { s with fibreJudge := { s.fibreJudge with penalty := 2000 } }

theorem lawful_penalised_onBoth : Lawful (penalised onBoth) :=
  ⟨by decide +kernel, by decide +kernel, by decide +kernel, by decide +kernel, by decide +kernel, by decide +kernel,
    by decide +kernel⟩
theorem lawful_penalised_holding : Lawful (penalised holding) :=
  ⟨by decide +kernel, by decide +kernel, by decide +kernel, by decide +kernel, by decide +kernel, by decide +kernel,
    by decide +kernel⟩

theorem witness_SetDampingWrites_selector :
    (Lawful (asked 0x09 (fibreLevels 5000 3000) suppressedOutage) ∧ Lawful (asked 0x09 (fibreLevels 2000 1500) (penalised onBoth))
        ∧ Lawful (asked 0x09 (fibreLevels 2000 1500) (penalised holding)))
      ∧ (Takes (asked 0x09 (fibreLevels 5000 3000) suppressedOutage) 0x09 9 (fibreLevels 5000 3000)
        ∧ readDampingBody (fibreLevels 5000 3000) = some (.fibre, ⟨1000, 12000, 5000, 3000, 32, 10⟩)
        ∧ readDampingBody (fibreLevels 2000 1500) = some (.fibre, ⟨1000, 12000, 2000, 1500, 32, 10⟩)
        ∧ suppressedOutage.draining = false ∧ suppressedOutage.fibreJudge.verdict = .up
        ∧ suppressedOutage.selector.pin.permits .fibre = true)
      ∧ ((penalised onBoth).selector.status = .on .fibre ∧ (penalised onBoth).mayTake .radio = true
        ∧ (penalised onBoth).fibreJudge.verdict = .up ∧ (penalised onBoth).fibreJudge.suppressed = false)
      ∧ ((penalised holding).selector.status = .on .radio ∧ (penalised holding).selector.pin = .auto) :=
  ⟨⟨asked_lawful _ _ _ lawful_suppressedOutage, asked_lawful _ _ _ lawful_penalised_onBoth,
      asked_lawful _ _ _ lawful_penalised_holding⟩,
    by decide +kernel, by decide +kernel, by decide +kernel⟩

/-- R128, R141, R142, R145: what SET_DAMPING's change of the fibre's suppression does to the selector. -/
theorem test_set_damping_moves_the_selector :
    (after .setDamping (asked 0x09 (fibreLevels 5000 3000) suppressedOutage)).selector.status = .on .fibre
      ∧ (after .setDamping (asked 0x09 (fibreLevels 2000 1500) (penalised onBoth))).selector.status = .on .radio
      ∧ (after .setDamping (asked 0x09 (fibreLevels 2000 1500) (penalised holding))).selector.holdTimer = none := by decide +kernel

/-- R121, R146, R152: a pin away from FIBRE makes the suppressed fibre ineligible, and one to FIBRE eligible. -/
theorem witness_PinMovesTheSelector_suppressed :
    (Lawful (asked 0x0F [0] pinnedFibre) ∧ Lawful (asked 0x0F [1] suppressedOutage) ∧ Lawful (asked 0x0F [0] drainingToFibre))
      ∧ (Takes (asked 0x0F [0] pinnedFibre) 0x0F 9 [0] ∧ pinnedFibre.selector.status = .on .fibre
        ∧ pinnedFibre.fibreJudge.verdict = .up ∧ pinnedFibre.fibreJudge.suppressed = true ∧ pinnedFibre.radioJudge.verdict = .up)
      ∧ (Takes (asked 0x0F [1] suppressedOutage) 0x0F 9 [1] ∧ suppressedOutage.selector.status = .outage)
      ∧ (Takes (asked 0x0F [0] drainingToFibre) 0x0F 9 [0] ∧ drainingToFibre.selector.status = .draining .radio
        ∧ (PinValue.auto ≠ .only Bearer.radio.other)) :=
  ⟨⟨asked_lawful _ _ _ lawful_pinnedFibre, asked_lawful _ _ _ lawful_suppressedOutage, asked_lawful _ _ _ lawful_drainingToFibre⟩,
    by decide +kernel, by decide +kernel, by decide +kernel⟩
/-- A return hold of 0 s: a PIN that starts no hold, and one that finds a hold running. -/
theorem witness_PinMovesTheSelector_no_hold :
    Lawful (asked 0x0F [1] pinnedRadio) ∧ Takes (asked 0x0F [1] pinnedRadio) 0x0F 9 [1] ∧ pinnedRadio.carry.returnHold = 0
      ∧ pinnedRadio.selector.status = .on .radio ∧ pinnedRadio.fibreJudge.verdict = .up
      ∧ holding.selector.holdTimer.isSome = true :=
  ⟨asked_lawful _ _ _ lawful_pinnedRadio, by decide +kernel, by decide +kernel, by decide +kernel, by decide +kernel,
    by decide +kernel⟩
theorem test_pin_leaves_a_suppressed_fibre :
    (after .pin (asked 0x0F [0] pinnedFibre)).selector.status = .on .radio
      ∧ (after .pin (asked 0x0F [1] suppressedOutage)).selector.status = .on .fibre
      ∧ ((after .pin (asked 0x0F [0] drainingToFibre)).selector.record.map HandoverRecord.outcome) = some (some .targetLost) := by
  decide +kernel

theorem witness_PlannedHandoverStarts :
    (Takes (asked 0x10 [] draining) 0x10 9 [] ∧ draining.draining = true)
      ∧ (Takes (asked 0x10 [] outage) 0x10 9 [] ∧ outage.selector.status = .outage)
      ∧ (Takes (asked 0x10 [] onFibre) 0x10 9 [] ∧ onFibre.selector.status = .on .fibre ∧ onFibre.mayTake .radio = false)
      ∧ (idle.resetHeld = false ∧ idle.selector.holdTimer = none)
      ∧ (Takes (asked 0x10 [] { onBoth with sender := holdsOne }) 0x10 9 [] ∧ onBoth.selector.status = .on .fibre
        ∧ (asked 0x10 [] onBoth).mayTake .radio = true ∧ holdsOne.store ≠ [] ∧ onBoth.sender.store = []
        ∧ onBoth.carry.returnHold ≠ 0)
      ∧ (holding.resetHeld = false ∧ holding.selector.status = .on .radio ∧ holding.selector.holdTimer = some 60000000) := by
  decide +kernel

theorem witness_DrainTimerExpirySwitches :
    (idle.resetHeld = false ∧ idle.selector.drainTimer = none)
      ∧ (draining.resetHeld = false ∧ draining.selector.drainTimer = some 5145000 ∧ draining.selector.status = .draining .fibre
        ∧ draining.carry.returnHold ≠ 0 ∧ draining.session.status = .opened) := by decide +kernel

/-- R150, R151: a drain from the fibre, whose source falls by its link's loss, by an interval's end, or by a carry failure, and
whose target falls by DETACHED; and one that the pin forbids to go back. -/
theorem witness_DrainLosesABearer :
    (draining.resetHeld = false ∧ draining.selector.status = .draining .fibre ∧ (draining.judge .fibre).handed = true
        ∧ (draining.judge .fibre).verdict = .up ∧ (draining.judge .fibre).timer.isSome = true ∧ draining.fibre.linkUp = true)
      ∧ ((draining.judge .radio).handed = true ∧ (draining.judge .radio).verdict = .up
        ∧ (draining.judge .radio).timer.isSome = true ∧ draining.radio.status = .ready)
      ∧ ((draining.judge .fibre).timer = some 5100000 ∧ (!(draining.judge .fibre).answered) = true
        ∧ ({ upJudge .fibre with badRun := 2 } : Judge).settings.fallRun ≤ min (2 + 1) 65535)
      ∧ (({ draining with receiver := ⟨5, true, 4, some 5110000, ⟨0, 0⟩, ⟨0, 0⟩⟩ } : State).carry.rewindLimit ≤ 4)
      ∧ (draining.selector.pin ≠ .only Bearer.fibre.other ∧ drainingToFibre.selector.pin = .only Bearer.radio.other
        ∧ (drainingToFibre.judge .fibre).handed = true) := by decide +kernel
theorem test_drain_loses_its_source :
    ((after .fibreLinkDown draining).selector.record.map HandoverRecord.outcome) = some (some .sourceLost)
      ∧ (after .fibreLinkDown draining).selector.status = .on .radio := by decide +kernel
/-- DRAINING from the fibre with a SIGNAL outstanding, at the last stall, and with the last bad interval of a reading below the
floor. -/
def drainingBy (r : Radio) : State := { draining with radio := r }
def drainingLow : State :=
  { draining with radioJudge := { upJudge .radio with answered := true, reading := some ⟨-130, 7⟩, badRun := 200 } }

theorem witness_DrainLosesABearer_module :
    ((drainingBy { readyRadio with outstanding := some ⟨.signal, 7000000⟩ }).radio.outstanding = some ⟨.signal, 7000000⟩
        ∧ draining.selector.status = .draining .fibre ∧ draining.radioJudge.handed = true ∧ draining.radioJudge.verdict = .up
        ∧ draining.radioJudge.timer.isSome = true)
      ∧ ((drainingBy { readyRadio with handshake := .watching 5, stallCount := 2 }).radio.status = .ready
        ∧ readyRadio.settings.stallLimit ≤ 2 + 1)
      ∧ (drainingLow.radioJudge.timer = some 5100000 ∧ drainingLow.radioJudge.settings.floor = -113
        ∧ drainingLow.radioJudge.settings.fallRun ≤ 201) := by decide +kernel

/-- R118, R115, R151: a drain's target lost to a SIGNAL that times out, to the stall limit, and to low readings. -/
theorem test_drain_loses_its_module :
    ([(Instr.responseTimeout, drainingBy { readyRadio with outstanding := some ⟨.signal, 7000000⟩ }),
        (.readyLimitPasses, drainingBy { readyRadio with handshake := .watching 5, stallCount := 2 }),
        (.intervalEnd .radio, drainingLow)].map fun p => (after p.1 p.2).selector.record.map HandoverRecord.outcome) =
      List.replicate 3 (some (some .targetLost)) := by decide +kernel
theorem test_drain_loses_its_target :
    ((after .detached draining).selector.record.map HandoverRecord.outcome) = some (some .targetLost)
      ∧ (after .detached draining).selector.status = .on .fibre := by decide +kernel

/-- ON_RADIO with a fibre about to rise, and one with the fibre suppressed a tick above its release. -/
def risingOnRadio : State :=
  { onRadio with fibreJudge := { downJudge .fibre with cleanRun := 29, position := 299, answered := true } }
def releasingOnRadio : State :=
  { onRadio with fibreJudge := { upJudge .fibre with penalty := 1714, suppressed := true, handed := false } }

theorem witness_ReturnHoldStarts :
    (risingOnRadio.selector.status = .on .radio ∧ risingOnRadio.selector.pin = .auto ∧ risingOnRadio.resetHeld = false
        ∧ risingOnRadio.fibreJudge.handed = false ∧ risingOnRadio.fibreJudge.suppressed = false
        ∧ risingOnRadio.selector.holdTimer = none ∧ (after (.intervalEnd .fibre) risingOnRadio).fibreJudge.verdict = .up
        ∧ (after (.intervalEnd .fibre) risingOnRadio).fibreJudge.suppressed = false ∧ risingOnRadio.carry.returnHold ≠ 0)
      ∧ (releasingOnRadio.fibreJudge.handed = false ∧ releasingOnRadio.selector.holdTimer = none
        ∧ (after (.decayTick .fibre) releasingOnRadio).fibreJudge.verdict = .up
        ∧ (after (.decayTick .fibre) releasingOnRadio).fibreJudge.suppressed = false
        ∧ (noHold releasingOnRadio).carry.returnHold = 0)
      ∧ (holding.selector.status = .on .radio ∧ holding.selector.pin = .auto ∧ holding.resetHeld = false
        ∧ holding.fibreJudge.handed = true ∧ holding.fibreJudge.verdict = .up ∧ holding.fibreJudge.timer.isSome = true
        ∧ holding.fibre.linkUp = true)
      ∧ (Takes (asked 0x0F [0] pinnedRadio) 0x0F 9 [0] ∧ pinnedRadio.selector.status = .on .radio
        ∧ pinnedRadio.fibreJudge.verdict = .up ∧ pinnedRadio.fibreJudge.suppressed = false
        ∧ pinnedRadio.selector.holdTimer = none ∧ pinnedRadio.carry.returnHold = 0)
      ∧ ((noHold draining).resetHeld = false ∧ (noHold draining).selector.drainTimer = some 5145000
        ∧ (noHold draining).selector.status = .draining .fibre ∧ (noHold draining).selector.pin = .auto
        ∧ (noHold draining).eligible .fibre = true ∧ (noHold draining).carry.returnHold = 0
        ∧ (noHold draining).session.status = .opened)
      ∧ ((noHold onBoth).selector.pin = .auto ∧ (noHold onBoth).eligible .fibre = true ∧ (noHold onBoth).carry.returnHold = 0
        ∧ Takes (asked 0x10 [] (noHold onBoth)) 0x10 9 [] ∧ (noHold onBoth).selector.status = .on .fibre
        ∧ (noHold onBoth).mayTake .radio = true ∧ (noHold onBoth).sender.store = []) := by decide +kernel
theorem witness_ReturnHoldStarts_lawful :
    Lawful (asked 0x0F [0] pinnedRadio) ∧ Lawful draining ∧ Lawful (noHold draining) ∧ StoreLaw (noHold draining).sender :=
  ⟨asked_lawful _ _ _ lawful_pinnedRadio, lawful_draining, noHold_lawful _ lawful_draining, by decide +kernel⟩
theorem witness_ReturnHoldStarts_hold :
    (draining.selector.status = .draining .fibre ∧ draining.selector.pin = .auto ∧ draining.carry.returnHold ≠ 0)
      ∧ (Takes (asked 0x10 [] onBoth) 0x10 9 [] ∧ onBoth.selector.pin = .auto ∧ onBoth.eligible .fibre = true
        ∧ onBoth.carry.returnHold ≠ 0)
      ∧ ((after .setDamping (asked 0x09 (fibreLevels 5000 3000) releasingOnRadio)).fibreJudge.suppressed = false
        ∧ releasingOnRadio.fibreJudge.suppressed = true) := by decide +kernel
/-- R145: the return hold starts at its full length where a drain ends on the radio. -/
theorem test_return_hold_after_a_drain :
    (after .drainTimerExpiry draining).selector.holdTimer = some 65145000
      ∧ (after .handoverNow (asked 0x10 [] onBoth)).selector.holdTimer = some 65000000
      ∧ (after .setDamping (asked 0x09 (fibreLevels 5000 3000) releasingOnRadio)).selector.holdTimer = some 65000000 := by
  decide +kernel
theorem test_return_hold_starts :
    (after (.intervalEnd .fibre) risingOnRadio).selector.holdTimer = some 65100000
      ∧ (after .fibreLinkDown holding).selector.holdTimer = none := by decide +kernel
theorem test_return_hold_of_zero :
    (after (.decayTick .fibre) (noHold releasingOnRadio)).selector.status = .on .fibre
      ∧ (after .handoverNow (asked 0x10 [] (noHold onBoth))).selector.status = .on .fibre := by decide +kernel

/-! The home side and the ports. -/

/-- A frame tagged 5 with priority 6. -/
def taggedFrame : List Byte := List.replicate 12 0 ++ [0x81, 0x00, 0xC0, 0x05] ++ List.replicate 44 0

theorem witness_FirstMatchingEntryGivesTheLane :
    (idle.classMap.get 0).used = true ∧ (word16At taggedFrame 14).extractLsb' 13 3 = 6#3
      ∧ (∀ i : Fin 16, ((Vector.replicate 16 (⟨false, .any, .any, .bulk⟩ : ClassEntry)).get i).used = false)
      ∧ classify idle.classMap taggedFrame = .signal := by decide +kernel

/-- A home frame on the line of a part in OUTAGE with a lane full, and of one with a lane barred. -/
def fullLane (policy : OverflowPolicy) : State :=
  { outage with lanes := { outage.lanes with
      bulk := ⟨{ outage.lanes.bulk.profile with limit := 1, policy := policy }, [⟨homeFrame, 4000⟩]⟩ } }
def barredLane : State := { outage with lanes := { outage.lanes with supply := .battery } }

theorem witness_HomeFrameJoinsItsLane :
    (outage.resetHeld = false ∧ outage.home.linkUp = true ∧ ethernetBody (onLine homeFrame) = some homeFrame
        ∧ 60 ≤ homeFrame.length ∧ homeFrame.length ≤ 1522 ∧ classify outage.classMap homeFrame = .bulk)
      ∧ ({ idle with home := ⟨true, [], []⟩ } : State).selector.status = .stopped
      ∧ (barredLane.lanes.supply = .battery ∧ barredLane.lanes.bulk.profile.batteryBar = true)
      ∧ ((fullLane .dropNew).lanes.bulk.profile.limit ≤ (fullLane .dropNew).lanes.bulk.queue.length
        ∧ (fullLane .dropOld).lanes.bulk.profile.policy = .dropOld)
      ∧ (outage.selector.status ≠ .stopped ∧ outage.lanes.supply ≠ .battery ∧ outage.active = none
        ∧ outage.lanes.bulk.queue.length < outage.lanes.bulk.profile.limit) := by decide +kernel

theorem witness_HomePortScreensAndDelivers :
    (idle.resetHeld = false ∧ idle.home.linkUp = false ∧ onFibre.home.linkUp = true
        ∧ ethernetBody (List.replicate 64 1) = none ∧ ethernetBody (onLine (List.replicate 59 0)) = some (List.replicate 59 0)
        ∧ (List.replicate 59 (0 : Byte)).length < 60)
      ∧ ({ onFibre with home := ⟨true, [⟨homeFrame, .voice⟩], []⟩ } : State).home.delivery = ⟨homeFrame, .voice⟩ :: [] := by
  decide +kernel

/-- A frame of a kind leaving the fibre port, or the module port in a handshake state. -/
def onFibrePort (f : CarryFrame) (s : State) : State := { s with fibre := { s.fibre with leaving := some ⟨f, encodeCarry f, false⟩ } }
def onModulePort (f : CarryFrame) (h : Handshake) (s : State) : State :=
  { s with radio := { s.radio with leaving := some ⟨f, encodeCarry f, false⟩, handshake := h } }

theorem witness_DeparturesAreCounted :
    (onFibre.resetHeld = false ∧ onFibre.sender.passStopping = false ∧ (∀ m ∈ onFibre.sender.stream, m.bearer ≠ Bearer.fibre)
        ∧ onFibre.leaving .fibre = none)
      ∧ ([3, 4, 7, 8].map fun k : Byte =>
          ((onFibrePort { plainOf k 1 0 7 1 with resent := k == 3 } onFibre).leaving .fibre).map fun l =>
            (l.reoffer, l.frame.kind, l.frame.resent)) =
        [some (false, 3, true), some (false, 4, false), some (false, 7, false), some (false, 8, false)]
      ∧ ((onModulePort (dataOf 1) (.handing .readyWait) onRadio).leaving .radio).map (fun l => (l.reoffer, l.frame.resent)) =
        some (false, false)
      ∧ (({ onRadio with radio := { readyRadio with handshake := .handing (.paced 16) } } : State).radio.leaving = none)
      ∧ (∀ m, onRadio.radio.handshake ≠ .handing m) :=
  ⟨by decide +kernel, by decide +kernel, by decide +kernel, by decide +kernel, fun m => by simp [onRadio, readyRadio, Radio.atReset]⟩

/-- A mark stream is leaving the fibre port. -/
def streaming (k : MarkKind) (left : Nat) (pass : PassPhase) : State :=
  { onFibrePort (plainOf (if k = .rewind then 5 else 6) 1 0 7 1) onFibre with
    sender := { Sender.atReset with stream := some ⟨k, .fibre, left, false⟩, pass := pass }
    pause := ⟨false, false, decide (pass ≠ .none), true⟩ }

/-- A mark offered again is leaving the module port with a stream and a pass there, stopping or not. -/
def radioStream (stopping : Bool) : State :=
  { onRadio with
    radio := { readyRadio with
      leaving := some ⟨plainOf 5 2 0 7 1, encodeCarry (plainOf 5 2 0 7 1), true⟩, handshake := .handing .readyWait }
    sender := { holdsOne with stream := some ⟨.rewind, .radio, 3, stopping⟩, pass := .waiting, passStopping := stopping }
    pause := ⟨false, false, true, true⟩ }

theorem witness_MarksEndTheirStream :
    ((streaming .rewind 16 .none).resetHeld = false ∧ (streaming .rewind 16 .none).sender.passStopping = false
        ∧ (streaming .rewind 16 .none).fibre.leaving = some ⟨plainOf 5 1 0 7 1, encodeCarry (plainOf 5 1 0 7 1), false⟩
        ∧ (streaming .rewind 16 .none).sender.stream = some ⟨.rewind, .fibre, 16, false⟩)
      ∧ (streaming .rewind 1 .none).sender.stream = some ⟨.rewind, .fibre, 1, false⟩
      ∧ ((streaming .replay 1 .announcing).sender.stream = some ⟨.replay, .fibre, 1, false⟩
        ∧ (streaming .replay 1 .announcing).fibre.leaving = some ⟨plainOf 6 1 0 7 1, encodeCarry (plainOf 6 1 0 7 1), false⟩)
      ∧ ((radioStream false).radio.leaving = some ⟨plainOf 5 2 0 7 1, encodeCarry (plainOf 5 2 0 7 1), true⟩
        ∧ (radioStream false).sender.stream = some ⟨.rewind, .radio, 3, false⟩) := by
  decide +kernel

/-- ON_RADIO with a stream and a pass, a unit leaving, and the fibre's link up. -/
def radioStreamFibreUp : State := { radioStream false with fibre := ⟨true, none⟩ }

/-- R19: a restart request that arrives on the other bearer than the active one. -/
theorem witness_StoppedStreamsAndPassesEnd_other_bearer :
    Receives (fromFibre (plainOf 1 1 0 0 1)) radioStreamFibreUp .fibre .opening (plainOf 1 1 0 0 1)
      ∧ radioStreamFibreUp.draining = false ∧ radioStreamFibreUp.active = some .radio
      ∧ (radioStreamFibreUp.leaving .radio).isSome = true ∧ radioStreamFibreUp.sender.pass ≠ .none := by decide +kernel

/-- A restart request finds a stream and a pass with a unit leaving; and the completion of that unit, offered again. -/
theorem witness_StoppedStreamsAndPassesEnd :
    (Receives (fromModule (plainOf 1 2 0 0 1)) (radioStream false) .radio .opening (plainOf 1 2 0 0 1)
        ∧ (radioStream false).draining = false ∧ (radioStream false).active = some .radio
        ∧ ((radioStream false).leaving .radio).isSome = true ∧ (radioStream false).sender.pass ≠ .none)
      ∧ (Receives (fromFibre (plainOf 1 1 0 0 1)) onFibre .fibre .opening (plainOf 1 1 0 0 1) ∧ onFibre.draining = false
        ∧ onFibre.sender.stream = none ∧ onFibre.leaving .fibre = none)
      ∧ ((radioStream true).resetHeld = false
        ∧ (radioStream true).leaving .radio = some ⟨plainOf 5 2 0 7 1, encodeCarry (plainOf 5 2 0 7 1), true⟩
        ∧ (radioStream true).sender.passStopping = true
        ∧ (radioStream true).sender.stream = some ⟨.rewind, .radio, 3, true⟩) := by decide +kernel

/-- The carry sender of a part ON_FIBRE. -/
def sending (t : Sender) : State := { onFibre with sender := t }

/-- ON_RADIO with a PROBE waiting and a full probe table. -/
def probeWaits : State :=
  { onRadio with
    sender := { Sender.atReset with waitingRadio := [.probe 9 7 7] }
    radioJudge := { upJudge .radio with table := [⟨1, 1, 1, 99999⟩, ⟨2, 1, 1, 99999⟩, ⟨3, 1, 1, 99999⟩, ⟨4, 1, 1, 99999⟩] } }

theorem witness_PortOrderIsKept :
    (idle.portFree .fibre = false ∧ onFibre.portFree .fibre = true ∧ onFibre.sender.pass = .none)
      ∧ (sending { Sender.atReset with stream := some ⟨.replay, .fibre, 63, false⟩ }).portFree .fibre = true
      ∧ ((sending { Sender.atReset with rewindPending := true }).active = some .fibre)
      ∧ ((sending { Sender.atReset with announcePending := true, pass := .waiting }).sender.rewindPending = false)
      ∧ ((sending { Sender.atReset with waitingFibre := [.tally 7, .echo 1 1 7] }).waiting .fibre = [.tally 7, .echo 1 1 7])
      ∧ ((sending { holdsOne with pass := .resending, cursor := some 1 }).sender.store.find? (fun x => x.seq == 1) = some oneRecord
        ∧ (sending { holdsOne with pass := .resending, cursor := some 1 }).waiting .fibre = [])
      ∧ (onFibre.waiting .radio = [] ∧ onFibre.active ≠ some .radio ∧ onBoth.portFree .radio = true)
      ∧ (probeWaits.portFree .radio = true ∧ probeWaits.waiting .radio = [.probe 9 7 7] ∧ (probeWaits.judge .radio).table.length = 4) := by
  decide +kernel

/-- R110, R168: the PROBE's entry takes the place of the oldest, which is lost; its hand-over begins. -/
theorem test_probe_starts :
    ((serve false .radio probeWaits).radioJudge.table.map fun e => (e.tag, e.sent, e.interval, e.expiry)) =
        [(2, 1, 1, 99999), (3, 1, 1, 99999), (4, 1, 1, 99999), (9, 50000, 7, 90000)]
      ∧ (serve false .radio probeWaits).counts.probeRadio.lost = 1
      ∧ (serve false .radio probeWaits).radio.handshake = .handing .readyWait := by decide +kernel

/-- A pass in RESENDING on the fibre whose cursor stands at the one record, past its age or not; and one past its end. -/
def resending (clock : Nat) (cursor : Option Seq) : State :=
  { sending { holdsOne with pass := .resending, cursor := cursor } with clock := clock, pause := ⟨false, false, true, false⟩ }

theorem witness_PassSendsCopiesAndEnds :
    ((resending 81000 (some 1)).portFree .fibre = true ∧ (resending 81000 (some 1)).active = some .fibre
        ∧ (resending 81000 (some 1)).sender.pass = .resending ∧ (resending 81000 (some 1)).sender.cursor = some oneRecord.seq
        ∧ (resending 81000 (some 1)).sender.store = [] ++ oneRecord :: []
        ∧ (resending 81000 (some 1)).sender.rewindPending = false ∧ (resending 81000 (some 1)).sender.announcePending = false
        ∧ (resending 81000 (some 1)).waiting .fibre = [] ∧ oneRecord.payload ≠ none
        ∧ 80 < ((resending 81000 (some 1)).ms - oneRecord.arrival).toNat)
      ∧ (((resending 80000 (some 1)).ms - oneRecord.arrival).toNat = 80
        ∧ ((resending 80000 (some 1)).lanes.get .voice).profile.maxAge = 80
        ∧ oneRecord.resends < (resending 80000 (some 1)).carry.resendLimit)
      ∧ ((resending 80000 none).sender.cursor = none ∧ (resending 80000 none).pause.pass = true
        ∧ (resending 80000 none).pause.session = false) := by decide +kernel
theorem test_pass_voids :
    (serve false .fibre (resending 81000 (some 1))).sender.store.map (fun r => (r.resends, r.payload)) = [(1, none)]
      ∧ (serve false .fibre (resending 80000 (some 1))).counts.carry.voided = 0 := by decide +kernel

/-- ON_FIBRE with one home frame in SIGNAL. -/
def queuedSignal : State :=
  { onFibre with lanes := { onFibre.lanes with signal := ⟨onFibre.lanes.signal.profile, [⟨homeFrame, 4000⟩]⟩ } }

/-- The same with the store full: SIGNAL holds back no lane below it. -/
def blockedSignal : State :=
  { queuedSignal with
    lanes := { queuedSignal.lanes with bulk := ⟨{ queuedSignal.lanes.bulk.profile with replay := false }, [⟨homeFrame, 4000⟩]⟩ }
    sender := { Sender.atReset with
      n := 1025
      store := (List.range 1024).map fun k => { oneRecord with seq := BitVec.ofNat 16 (k + 1) } } }

/-- The store law of a full store. -/
theorem blockedSignal_store : StoreLaw blockedSignal.sender := by decide +kernel

theorem witness_DispatchTakesAHead_blocked :
    (blockedSignal.lanes.signal.queue.head?).isSome = true ∧ blockedSignal.barred .signal = false
      ∧ (blockedSignal.lanes.get .signal).profile.maxAge = 0 ∧ (blockedSignal.lanes.get .signal).profile.replay = true
      ∧ ¬blockedSignal.sender.store.length < 1024 ∧ (blockedSignal.lanes.get .bulk).queue = [⟨homeFrame, 4000⟩]
      ∧ (blockedSignal.ms - 4000#32).toNat ≤ 3000 ∧ CountsBounded blockedSignal.counts
      ∧ blockedSignal.lanes.voice.queue = [] ∧ blockedSignal.lanes.priority.queue = [] := by decide +kernel
theorem test_examination_gives_up :
    (discardHeads .bulk { onFibre with
        clock := 9001000
        lanes := { onFibre.lanes with
          supply := .battery
          bulk := ⟨onFibre.lanes.bulk.profile, [⟨homeFrame, 6000⟩, ⟨homeFrame, 6001⟩]⟩ } }).counts.lane.bulk =
      ⟨0, 0, 1, 0, 1, 0⟩ := by decide +kernel

theorem witness_DispatchTakesAHead :
    queuedSignal.portFree .fibre = true ∧ queuedSignal.active = some .fibre ∧ queuedSignal.pause.any = false
      ∧ queuedSignal.sender.stream = none ∧ queuedSignal.sender.pass = .none ∧ queuedSignal.waiting .fibre = []
      ∧ (∀ k ∈ laneOrder.take (laneOrder.idxOf .signal), (queuedSignal.lanes.get k).queue = [])
      ∧ (queuedSignal.lanes.get .signal).queue = [⟨homeFrame, 4000⟩] ∧ queuedSignal.barred .signal = false
      ∧ (queuedSignal.lanes.get .signal).profile.maxAge = 0 ∧ (queuedSignal.lanes.get .signal).profile.replay = true
      ∧ StoreLaw queuedSignal.sender ∧ queuedSignal.sender.store.length < 1024 ∧ 1 + storeCells queuedSignal.sender.store ≤ 2048 := by decide +kernel

/-! Timers, judges and damping. -/

theorem witness_TallyAndRetryTimersExpire :
    (onFibre.resetHeld = false ∧ onFibre.sender.tallyTimer = none ∧ onFibre.session.retry = none)
      ∧ ((sending { Sender.atReset with tallyOwed := true, tallyTimer := some 5005000 }).sender.tallyTimer = some 5005000
        ∧ onFibre.active = some .fibre)
      ∧ (({ onFibre with session := ⟨.opening, 7, some 6000000⟩ } : State).session.retry = some 6000000) := by decide +kernel

/-- R133, R134 at their ends, and R135 at its least rate. -/
theorem witness_DerivedLengths : 1 ≤ 64 ∧ pacingGap 16 64 = 2000 ∧ rewindPeriod (some 0) 0 = 40 ∧ drainLimit (some 250) 0 = 50 := by
  decide +kernel

/-- A receiver in the discard state. -/
def discarding (attempts : Nat) : State := { onBoth with receiver := ⟨5, true, attempts, some 5110000, ⟨0, 0⟩, ⟨0, 0⟩⟩ }

theorem witness_RewindTimerExpires :
    (onFibre.resetHeld = false ∧ onFibre.receiver.rewindTimer = none)
      ∧ ((discarding 3).receiver.rewindTimer = some 5110000 ∧ (discarding 3).active = some .fibre
        ∧ (discarding 3).receiver.attempts < (discarding 3).carry.rewindLimit)
      ∧ ((discarding 4).carry.rewindLimit ≤ (discarding 4).receiver.attempts ∧ ((discarding 4).judge .fibre).timer.isSome = true) := by
  decide +kernel

/-- A fibre judge about to rise: 29 clean windows and the last interval of the 30th, answered. -/
def rising : State :=
  { suppressedOutage with fibreJudge := { downJudge .fibre with cleanRun := 29, position := 299, answered := true } }

theorem lawful_rising : Lawful rising :=
  ⟨by decide +kernel, by decide +kernel, by decide +kernel, by decide +kernel, by decide +kernel, by decide +kernel,
    by decide +kernel⟩

theorem witness_IntervalEndCountsAndTests :
    (idle.resetHeld = false ∧ (idle.judge .fibre).timer = none)
      ∧ ((onFibre.judge .fibre).timer = some 5100000 ∧ (onFibre.judge .fibre).verdict = .up
        ∧ (onFibre.judge .fibre).badRun + 1 < (onFibre.judge .fibre).settings.fallRun)
      ∧ ((rising.judge .fibre).verdict = .down ∧ (rising.fibreJudge.position + 1) % rising.fibreJudge.settings.window = 0
        ∧ rising.fibreJudge.tally ≤ rising.fibreJudge.settings.tolerance
        ∧ rising.fibreJudge.settings.riseWindows ≤ rising.fibreJudge.cleanRun + 1 ∧ rising.selector.status = .outage
        ∧ rising.fibreJudge.suppressed = false ∧ rising.selector.pin.permits .fibre = true ∧ rising.session.status = .closed)
      ∧ (({ onBoth with fibreJudge := { upJudge .fibre with badRun := 2 } } : State).fibreJudge.settings.fallRun = 3
        ∧ onBoth.selector.status = .on .fibre ∧ onBoth.fibreJudge.handed = true ∧ onBoth.mayTake .radio = true
        ∧ onFibre.mayTake .radio = false) := by decide +kernel

theorem witness_IntervalEndCountsAndTests_lawful : Lawful rising ∧ Lawful (noHold rising) :=
  ⟨lawful_rising, noHold_lawful _ lawful_rising⟩

/-- R141: a rise in OUTAGE takes the bearer, with a return hold of 0 s too. -/
theorem test_rise_in_outage :
    (after (.intervalEnd .fibre) (noHold { rising with session := ⟨.opened, 7, none⟩ })).selector.status = .on .fibre := by
  decide +kernel

/-- A suppressed fibre, one tick above its release. -/
def releasing : State := { onFibre with fibreJudge := { upJudge .fibre with penalty := 1714, suppressed := true, handed := false } }

theorem witness_DecayTickLowersThePenalty :
    (idle.resetHeld = false ∧ (idle.judge .fibre).decay = none)
      ∧ ((onFibre.judge .fibre).decay = some 9000000 ∧ onFibre.fibreJudge.suppressed = false)
      ∧ (releasing.fibreJudge.decay = some 9000000 ∧ releasing.fibreJudge.suppressed = true
        ∧ releasing.fibreJudge.penalty - max 1 (releasing.fibreJudge.penalty * releasing.fibreJudge.damping.factor / 256) ≤
          releasing.fibreJudge.damping.reuse) := by decide +kernel

/-- OUTAGE with a suppressed fibre, one tick above its release. -/
def releasingOutage : State := { suppressedOutage with fibreJudge := releasing.fibreJudge }

theorem lawful_releasingOutage : Lawful releasingOutage :=
  ⟨by decide +kernel, by decide +kernel, by decide +kernel, by decide +kernel, by decide +kernel, by decide +kernel,
    by decide +kernel⟩

theorem witness_DecayTickLowersThePenalty_outage :
    Lawful releasingOutage ∧ releasingOutage.resetHeld = false ∧ releasingOutage.fibreJudge = releasing.fibreJudge
      ∧ releasingOutage.fibreJudge.verdict = .up ∧ releasingOutage.selector.status = .outage
      ∧ releasingOutage.selector.pin.permits .fibre = true :=
  ⟨lawful_releasingOutage, rfl, rfl, rfl, rfl, rfl⟩

/-- R128, R141: a release in OUTAGE takes the fibre. -/
theorem test_release_in_outage :
    (after (.decayTick .fibre) releasingOutage).selector.status = .on .fibre
      ∧ ((after (.decayTick .fibre) releasingOutage).selector.record.map HandoverRecord.kind) = some .forced := by decide +kernel

theorem witness_FibreLinkChanges :
    (idle.resetHeld = false ∧ idle.fibre.linkUp = false)
      ∧ (onBoth.fibre.linkUp = true ∧ onBoth.fibreJudge.timer.isSome = true ∧ onBoth.fibreJudge.verdict = .up
        ∧ onBoth.selector.status = .on .fibre ∧ onBoth.fibreJudge.handed = true ∧ onBoth.mayTake .radio = true)
      ∧ (onRadio.fibre.linkUp = true ∧ onRadio.fibreJudge.verdict = .down) := by decide +kernel

/-! Frames that arrive. -/

theorem witness_CarryFramesRoundTrip :
    (dataOf 1).length.toNat = (dataOf 1).payload.length ∧ (dataOf 1).payload.length ≤ 1522
      ∧ (List.replicate 44 (0 : Byte)) ≠ [] ∧ 75 < 16 + (dataOf 1).payload.length := by decide +kernel

/-- R6: a frame of the right size with a check that is not the computed one. -/
theorem witness_CarryFramesRoundTrip_check :
    ([0, 0, 0, 0] : List Byte).length = 4
      ∧ ([0, 0, 0, 0] : List Byte) ≠ bytesOfCheck (checkOf ((dataOf 1).header ++ (dataOf 1).payload))
      ∧ 1522 < ({ dataOf 1 with length := 1523 } : CarryFrame).length.toNat := by decide +kernel

theorem witness_PortsHandFramesOver :
    ((dataOf 1).length.toNat = (dataOf 1).payload.length ∧ onFibre.fibre.linkUp = true ∧ onRadio.radio.status = .ready)
      ∧ (idle.resetHeld = false ∧ idle.fibre.linkUp = false ∧ 1600 < (List.replicate 1601 (0 : Byte)).length
        ∧ ethernetBody (List.replicate 64 1) = none)
      ∧ ((onLine homeFrame).length ≤ 1600 ∧ ethernetBody (onLine homeFrame) = some homeFrame
        ∧ word16At homeFrame 12 ≠ onFibre.carry.frameType)
      ∧ onFibre.radio.status ≠ .ready := by decide +kernel

theorem witness_ScreensDropFrames :
    (onFibre.resetHeld = false ∧ handsOver (fromFibre (plainOf 9 1 0 7 1)) onFibre = some (.fibre, some (plainOf 9 1 0 7 1)))
      ∧ handsOver (fromFibre (plainOf 4 1 0 8 1)) onFibre = some (.fibre, some (plainOf 4 1 0 8 1))
      ∧ handsOver (fromModule (dataOf 1)) onBoth = some (.radio, some (dataOf 1)) := by decide +kernel

/-- A unit whose check fails. -/
def badUnit : Instr := .moduleUnitArrival (List.replicate 16 0)

theorem witness_ReceiveErrorsSetTheDiscardState :
    (onRadio.resetHeld = false ∧ handsOver badUnit onRadio = some (.radio, none) ∧ onRadio.active = some .radio
        ∧ onRadio.session.status = .opened ∧ onRadio.receiver.discard = false)
      ∧ (handsOver badUnit onBoth = some (.radio, none) ∧ onBoth.active ≠ some .radio)
      ∧ (handsOver badUnit { onRadio with receiver := (discarding 1).receiver } = some (.radio, none)
        ∧ (discarding 1).receiver.discard = true)
      ∧ (Receives (fromModule (dataOf 2)) onBoth .radio .data (dataOf 2) ∧ ((dataOf 2).seq - onBoth.receiver.e).toNat = 1)
      ∧ (Receives (fromModule (dataOf 32768)) onBoth .radio .data (dataOf 32768)
        ∧ ((dataOf 32768).seq - onBoth.receiver.e).toNat = 32767) := by decide +kernel

/-- Unsequenced DATA of VOICE, and a void stub with a number. -/
def looseData : CarryFrame := { dataOf 0 with seqFlag := false }
def stubOf (seq : Seq) : CarryFrame := { dataOf seq with resent := true, void := true, length := 0, payload := [] }

theorem witness_DataIsDeliveredInOrder :
    (Receives (fromModule looseData) onBoth .radio .data looseData ∧ Lane.voice.frameCode = looseData.lane
        ∧ onBoth.home.delivery.length < 64)
      ∧ (Receives (fromModule (dataOf 1)) (discarding 1) .radio .data (dataOf 1) ∧ (discarding 1).receiver.discard = true)
      ∧ (Receives (fromModule (dataOf 1)) onBoth .radio .data (dataOf 1) ∧ ((dataOf 1).seq - onBoth.receiver.e).toNat = 0)
      ∧ (Receives (fromModule (stubOf 1)) onBoth .radio .data (stubOf 1) ∧ (stubOf 1).void = true)
      ∧ (Receives (fromModule (dataOf 32769)) onBoth .radio .data (dataOf 32769)
        ∧ ((dataOf 32769).seq - onBoth.receiver.e).toNat = 32768)
      ∧ Receives (fromModule (dataOf 1)) { onBoth with home := ⟨true, List.replicate 64 ⟨homeFrame, .voice⟩, []⟩ } .radio .data
        (dataOf 1) :=
  ⟨by decide +kernel, by decide +kernel, by decide +kernel, by decide +kernel, by decide +kernel, by decide +kernel⟩

/-- A frame of a kind, with no payload and an ackno, from the fibre in epoch 7. -/
def tallyOf (ackno : Seq) : CarryFrame := plainOf 4 1 0 7 ackno

theorem witness_AcknosReleaseRecords :
    (Receives (fromFibre (tallyOf 2)) (discarding 1) .fibre .tally (tallyOf 2) ∧ (discarding 1).receiver.discard = true)
      ∧ (Receives (fromFibre (tallyOf 3)) (sending holdsOne) .fibre .tally (tallyOf 3)
        ∧ ((sending holdsOne).sender.n - oneRecord.seq).toNat < ((tallyOf 3).ackno - oneRecord.seq).toNat)
      ∧ (Receives (fromFibre (tallyOf 2)) (sending holdsOne) .fibre .tally (tallyOf 2)
        ∧ ((tallyOf 2).ackno - oneRecord.seq).toNat = ((sending holdsOne).sender.n - oneRecord.seq).toNat
        ∧ (sending holdsOne).draining = false ∧ (sending holdsOne).receiver.discard = false)
      ∧ (Receives (fromFibre (tallyOf 2)) draining .fibre .tally (tallyOf 2) ∧ draining.selector.status = .draining .fibre
        ∧ draining.sender.store.drop 1 = [] ∧ draining.receiver.discard = false ∧ draining.carry.returnHold ≠ 0) := by decide +kernel

/-- ON_FIBRE with runs of marks on the fibre, in a discard state. -/
def marked (rewind replay : Nat) (discard : Bool) : State :=
  { onFibre with receiver := ⟨1, discard, 0, none, ⟨rewind, replay⟩, ⟨0, 0⟩⟩ }

theorem witness_MarksReachTheirThresholds :
    (onFibre.draining = false ∧ onFibre.carry.mRx = 6)
      ∧ (Receives (fromFibre (plainOf 5 1 0 7 1)) (marked 6 0 false) .fibre .rewind (plainOf 5 1 0 7 1)
        ∧ ((marked 6 0 false).marks .fibre).rewind = 6)
      ∧ (Receives (fromFibre (plainOf 5 1 0 7 1)) (marked 4 0 false) .fibre .rewind (plainOf 5 1 0 7 1)
        ∧ ((marked 4 0 false).marks .fibre).rewind + 1 < 6)
      ∧ (Receives (fromFibre (plainOf 5 1 0 7 1)) (marked 5 0 true) .fibre .rewind (plainOf 5 1 0 7 1)
        ∧ (marked 5 0 true).active.isSome = true ∧ (marked 5 0 true).sender.pass = .none)
      ∧ (Receives (fromFibre (plainOf 6 1 0 7 1)) (marked 0 5 false) .fibre .replay (plainOf 6 1 0 7 1)
        ∧ ((marked 0 5 false).marks .fibre).replay + 1 = 6)
      ∧ (Receives (fromFibre (plainOf 6 1 0 7 1)) (marked 0 5 true) .fibre .replay (plainOf 6 1 0 7 1)
        ∧ (marked 0 5 true).receiver.discard = true) := by decide +kernel

/-- The session is OPENING in epoch 7. -/
def opening : State := { onFibre with session := ⟨.opening, 7, some 6000000⟩, pause := ⟨true, false, false, false⟩ }

theorem witness_SessionOpensAndRestarts :
    (Receives (fromFibre (plainOf 2 1 0 7 1)) onFibre .fibre .opened (plainOf 2 1 0 7 1) ∧ onFibre.session.status = .opened)
      ∧ (Receives (fromFibre (plainOf 2 1 0 7 1)) opening .fibre .opened (plainOf 2 1 0 7 1) ∧ opening.session.status = .opening)
      ∧ (Receives (fromFibre (plainOf 1 1 0 0 1)) onFibre .fibre .opening (plainOf 1 1 0 0 1) ∧ onFibre.draining = false)
      ∧ (Receives (fromFibre (plainOf 1 1 0 0 1)) draining .fibre .opening (plainOf 1 1 0 0 1)
        ∧ draining.selector.status = .draining .fibre ∧ draining.carry.returnHold ≠ 0) := by decide +kernel
theorem witness_ReturnHoldStarts_arrivals :
    (Receives (fromFibre (plainOf 1 1 0 0 1)) (noHold draining) .fibre .opening (plainOf 1 1 0 0 1)
        ∧ (noHold draining).selector.pin = .auto ∧ (noHold draining).eligible .fibre = true)
      ∧ (Receives (fromFibre (plainOf 4 1 0 7 2)) (noHold draining) .fibre .tally (plainOf 4 1 0 7 2)
        ∧ (noHold draining).receiver.discard = false ∧ holdsOne.store ≠ []
        ∧ StoreLaw (noHold draining).sender
        ∧ (plainOf 4 1 0 7 2).ackno = (noHold draining).sender.n) := by decide +kernel

/-- R152, R15: a restart request in DRAINING switches with EMPTIED, and an OPEN of the next epoch leaves the target. -/
theorem test_restart_in_a_drain :
    ((after (fromFibre (plainOf 1 1 0 0 1)) draining).selector.record.map HandoverRecord.outcome) = some (some .emptied)
      ∧ ((after (fromFibre (plainOf 1 1 0 0 1)) draining).radio.leaving.map fun l => (l.frame.kind, l.frame.epoch)) = some (1, 8) := by
  decide +kernel

/-- ON_RADIO with one probe entry of the interval running, and one of an earlier interval. -/
def probing (interval : Nat) : State := { onRadio with radioJudge := { upJudge .radio with table := [⟨4, 49000, interval, 60000⟩] } }
def echoUnit (tag : Byte) : Instr := .moduleUnitArrival (encodeCarry (plainOf 8 2 tag 7 1))

theorem witness_ProbesAreAnswered :
    (onFibre.draining = false ∧ Receives (fromFibre (plainOf 7 1 44 3 1)) onFibre .fibre .probe (plainOf 7 1 44 3 1))
      ∧ (Receives (echoUnit 5) (probing 7) .radio .echo (plainOf 8 2 5 7 1)
        ∧ ((probing 7).judge .radio).table.find? (fun x => x.tag == 5) = none)
      ∧ (Receives (echoUnit 4) (probing 6) .radio .echo (plainOf 8 2 4 7 1) ∧ (6 : Nat) ≠ ((probing 6).judge .radio).count)
      ∧ (Receives (echoUnit 4) (probing 7) .radio .echo (plainOf 8 2 4 7 1) ∧ 7 = ((probing 7).judge .radio).count
        ∧ ((probing 7).judge .radio).table.find? (fun x => x.tag == 4) = some ⟨4, 49000, 7, 60000⟩)
      ∧ (probing 7).resetHeld = false := by decide +kernel

/-! The radio module. -/

theorem witness_WakeSearchAndAttach :
    (idle.resetHeld = false ∧ awaits .powerUp idle = false ∧ awaits .attach idle = false)
      ∧ ((awaiting .waking .powerUp 9000000 idle).radio.outstanding = some ⟨.powerUp, 9000000⟩
        ∧ (awaiting .waking .powerUp 9000000 idle).radio.status = .waking)
      ∧ ((awaiting .searching .attach 9000000 idle).radio.status = .searching ∧ idle.radio.settings.linger ≠ 0
        ∧ (awaiting .searching .attach 9000000 idle).selector.status = .stopped
        ∧ (awaiting .searching .attach 9000000 outage).selector.status ≠ .stopped)
      ∧ (({ idle.radio.settings with linger := 0 } : ModuleSettings).linger = 0 ∧ idle.radio.wantedHeld = .none ∧ idle.radioJudge.handed = false
        ∧ (awaiting .searching .attach 9000000 onRadio).radio.wantedHeld = .active)
      ∧ ((awaiting .searching .attach 9000000 outage).radio.rounds < outage.radio.settings.searchRounds
        ∧ ({ outage.radio with rounds := 4 } : Radio).settings.searchRounds ≤ 4) := by decide +kernel

/-- A SIGNAL is outstanding in READY, with a release due or not, and wanted or not. -/
def signalled (due : Bool) (level : WantedLevel) : State :=
  awaiting .ready .signal 9000000 { onBoth with radio := { readyRadio with releaseDue := due, wantedHeld := level } }

theorem witness_SignalAnswerIsRead :
    (idle.resetHeld = false ∧ awaits .signal idle = false)
      ∧ ((signalled false .none).radio.outstanding = some ⟨.signal, 9000000⟩ ∧ (signalled false .none).radio.status = .ready
        ∧ (signalled false .none).radioJudge.handed = (signalled false .none).eligible .radio
        ∧ (signalled false .none).radio.settings.linger ≠ 0)
      ∧ ((signalled true .active).radio.releaseDue = true ∧ (signalled true .active).radio.wantedHeld = .active)
      ∧ ((signalled true .none).radio.releaseDue = true ∧ (signalled true .none).radio.wantedHeld = .none) := by decide +kernel

/-- The module is being released for a cause. -/
def released (c : ReleaseCause) (command : ModuleCommand) : State :=
  awaiting .releasing command 9000000 { idle with radio := { Radio.atReset with cause := some c } }

theorem witness_DetachAndRelease :
    (idle.resetHeld = false ∧ idle.radio.status ≠ .ready ∧ idle.radio.status ≠ .releasing)
      ∧ (onRadio.radio.status = .ready ∧ onRadio.radioJudge.verdict = .up ∧ onRadio.radioJudge.timer.isSome = true)
      ∧ ((released .fault .detach).radio.outstanding = some ⟨.detach, 9000000⟩ ∧ (released .fault .detach).radio.status = .releasing)
      ∧ (awaits .detach (released .fault .powerOff) = false ∧ awaits .powerOff idle = false)
      ∧ ((released .fault .powerOff).radio.cause = some .fault ∧ (released .linger .powerOff).radio.cause = some .linger
        ∧ (released .linger .powerOff).radio.outstanding = some ⟨.powerOff, 9000000⟩) := by decide +kernel

theorem witness_ResponsesTimeOut :
    (idle.resetHeld = false ∧ idle.radio.outstanding = none)
      ∧ (awaiting .searching .attach 9000000 idle).radio.outstanding = some ⟨.attach, 9000000⟩
      ∧ ((awaiting .waking .powerUp 9000000 idle).radio.outstanding = some ⟨.powerUp, 9000000⟩ ∧ ModuleCommand.powerUp ≠ .attach)
      ∧ ((signalled false .active).radio.status = .ready ∧ (signalled false .active).radioJudge.timer.isSome = true
        ∧ (signalled false .active).radioJudge.verdict = .up)
      ∧ (released .linger .detach).radio.status = .releasing := by decide +kernel

/-- The module is RESTING. -/
def resting : State := { idle with radio := { Radio.atReset with status := .resting, rest := some 9000000 } }

theorem witness_LingerAndRestExpire :
    (idle.resetHeld = false ∧ idle.radio.linger = none ∧ idle.radio.rest = none)
      ∧ (onBoth.radio.linger = some 300000000 ∧ onBoth.radio.status = .ready ∧ onBoth.radio.outstanding = none)
      ∧ ((awaiting .ready .signal 9000000 onBoth).radio.outstanding = some ⟨.signal, 9000000⟩
        ∧ (awaiting .ready .signal 9000000 onBoth).radio.linger = some 300000000)
      ∧ (resting.radio.rest = some 9000000 ∧ resting.radio.status = .resting) := by decide +kernel

/-- The module port in a handshake state with a unit held. -/
def shaking (h : Handshake) (stalls : Nat) : State :=
  { onRadio with radio := { readyRadio with handshake := h, stallCount := stalls, held := some leavingData } }

theorem witness_HandshakeAdvances :
    ((shaking (.settling 5) 0).radio.handshake = .settling 5 ∧ (shaking (.pacing 5) 0).radio.handshake = .pacing 5
        ∧ onRadio.radio.handshake = .free ∧ onRadio.resetHeld = false)
      ∧ ((shaking (.watching 5) 1).radio.status = .ready
        ∧ (shaking (.watching 5) 1).radio.stallCount + 1 < (shaking (.watching 5) 1).radio.settings.stallLimit)
      ∧ ((shaking (.watching 5) 2).radio.settings.stallLimit ≤ (shaking (.watching 5) 2).radio.stallCount + 1
        ∧ (shaking (.watching 5) 2).radioJudge.timer.isSome = true ∧ (shaking (.watching 5) 2).radioJudge.verdict = .up)
      ∧ ((shaking (.stalled 5) 0).radio.handshake = .stalled 5 ∧ (shaking (.stalled 5) 0).radio.held = some leavingData)
      ∧ (({ onRadio with radio := { readyRadio with handshake := .stalled 5 } } : State).radio.held = none) := by decide +kernel

/-- R168: MOD_READY is not read in SETTLING, nor while the module is not READY. -/
theorem witness_HandshakeAdvances_not_read :
    ((shaking (.settling 5) 0).radio.status = .ready ∧ (∀ d, (shaking (.settling 5) 0).radio.handshake ≠ .watching d)
        ∧ (∀ d, (shaking (.settling 5) 0).radio.handshake ≠ .stalled d) ∧ (∀ d, (shaking (.settling 5) 0).radio.handshake ≠ .pacing d))
      ∧ (∀ d, (shaking (.watching 5) 0).radio.handshake ≠ .settling d) ∧ onFibre.radio.status ≠ .ready :=
  ⟨⟨rfl, nofun, nofun, nofun⟩, nofun, by decide +kernel⟩

/-- Log entry 11: a stall with no unit held ends with the handshake free and the stall count kept. -/
theorem test_stall_without_a_unit :
    (after .modReadySeen { onRadio with radio := { readyRadio with handshake := .stalled 5, stallCount := 2 } }).radio.handshake = .free
      ∧ (after .modReadySeen { onRadio with radio := { readyRadio with handshake := .stalled 5, stallCount := 2 } }).radio.stallCount =
        2 := by decide +kernel

/-! All commands, and the invariants. -/

theorem witness_SettingsAndQueuesChangeByTheirCommandsAlone :
    changesSettings .start = false ∧ changesDelivery .start = false ∧ changesExpected .deliveryComplete = false
      ∧ changesParser .start = false ∧ takesRequest .detached = false
      ∧ exec .detached onRadio = .next (after .detached onRadio) := ⟨rfl, rfl, rfl, rfl, rfl, rfl⟩

theorem witness_CountsNeverFall :
    CountsBounded idle.counts ∧ Instr.interByteTimeout ≠ .readCounts ∧ Instr.interByteTimeout ≠ .powerOn
      ∧ Instr.interByteTimeout ≠ .messageSent := by decide +kernel

theorem witness_TheEndOfAnEventKeeps : PortsBusy { idle with fibre := ⟨true, some leavingData⟩ } := by decide +kernel

/-- A part with a number of messages waiting and REQUEST_LOST clear. -/
def waitingOutbound (n : Nat) : State :=
  { idle with
    link := { idle.link with outbound := List.replicate n (.reply 0x82 1 [0]) }
    events := ⟨0, 0, .latch, 255, false⟩ }

theorem witness_TheEndOfAnEventKeeps_report :
    ((waitingOutbound 7).events.flags.getLsbD EventFlag.requestLost.number = false
        ∧ (waitingOutbound 7).events.mask.getLsbD EventFlag.requestLost.number = false
        ∧ (waitingOutbound 7).link.outbound.length < 8 ∧ 8 ≤ (waitingOutbound 8).link.outbound.length)
      ∧ (0x40000#19).getLsbD EventFlag.requestLost.number = true := by decide +kernel

/-- R177, R178: REQUEST_LOST takes the number 255, and the next is 0; a full queue loses the notice. -/
theorem test_report :
    (report .requestLost (waitingOutbound 7)).link.outbound.getLast? = some (.notice 255 .requestLost 5000 none)
      ∧ (report .requestLost (waitingOutbound 7)).events.noticeNumber = 0
      ∧ (report .requestLost (waitingOutbound 8)).counts.link.noticeLost = 1 := by decide +kernel

theorem witness_EveryStepKeepsTheBounds :
    QueuesBounded State.reset ∧ LanesBounded State.reset.lanes ∧ CountsBounded State.reset.counts ∧ NoticesRead State.reset
      ∧ QueuesBounded (waitingInbound 4) := by decide +kernel

theorem witness_EveryStepKeepsTheStoreInOrder : StoreLaw holdsOne ∧ StoreLaw Sender.atReset := by decide +kernel

theorem witness_EveryStepKeepsAttn : AttnLaw (after .powerOn onFibre) := by decide +kernel

theorem witness_EveryStepKeepsTheLaws : Lawful onFibre ∧ Lawful draining := ⟨lawful_onFibre, lawful_draining⟩

end Sys2Proof.Tests
end

section
/-! PROOFS. What the laws read of a state, and the laws in the order in which an event restores them. -/

namespace Sys2Proof.Machine

/-! ## What the laws read -/

/-- What the laws read of a judge, everything else as at reset. -/
def Judge.lawView (j : Judge) : Judge :=
  { Judge.atReset .fibre with
    timer := j.timer, verdict := j.verdict, handed := j.handed, penalty := j.penalty, suppressed := j.suppressed
    decay := j.decay, damping := j.damping }

/-- What the laws read of a state, everything else as at reset. Two states with one view meet the same laws. -/
def lawView (s : State) : State :=
  { State.reset with
    lanes := { Lanes.atReset with supply := s.lanes.supply }
    pause := s.pause
    session := s.session
    sender := { Sender.atReset with
      n := s.sender.n, store := s.sender.store, tallyOwed := s.sender.tallyOwed, tallyTimer := s.sender.tallyTimer
      stream := s.sender.stream, rewindPending := s.sender.rewindPending, announcePending := s.sender.announcePending
      pass := s.sender.pass }
    receiver := { Receiver.atReset with
      e := s.receiver.e, discard := s.receiver.discard, rewindTimer := s.receiver.rewindTimer }
    fibreJudge := s.fibreJudge.lawView
    radioJudge := s.radioJudge.lawView
    selector := { s.selector with record := none }
    radio := { Radio.atReset with
      status := s.radio.status, modPwr := s.radio.modPwr, outstanding := s.radio.outstanding, linger := s.radio.linger
      rest := s.radio.rest, cause := s.radio.cause, releaseDue := s.radio.releaseDue, wantedHeld := s.radio.wantedHeld
      settings := { ModuleSettings.atReset with standby := s.radio.settings.standby } } }

@[simp] theorem lawView_report (f : EventFlag) (s : State) : lawView (report f s) = lawView s := by simp [lawView]
@[simp] theorem lawView_reportIf (c : Bool) (f : EventFlag) (s : State) : lawView (reportIf c f s) = lawView s := by
  simp [lawView]
@[simp] theorem lawView_closeEvent (s : State) : lawView (closeEvent s) = lawView s := by simp [lawView]
@[simp] theorem lawView_advanceTo (m : Nat) (s : State) : lawView (s.advanceTo m) = lawView s := by simp [lawView]
@[simp] theorem lawView_countLane (l : Lane) (f : LaneCounts → LaneCounts) (s : State) :
    lawView (s.countLane l f) = lawView s := by simp [lawView]
@[simp] theorem lawView_countCarry (f : CarryCounts → CarryCounts) (s : State) :
    lawView (s.countCarry f) = lawView s := by simp [lawView]
@[simp] theorem lawView_countProbe (b : Bearer) (f : ProbeCounts → ProbeCounts) (s : State) :
    lawView (s.countProbe b f) = lawView s := by simp [lawView]
@[simp] theorem lawView_countModule (f : ModuleCounts → ModuleCounts) (s : State) :
    lawView (s.countModule f) = lawView s := by simp [lawView]
@[simp] theorem lawView_countLink (f : LinkCounts → LinkCounts) (s : State) :
    lawView (s.countLink f) = lawView s := by simp [lawView]
@[simp] theorem lawView_setMarks (b : Bearer) (m : MarkCounters) (s : State) :
    lawView (s.setMarks b m) = lawView s := by cases b <;> rfl
@[simp] theorem lawView_setWaiting (b : Bearer) (w : List WaitingFrame) (s : State) :
    lawView (s.setWaiting b w) = lawView s := by cases b <;> rfl
@[simp] theorem lawView_addWaiting (b : Bearer) (w : WaitingFrame) (s : State) :
    lawView (s.addWaiting b w) = lawView s := lawView_setWaiting b _ s
@[simp] theorem lawView_keepWaiting (keep : WaitingFrame → Bool) (s : State) :
    lawView (s.keepWaiting keep) = lawView s := rfl

/-- A change of a judge that keeps what the laws read of it. -/
theorem lawView_mapJudge (b : Bearer) {f : Judge → Judge} (s : State) (h : ∀ j, (f j).lawView = j.lawView) :
    lawView (s.mapJudge b f) = lawView s := by
  cases b <;> simp [lawView, State.mapJudge, h]

/-! ## The laws in the order in which the selector restores them -/

/-- The laws of the carrying blocks. -/
structure CarryLaws (s : State) : Prop where
  pause : PauseLaw s
  session : SessionLaw s

/-- The laws that hold at every moment of an event outside the module controller's own transitions: those of the carrying blocks,
who is judged, and the level that the controller holds. -/
structure BaseLaws (s : State) : Prop extends CarryLaws s where
  judging : JudgingLaw s
  held : s.radio.wantedHeld = s.selector.wanted

/-- The selector's state fits what it was told; the return hold is not worked out yet. -/
structure Seated (s : State) : Prop where
  base : BaseLaws s
  drain : s.selector.drainTimer.isSome = true ↔ s.draining = true
  handed : ∀ b, (s.judge b).handed = s.eligible b
  on : ∀ b, s.selector.status = .on b → s.mayTake b = true
  drains : ∀ b, s.selector.status = .draining b → s.eligible b = true ∧ s.mayTake b.other = true
  outage : s.selector.status = .outage → ∀ b, s.mayTake b = false

/-- The selector has acted on what it was told: all laws but the module's and the wanted level's. -/
structure Placed (s : State) : Prop extends Seated s where
  hold : s.selector.holdTimer.isSome = true ↔ holdWanted s = true

/-- The bearer may be made active as far as the selector has been told. -/
def State.toldMayTake (s : State) (b : Bearer) : Bool := (s.judge b).handed && s.selector.pin.permits b

/-- The selector has acted on all it was told, while the judge of a bearer may have changed since. -/
structure Told (b : Bearer) (s : State) : Prop where
  base : BaseLaws s
  drain : s.selector.drainTimer.isSome = true ↔ s.draining = true
  handed : (s.judge b.other).handed = s.eligible b.other
  on : ∀ c, s.selector.status = .on c → s.toldMayTake c = true
  drains : ∀ c, s.selector.status = .draining c → (s.judge c).handed = true ∧ s.toldMayTake c.other = true
  outage : s.selector.status = .outage → ∀ c, s.toldMayTake c = false
  hold : s.selector.holdTimer.isSome = true ↔
    s.selector.status = .on .radio ∧ s.selector.pin = .auto ∧ s.fibreJudge.handed = true

/-- The level handed over last is the wanted level (R155). -/
abbrev WantedMet (s : State) : Prop := s.selector.wanted = wantedLevel s

theorem Placed.told {s : State} (h : Placed s) (b : Bearer) : Told b s := by
  have ht : ∀ c, s.toldMayTake c = s.mayTake c := fun c => by simp only [State.toldMayTake, State.mayTake, h.handed]
  refine ⟨h.base, h.drain, h.handed _, fun c hc => ?_, fun c hc => ?_, fun ho c => ?_, ?_⟩
  · rw [ht]; exact h.on c hc
  · rw [ht, h.handed]; exact h.drains c hc
  · rw [ht]; exact h.outage ho c
  · have hf := h.handed .fibre
    rw [h.hold, show s.fibreJudge.handed = _ from hf]
    simp [holdWanted, and_assoc]

theorem lawful_iff {s : State} : Lawful s ↔ Placed s ∧ WantedMet s ∧ ModuleLaw s := by
  constructor
  · rintro ⟨hp, hs, hj, ⟨hf, hr⟩, ⟨h1, h2, h3, h4, h5⟩, ⟨hd, hh, hw, hg⟩, hm⟩
    refine ⟨⟨⟨⟨⟨hp, hs⟩, hj, hg⟩, hd, ?_, ?_, ?_, ?_⟩, hh⟩, hw, hm⟩ <;> intro b
    · cases b <;> assumption
    · cases b <;> assumption
    · cases b <;> assumption
    · rintro (_ | _)
      · exact (h5 b).1
      · exact (h5 b).2
  · rintro ⟨⟨⟨⟨⟨hp, hs⟩, hj, hg⟩, hd, hh, ho, hdr, hou⟩, hhold⟩, hw, hm⟩
    exact ⟨hp, hs, hj, ⟨hh .fibre, hh .radio⟩,
      ⟨ho .fibre, ho .radio, hdr .fibre, hdr .radio, fun h => ⟨hou h .fibre, hou h .radio⟩⟩, ⟨hd, hhold, hw, hg⟩, hm⟩

theorem Lawful.placed {s : State} (h : Lawful s) : Placed s := (lawful_iff.1 h).1
theorem Lawful.wantedMet {s : State} (h : Lawful s) : WantedMet s := (lawful_iff.1 h).2.1

/-! States of one view meet the same laws. -/

@[simp] theorem eligible_lawView (s : State) (b : Bearer) : (lawView s).eligible b = s.eligible b := by cases b <;> rfl
@[simp] theorem mayTake_lawView (s : State) (b : Bearer) : (lawView s).mayTake b = s.mayTake b := by cases b <;> rfl
@[simp] theorem toldMayTake_lawView (s : State) (b : Bearer) : (lawView s).toldMayTake b = s.toldMayTake b := by
  cases b <;> rfl
@[simp] theorem status_lawView (s : State) : (lawView s).selector.status = s.selector.status := rfl
@[simp] theorem judge_handed_lawView (s : State) (b : Bearer) :
    ((lawView s).judge b).handed = (s.judge b).handed := by cases b <;> rfl

theorem baseLaws_lawView {s : State} : BaseLaws (lawView s) ↔ BaseLaws s :=
  ⟨fun h => ⟨⟨h.pause, h.session⟩, h.judging, h.held⟩, fun h => ⟨⟨h.pause, h.session⟩, h.judging, h.held⟩⟩

theorem carryLaws_lawView {s : State} : CarryLaws (lawView s) ↔ CarryLaws s :=
  ⟨fun h => ⟨h.pause, h.session⟩, fun h => ⟨h.pause, h.session⟩⟩

theorem told_lawView {b : Bearer} {s : State} : Told b (lawView s) ↔ Told b s := by
  constructor <;> rintro ⟨hb, hd, hh, ho, hdr, hou, hhold⟩
  · exact ⟨baseLaws_lawView.1 hb, hd, by simpa using hh, by simpa using ho, by simpa using hdr, by simpa using hou, hhold⟩
  · exact ⟨baseLaws_lawView.2 hb, hd, by simpa using hh, by simpa using ho, by simpa using hdr, by simpa using hou, hhold⟩

theorem seated_lawView {s : State} : Seated (lawView s) ↔ Seated s := by
  constructor <;> rintro ⟨hb, hd, hh, ho, hdr, hou⟩
  · exact ⟨baseLaws_lawView.1 hb, hd, by simpa using hh, by simpa using ho, by simpa using hdr, by simpa using hou⟩
  · exact ⟨baseLaws_lawView.2 hb, hd, by simpa using hh, by simpa using ho, by simpa using hdr, by simpa using hou⟩

theorem placed_lawView {s : State} : Placed (lawView s) ↔ Placed s :=
  ⟨fun h => ⟨seated_lawView.1 h.toSeated, h.hold⟩, fun h => ⟨seated_lawView.2 h.toSeated, h.hold⟩⟩

theorem lawful_lawView {s : State} : Lawful (lawView s) ↔ Lawful s := by
  rw [lawful_iff, lawful_iff, placed_lawView]; exact Iff.rfl

section
variable {s t : State} (h : lawView t = lawView s)
include h

theorem CarryLaws.congr (hs : CarryLaws s) : CarryLaws t := carryLaws_lawView.1 (h ▸ carryLaws_lawView.2 hs)
theorem BaseLaws.congr (hs : BaseLaws s) : BaseLaws t := baseLaws_lawView.1 (h ▸ baseLaws_lawView.2 hs)
theorem Told.congr {b : Bearer} (hs : Told b s) : Told b t := told_lawView.1 (h ▸ told_lawView.2 hs)
theorem Seated.congr (hs : Seated s) : Seated t := seated_lawView.1 (h ▸ seated_lawView.2 hs)
theorem Placed.congr (hs : Placed s) : Placed t := placed_lawView.1 (h ▸ placed_lawView.2 hs)
theorem Lawful.congr (hs : Lawful s) : Lawful t := lawful_lawView.1 (h ▸ lawful_lawView.2 hs)

theorem eligible_congr (b : Bearer) : t.eligible b = s.eligible b := by
  rw [← eligible_lawView, h, eligible_lawView]

end

end Sys2Proof.Machine
end

section
/-! PROOFS. The laws under the small writers of the judges and of the module controller. -/

namespace Sys2Proof.Machine

/-! ## The module controller -/

theorem eq_of_resetJudge (b : Bearer) (s : State) :
    (resetJudge b s).judge b = (s.judge b).cleared ∧ (resetJudge b s).judge b.other = s.judge b.other := by
  cases b <;> simp [resetJudge, State.judge, Bearer.other]

@[simp] theorem resetJudge_radio (s : State) :
    (resetJudge .radio s).radioJudge = s.radioJudge.cleared ∧ (resetJudge .radio s).fibreJudge = s.fibreJudge :=
  eq_of_resetJudge .radio s

@[simp] theorem resetJudge_fibre (s : State) :
    (resetJudge .fibre s).fibreJudge = s.fibreJudge.cleared ∧ (resetJudge .fibre s).radioJudge = s.radioJudge :=
  eq_of_resetJudge .fibre s

/-- A judge reset leaves what the laws read of the state but the judge. -/
theorem lawView_resetJudge (b : Bearer) (s : State) :
    lawView (resetJudge b s) = lawView (s.mapJudge b Judge.cleared) := by simp [resetJudge]

theorem PauseLaw.endStreamOn {s : State} (b : Bearer) (h : PauseLaw s) : PauseLaw (endStreamOn b s) := by
  unfold Machine.endStreamOn
  split
  · split
    · obtain ⟨hsess, hsel, hpass, hann, -, -⟩ := h
      exact ⟨hsess, hsel, hpass, hann, by simp, by simp⟩
    · exact h
  · exact h

theorem PauseLaw.closePort {s : State} (b : Bearer) (h : PauseLaw s) : PauseLaw (closePort b s) := by
  refine PauseLaw.endStreamOn b ?_
  cases b <;> exact h

@[simp] theorem leaveReady_judges (s : State) :
    (leaveReady s).radioJudge = s.radioJudge.cleared ∧ (leaveReady s).fibreJudge = s.fibreJudge := by
  simp [leaveReady]

@[simp] theorem leaveReady_timers (s : State) :
    (leaveReady s).radio.linger = none ∧ (leaveReady s).radio.releaseDue = false := by
  simp [leaveReady]

theorem PauseLaw.leaveReady {s : State} (h : PauseLaw s) : PauseLaw (leaveReady s) := by
  have hc : PauseLaw (Machine.closePort .radio s) := h.closePort .radio
  simpa [PauseLaw, Machine.leaveReady] using hc

/-- The module in RELEASING (R161). -/
@[simp] theorem enterReleasing_writes (c : ReleaseCause) (s : State) :
    (enterReleasing c s).radio.status = .releasing ∧ (enterReleasing c s).radio.linger = none
      ∧ (enterReleasing c s).radio.releaseDue = false ∧ (enterReleasing c s).radio.cause = some c
      ∧ (enterReleasing c s).radio.outstanding.map Outstanding.command = some .detach
      ∧ (enterReleasing c s).fibreJudge = s.fibreJudge := by
  simp only [enterReleasing]
  split <;> simp [sendCommand]

theorem enterReleasing_radioJudge (c : ReleaseCause) (s : State) :
    (enterReleasing c s).radioJudge = if s.radio.status = .ready then s.radioJudge.cleared else s.radioJudge := by
  simp only [enterReleasing]
  split <;> simp_all

theorem PauseLaw.enterReleasing {s : State} (c : ReleaseCause) (h : PauseLaw s) : PauseLaw (enterReleasing c s) := by
  unfold Machine.enterReleasing
  split
  · exact h.leaveReady
  · exact h

theorem JudgingLaw.enterReleasing {s : State} (c : ReleaseCause) (h : JudgingLaw s) :
    JudgingLaw (enterReleasing c s) := by
  obtain ⟨hf, hr, hdf, hdr, huf, hur, hpf, hpr⟩ := h
  by_cases hs : s.radio.status = .ready
  · simp [JudgingLaw, enterReleasing_radioJudge, hs, Judge.cleared, hf, hdf, hdr, hpf, hpr]
    simpa [hf] using huf
  · simp [JudgingLaw, enterReleasing_radioJudge, hs, hf, hr, hdf, hdr, hpf, hpr]
    simp_all

/-- RELEASING keeps the laws outside the module controller, whatever the module's own state was. -/
theorem BaseLaws.enterReleasing {s : State} (c : ReleaseCause) (h : BaseLaws s) : BaseLaws (enterReleasing c s) where
  pause := h.pause.enterReleasing c
  session := by simpa [SessionLaw, State.active] using h.session
  judging := h.judging.enterReleasing c
  held := by simpa using h.held

/-- What a level can make of the module (R160, R164). -/
theorem actOnLevel_cases (s : State) :
    actOnLevel s = s
      ∨ (s.radio.status = .off ∧ actOnLevel s = wake s)
      ∨ (s.radio.status = .ready ∧ s.radio.outstanding = none
        ∧ (actOnLevel s = { s with radio := { s.radio with linger := none } }
          ∨ (s.radio.releaseDue = false
            ∧ actOnLevel s = { s with radio := { s.radio with linger := some (s.inSeconds s.radio.settings.linger) } })
          ∨ (s.radio.wantedHeld = .none ∧ actOnLevel s = enterReleasing .linger s))) := by
  unfold actOnLevel startLinger
  repeat' split
  all_goals simp_all
  cases hw : s.radio.wantedHeld <;> simp_all

theorem JudgingLaw.actOnLevel {s : State} (h : JudgingLaw s) : JudgingLaw (actOnLevel s) := by
  obtain he | ⟨hs, he⟩ | ⟨hs, -, he | ⟨-, he⟩ | ⟨-, he⟩⟩ := actOnLevel_cases s <;> rw [he]
  · exact h
  · simpa [JudgingLaw, wake, sendCommand, hs] using h
  · exact h
  · exact h
  · exact h.enterReleasing .linger

theorem PauseLaw.actOnLevel {s : State} (h : PauseLaw s) : PauseLaw (actOnLevel s) := by
  obtain he | ⟨-, he⟩ | ⟨-, -, he | ⟨-, he⟩ | ⟨-, he⟩⟩ := actOnLevel_cases s <;> rw [he]
  · exact h
  · exact h
  · exact h
  · exact h
  · exact h.enterReleasing .linger

theorem BaseLaws.actOnLevel {s : State} (h : BaseLaws s) : BaseLaws (actOnLevel s) where
  pause := h.pause.actOnLevel
  session := by simpa [SessionLaw, State.active] using h.session
  judging := h.judging.actOnLevel
  held := by simpa using h.held

@[simp] theorem actOnLevel_fibreJudge (s : State) : (actOnLevel s).fibreJudge = s.fibreJudge := by
  obtain he | ⟨-, he⟩ | ⟨-, -, he | ⟨-, he⟩ | ⟨-, he⟩⟩ := actOnLevel_cases s <;> simp [he]

/-- A level only changes the radio judge by releasing the module, which clears it, and only when the level is NONE. -/
theorem actOnLevel_radioJudge (s : State) :
    (actOnLevel s).radioJudge = s.radioJudge
      ∨ (s.radio.wantedHeld = .none ∧ (actOnLevel s).radioJudge = s.radioJudge.cleared) := by
  obtain he | ⟨-, he⟩ | ⟨hs, -, he | ⟨-, he⟩ | ⟨hw, he⟩⟩ := actOnLevel_cases s
  case inr.inr.inr.inr => exact .inr ⟨hw, by rw [he, enterReleasing_radioJudge, if_pos hs]⟩
  all_goals exact .inl (by simp [he])

/-! ## The module's own law, strict and loose -/

/-- The module's law but for the outstanding command, which may have been answered already (R157). -/
abbrev ModuleLoose (r : Radio) : Prop :=
  r.modPwr = r.status.powered
    ∧ (r.outstanding = none ∨ r.status.mayAwait (r.outstanding.map Outstanding.command) = true)
    ∧ (r.linger.isSome = true → r.status = .ready ∧ r.releaseDue = false)
    ∧ (r.rest.isSome = true ↔ r.status = .resting)
    ∧ (r.cause.isSome = true ↔ r.status = .releasing)
    ∧ (r.releaseDue = true → r.status = .ready)

/-- The module's law as a law of the module controller's state. -/
abbrev ModuleStrict (r : Radio) : Prop := ModuleLaw { State.reset with radio := r }

theorem ModuleStrict.loose {r : Radio} (h : ModuleStrict r) : ModuleLoose r := by
  obtain ⟨hp, ho, hl, hre, hc, hd⟩ := h
  exact ⟨hp, .inr ho, hl, hre, hc, fun h => (hd h).1⟩

/-- A released module meets its law, whatever was outstanding. -/
theorem ModuleLoose.enterReleasing {s : State} (c : ReleaseCause) (h : ModuleLoose s.radio)
    (hp : s.radio.status.powered = true) : ModuleLaw (enterReleasing c s) := by
  obtain ⟨hm, -, -, hre, -, -⟩ := h
  have hrest : s.radio.rest = none := by
    cases hs : s.radio.status <;> simp_all [ModuleStatus.powered]
  rw [hp] at hm
  simp [ModuleLaw, ModuleStatus.mayAwait, ModuleStatus.powered, hm, hrest]

theorem ModuleStrict.actOnLevel {s : State} (h : ModuleStrict s.radio) : ModuleStrict (actOnLevel s).radio := by
  obtain he | ⟨hs, he⟩ | ⟨hs, ho, he | ⟨hd, he⟩ | ⟨-, he⟩⟩ := actOnLevel_cases s <;> rw [he]
  · exact h
  · obtain ⟨hm, -, hl, hre, hc, hd⟩ := h
    simp_all [ModuleStrict, ModuleLaw, wake, sendCommand, ModuleStatus.powered, ModuleStatus.mayAwait]
  · obtain ⟨hm, hou, hl, hre, hc, hd⟩ := h
    exact ⟨hm, hou, by simp, hre, hc, hd⟩
  · obtain ⟨hm, hou, hl, hre, hc, -⟩ := h
    exact ⟨hm, hou, fun _ => ⟨hs, hd⟩, hre, hc, by simp [hd]⟩
  · exact h.loose.enterReleasing .linger (by simp [hs, ModuleStatus.powered])

theorem ModuleLoose.actOnLevel {s : State} (h : ModuleLoose s.radio) : ModuleLoose (actOnLevel s).radio := by
  obtain he | ⟨hs, he⟩ | ⟨hs, ho, he | ⟨hd, he⟩ | ⟨-, he⟩⟩ := actOnLevel_cases s <;> rw [he]
  · exact h
  · obtain ⟨hm, -, hl, hre, hc, hd⟩ := h
    simp_all [ModuleLoose, wake, sendCommand, ModuleStatus.powered, ModuleStatus.mayAwait]
  · obtain ⟨hm, hou, hl, hre, hc, hd⟩ := h
    exact ⟨hm, hou, by simp, hre, hc, hd⟩
  · obtain ⟨hm, hou, hl, hre, hc, -⟩ := h
    exact ⟨hm, hou, fun _ => ⟨hs, hd⟩, hre, hc, by simp [hd]⟩
  · exact ModuleStrict.loose (h.enterReleasing .linger (by simp [hs, ModuleStatus.powered]))

/-- A module that is powered stays powered under a level. -/
theorem powered_actOnLevel {s : State} (h : s.radio.status.powered = true) :
    (actOnLevel s).radio.status.powered = true := by
  obtain he | ⟨hs, he⟩ | ⟨hs, ho, he | ⟨hd, he⟩ | ⟨-, he⟩⟩ := actOnLevel_cases s <;>
    simp_all [ModuleStatus.powered]

end Sys2Proof.Machine
end

section
/-! PROOFS. The laws of the carrying blocks, and the wanted level as it is handed over. -/

namespace Sys2Proof.Machine

/-! ## The carrying blocks -/

/-- What ends with an active bearer (R15, R59, R85, R101). -/
@[simp] theorem endActive_writes (s : State) :
    (endActive s).sender.tallyOwed = false ∧ (endActive s).sender.tallyTimer = none ∧ (endActive s).sender.stream = none
      ∧ (endActive s).sender.rewindPending = false ∧ (endActive s).sender.announcePending = false
      ∧ (endActive s).sender.pass = .none ∧ (endActive s).pause.stream = false ∧ (endActive s).pause.pass = false :=
  ⟨rfl, rfl, rfl, rfl, rfl, rfl, rfl, rfl⟩

namespace CarryLaws

variable {s : State}

theorem endStreamOn (b : Bearer) (h : CarryLaws s) : CarryLaws (endStreamOn b s) where
  pause := h.pause.endStreamOn b
  session := by simpa [SessionLaw, State.active] using h.session

theorem closePort (b : Bearer) (h : CarryLaws s) : CarryLaws (closePort b s) where
  pause := h.pause.closePort b
  session := by simpa [SessionLaw, State.active] using h.session

theorem clearTally (h : CarryLaws s) : CarryLaws (clearTally s) := by
  obtain ⟨hp, hout, hep, hre, hrw, -, -⟩ := h
  exact ⟨hp, hout, hep, hre, hrw, by simp [Machine.clearTally], by simp [Machine.clearTally]⟩

theorem abandonStreams (h : CarryLaws s) : CarryLaws (abandonStreams s) := by
  obtain ⟨⟨hse, hsel, hpa, -, -, -⟩, hs⟩ := h
  exact ⟨⟨hse, hsel, hpa, by simp [Machine.abandonStreams], by simp [Machine.abandonStreams],
    by simp [Machine.abandonStreams]⟩, hs⟩

theorem abandonPass (h : CarryLaws s) : CarryLaws (abandonPass s) := by
  obtain ⟨⟨hse, hsel, -, -, hst, hst'⟩, hs⟩ := h
  exact ⟨⟨hse, hsel, by simp [Machine.abandonPass], by simp [Machine.abandonPass], hst, hst'⟩, hs⟩

theorem startPass (h : CarryLaws s) : CarryLaws (startPass s) := by
  obtain ⟨⟨hse, hsel, -, -, hst, hst'⟩, hs⟩ := id h
  unfold Machine.startPass
  split
  · exact ⟨⟨hse, hsel, by simp, by simp, hst, hst'⟩, hs⟩
  · exact h

theorem requestRewind (h : CarryLaws s) : CarryLaws (requestRewind s) := by
  obtain ⟨⟨hse, hsel, hpa, han, hst, -⟩, hs⟩ := id h
  unfold Machine.requestRewind
  split
  · exact h
  · split
    · exact h
    · exact ⟨⟨hse, hsel, hpa, han, hst, by simp⟩, hs⟩


theorem startRewindTimer (b : Bearer) (n : Nat) (ha : s.active.isSome = true) (h : CarryLaws s) :
    CarryLaws (startRewindTimer b n s) := by
  obtain ⟨hp, hout, hep, hre, -, htt, hto⟩ := h
  exact ⟨hp, hout, hep, hre, fun _ => ha, htt, hto⟩

theorem takeUpReceiver (b : Bearer) (ha : s.active.isSome = true) (h : CarryLaws s) :
    CarryLaws (takeUpReceiver b s) := by
  unfold Machine.takeUpReceiver
  split
  · exact h.startRewindTimer b 1 ha
  · exact h

theorem stopRewindTimer (h : CarryLaws s) : CarryLaws (stopRewindTimer s) := by
  obtain ⟨hp, hout, hep, hre, -, hto⟩ := h
  exact ⟨hp, hout, hep, hre, by simp [Machine.stopRewindTimer], hto⟩

end CarryLaws

/-- With an active bearer a request leaves a REWIND stream pending or in progress. -/
theorem stream_of_requestRewind {s : State} {b : Bearer} (ha : s.active = some b) :
    (requestRewind s).sender.stream.isSome = true ∨ (requestRewind s).sender.rewindPending = true := by
  unfold requestRewind rewindRuns
  cases hm : s.sender.stream <;> simp_all
  split <;> simp_all

theorem nextEpoch_ne_zero (e : BitVec 16) : nextEpoch e ≠ 0 := by
  unfold nextEpoch
  split
  · decide
  · next h => intro h0; apply h; have : e = -1 := by grind
              rw [this]; rfl

namespace CarryLaws
variable {s : State}

theorem takeUpSender (b : Bearer) (ha : s.active = some b) (h : CarryLaws s) : CarryLaws (takeUpSender s) := by
  have hasked : CarryLaws { Machine.requestRewind s with
      pause := { s.pause with stream := true } } := by
    obtain ⟨⟨hse, hsel, hpa, han, -, -⟩, hs⟩ := h.requestRewind
    refine ⟨⟨?_, ?_, ?_, han, fun _ => rfl, fun _ => stream_of_requestRewind ha⟩, hs⟩
    · simpa using hse
    · simpa using hsel
    · simpa using hpa
  have hstarted := hasked.startPass
  unfold Machine.takeUpSender
  dsimp only
  split
  · exact ⟨hstarted.pause, hstarted.session⟩
  · exact ⟨hasked.pause, hasked.session⟩

/-- The next epoch opens from a session that carries nothing. -/
theorem enterOpening (h : CarryLaws s) (ht : s.sender.tallyOwed = false)
    (hout : s.sender.n = 1 ∧ s.receiver.e = 1 ∧ s.sender.store = [] ∧ s.receiver.discard = false) :
    CarryLaws (enterOpening s) := by
  obtain ⟨⟨-, hsel, hpa, han, hst, hst'⟩, -, -, -, hrw, htt, -⟩ := h
  refine ⟨⟨?_, hsel, hpa, han, hst, hst'⟩, fun _ => hout, fun _ => nextEpoch_ne_zero _, ?_, hrw, htt, ?_⟩
  · simp [Machine.enterOpening]
  · simp [Machine.enterOpening]
  · simp [Machine.enterOpening, ht]

theorem sendOpen (b : Bearer) (h : CarryLaws s) (hs : s.session.status = .opening) (ha : s.active.isSome = true) :
    CarryLaws (sendOpen b s) := by
  obtain ⟨hp, hout, hep, -, hrw, htt, hto⟩ := h
  refine ⟨?_, ?_, ?_, ?_, ?_, ?_, ?_⟩
  · cases b <;> exact hp
  · cases b <;> exact hout
  · cases b <;> exact hep
  · intro _; cases b <;> exact ⟨hs, ha⟩
  · cases b <;> exact hrw
  · cases b <;> exact htt
  · cases b <;> exact hto

theorem endActive (h : CarryLaws s) : CarryLaws (endActive s) :=
  ((h.congr (lawView_keepWaiting _ s)).clearTally.abandonStreams).abandonPass

/-- The session's part of a change to the bearer that has become active, its tally cleared. -/
theorem sessionOn (b : Bearer) (h : CarryLaws s) (ha : s.active = some b) (ht : s.sender.tallyOwed = false) :
    CarryLaws (sessionOn b s) := by
  have hs : s.active.isSome = true := by simp [ha]
  unfold Machine.sessionOn
  split
  · next hc => exact (h.enterOpening ht (h.session.1 (by simp [hc]))).sendOpen b rfl hs
  · next hc => exact h.sendOpen b hc hs
  · exact (h.takeUpSender b ha).takeUpReceiver b (by simpa [State.active] using hs)

end CarryLaws

/-! ## The wanted level -/

@[simp] theorem handWanted_fibreJudge (s : State) : (handWanted s).fibreJudge = s.fibreJudge := by
  unfold handWanted
  split <;> simp

/-- The level is handed over (R155). -/
theorem wantedMet_handWanted (s : State) : WantedMet (handWanted s) := by
  have hl : wantedLevel (handWanted s) = wantedLevel s := by simp [wantedLevel, effectiveStandby]
  rw [WantedMet, hl]
  unfold handWanted
  split
  · next h => exact h.symm
  · simp

/-- A handed level only changes who may be taken by releasing the radio, which it does only when the level is NONE. -/
theorem eligible_handWanted (s : State) (b : Bearer) :
    (handWanted s).eligible b = s.eligible b
      ∨ (wantedLevel s = .none ∧ b = .radio ∧ (handWanted s).eligible b = false) := by
  cases b with
  | fibre => exact .inl (by simp [State.eligible, State.judge])
  | radio =>
    unfold handWanted
    split
    · exact .inl rfl
    · set given : State := { s with
        selector := { s.selector with wanted := wantedLevel s }
        radio := { s.radio with wantedHeld := wantedLevel s } } with hg
      obtain hj | ⟨hw, hj⟩ := actOnLevel_radioJudge given
      · exact .inl (by simp [State.eligible, State.judge, hj]; simp [hg])
      · exact .inr ⟨hw, rfl, by simp [State.eligible, State.judge, hj, Judge.cleared]⟩

theorem handed_handWanted {s : State} (h : ∀ b, (s.judge b).handed = s.eligible b) (b : Bearer) :
    ((handWanted s).judge b).handed = (handWanted s).eligible b := by
  cases b with
  | fibre => simpa [State.eligible, State.judge] using h .fibre
  | radio =>
    unfold handWanted
    split
    · exact h .radio
    · rfl

theorem BaseLaws.handWanted {s : State} (h : BaseLaws s) : BaseLaws (handWanted s) := by
  unfold Machine.handWanted
  split
  · exact h
  · have hg : BaseLaws { s with
        selector := { s.selector with wanted := wantedLevel s }
        radio := { s.radio with wantedHeld := wantedLevel s } } := ⟨⟨h.pause, h.session⟩, h.judging, rfl⟩
    obtain ⟨⟨hp, hs⟩, hj, hh⟩ := hg.actOnLevel
    exact ⟨⟨hp, hs⟩, hj, hh⟩

/-- A handed level keeps the selector in its place (R137, R141, R142). -/
theorem Placed.handWanted {s : State} (h : Placed s) : Placed (handWanted s) := by
  have hle : ∀ b, (Machine.handWanted s).eligible b = true → s.eligible b = true := fun b hb => by
    obtain he | ⟨-, -, he⟩ := eligible_handWanted s b <;> simp_all
  have hkeep : ∀ b, wantedLevel s = .active ∨ b = .fibre → (Machine.handWanted s).eligible b = s.eligible b := fun b hb => by
    obtain he | ⟨hw, hr, -⟩ := eligible_handWanted s b
    · exact he
    · simp_all
  have hmay : ∀ b, wantedLevel s = .active ∨ b = .fibre → (Machine.handWanted s).mayTake b = s.mayTake b := fun b hb => by
    simp [State.mayTake, hkeep b hb]
  refine ⟨⟨h.base.handWanted, by simpa [State.draining] using h.drain, handed_handWanted h.handed, ?_, ?_, ?_⟩, ?_⟩
  · intro b hb
    have hb : s.selector.status = .on b := by simpa using hb
    rw [hmay b (by cases b <;> simp [wantedLevel, hb])]
    exact h.on b hb
  · intro b hb
    have hb : s.selector.status = .draining b := by simpa using hb
    have ha : wantedLevel s = .active := by simp [wantedLevel, hb]
    rw [hkeep b (.inl ha), hmay b.other (.inl ha)]
    exact h.drains b hb
  · intro ho b
    have hb := h.outage (by simpa using ho) b
    simp only [State.mayTake, Bool.and_eq_false_iff, handWanted_frame] at hb ⊢
    obtain hb | hb := hb
    · exact .inl (by simpa using mt (hle b) (by simpa using hb))
    · exact .inr hb
  · simpa [holdWanted, hkeep .fibre (.inr rfl)] using h.hold

end Sys2Proof.Machine
end

section
/-! PROOFS. The laws under the path selector: how a change of eligibility leaves it placed again. -/

namespace Sys2Proof.Machine

/-! ## The path selector -/

/-- Eligibility reads the two judges and the pin alone (R121). -/
theorem eligible_of_judges {s t : State} (hf : t.fibreJudge = s.fibreJudge) (hr : t.radioJudge = s.radioJudge)
    (hp : t.selector.pin = s.selector.pin) (b : Bearer) : t.eligible b = s.eligible b := by
  cases b <;> simp [State.eligible, State.judge, hf, hr, hp]

/-- A bearer whose verdict is DOWN is not eligible (R121). -/
theorem eligible_of_down {s : State} {b : Bearer} (h : (s.judge b).verdict = .down) : s.eligible b = false := by
  rw [State.eligible, h]
  rfl

@[simp] theorem makeActive_takes (b : Bearer) (n : Bool) (s : State) :
    (makeActive b n s).selector.status = .on b ∧ (makeActive b n s).pause.selector = false := by simp [makeActive]

@[simp] theorem eligible_makeActive (b : Bearer) (n : Bool) (s : State) (c : Bearer) :
    (makeActive b n s).eligible c = s.eligible c := eligible_of_judges (by simp) (by simp) (by simp) c

@[simp] theorem mayTake_makeActive (b : Bearer) (n : Bool) (s : State) (c : Bearer) :
    (makeActive b n s).mayTake c = s.mayTake c := by simp [State.mayTake]

theorem judge_makeActive (b : Bearer) (n : Bool) (s : State) (c : Bearer) :
    (makeActive b n s).judge c = s.judge c := by cases c <;> simp [State.judge]

theorem BaseLaws.makeActive {s : State} (b : Bearer) (n : Bool) (h : BaseLaws s) (hs : s.selector.status ≠ .stopped) :
    BaseLaws (makeActive b n s) := by
  have hentered : CarryLaws { s with
      selector := { s.selector with status := .on b }
      pause := { s.pause with selector := false } } := by
    obtain ⟨⟨hse, -, hpa, han, hst, hst'⟩, hout, hep, hre, -, htt, hto⟩ := h.toCarryLaws
    refine ⟨⟨hse, ?_, hpa, han, hst, hst'⟩, hout, hep, fun hr => ⟨(hre hr).1, rfl⟩, fun _ => rfl, htt, fun hr => ⟨rfl, (hto hr).2⟩⟩
    cases b <;> simp
  have hcarry := hentered.endActive.sessionOn b (by simp [State.active, SelectorStatus.active])
    (by simp)
  refine ⟨hcarry.congr (by simp [Machine.makeActive]), ?_, by simpa using h.held⟩
  simpa [JudgingLaw, hs] using h.judging

/-- The selector is between two states: it runs, and the eligibility it was told is what the judges hold. -/
structure Moving (s : State) : Prop where
  base : BaseLaws s
  runs : s.selector.status ≠ .stopped
  handed : ∀ b, (s.judge b).handed = s.eligible b

theorem Seated.moving {s : State} (h : Seated s) (hs : s.selector.status ≠ .stopped) : Moving s := ⟨h.base, hs, h.handed⟩

/-- The selector's timers and record are no matter of the bearers. -/
theorem Seated.withHold {s : State} (h : Seated s) (t : Timer) :
    Seated { s with selector := { s.selector with holdTimer := t } } :=
  ⟨⟨⟨h.base.pause, h.base.session⟩, h.base.judging, h.base.held⟩, h.drain, h.handed, h.on, h.drains, h.outage⟩

theorem Seated.withRecord {s : State} (h : Seated s) (r : Option HandoverRecord) :
    Seated { s with selector := { s.selector with record := r } } :=
  ⟨⟨⟨h.base.pause, h.base.session⟩, h.base.judging, h.base.held⟩, h.drain, h.handed, h.on, h.drains, h.outage⟩

theorem Moving.withTimers {s : State} (h : Moving s) (d t : Timer) (r : Option HandoverRecord) :
    Moving { s with selector := { s.selector with drainTimer := d, holdTimer := t, record := r } } :=
  ⟨⟨⟨h.base.pause, h.base.session⟩, h.base.judging, h.base.held⟩, h.runs, h.handed⟩

theorem Moving.makeActive {s : State} (b : Bearer) (n : Bool) (h : Moving s) (hd : s.selector.drainTimer = none)
    (hm : s.mayTake b = true) : Seated (makeActive b n s) := by
  refine ⟨h.base.makeActive b n h.runs, by simp [hd, State.draining], fun c => ?_, ?_, by simp, by simp⟩
  · rw [judge_makeActive, eligible_makeActive, h.handed]
  · simp only [makeActive_takes, mayTake_makeActive]
    rintro c ⟨⟩
    exact hm

/-- The return hold's part of a change to a bearer: it leaves the selector placed. -/
def HoldSettles (hold : State → State) (b : Bearer) : Prop :=
  ∀ x, Seated x → x.selector.status = .on b → x.selector.holdTimer = none → Placed (hold x)

/-- On the fibre no return hold is to run, so there is nothing to do (R145). -/
theorem holdSettles_id : HoldSettles id .fibre := fun x h hs hn =>
  ⟨h, by simp [hn, holdWanted, hs]⟩

theorem wantedMet_switchDrain (hold : State → State) (source : Bearer) (o : HandoverOutcome) (s : State) :
    WantedMet (switchDrain hold source o s) := wantedMet_handWanted _

theorem Moving.switchDrain {s : State} {hold : State → State} {source : Bearer} (o : HandoverOutcome) (h : Moving s)
    (hm : s.mayTake source.other = true) (hn : s.selector.holdTimer = none) (hh : HoldSettles hold source.other) :
    Placed (switchDrain hold source o s) := by
  have hseat := (h.withTimers none s.selector.holdTimer s.selector.record).makeActive source.other false rfl hm
  exact (hh _ (hseat.withRecord _) (by simp) (by simpa using hn)).handWanted

@[simp] theorem enterDrain_writes (b : Bearer) (s : State) :
    (enterDrain b s).selector.status = .draining b ∧ (enterDrain b s).selector.holdTimer = none
      ∧ (enterDrain b s).selector.drainTimer.isSome = true ∧ (enterDrain b s).pause.selector = true := ⟨rfl, rfl, rfl, rfl⟩

@[simp] theorem eligible_enterDrain (b : Bearer) (s : State) (c : Bearer) : (enterDrain b s).eligible c = s.eligible c :=
  eligible_of_judges rfl rfl rfl c

@[simp] theorem mayTake_enterDrain (b : Bearer) (s : State) (c : Bearer) : (enterDrain b s).mayTake c = s.mayTake c := by
  simp [State.mayTake]

theorem BaseLaws.enterDrain {s : State} {b : Bearer} (h : BaseLaws s) (hs : s.selector.status = .on b) :
    BaseLaws (enterDrain b s) := by
  obtain ⟨⟨⟨hse, -, hpa, han, hst, hst'⟩, hss⟩, hj, hh⟩ := h
  refine ⟨⟨⟨hse, by simp, hpa, han, hst, hst'⟩, ?_⟩, ?_, hh⟩
  · simpa [SessionLaw, State.active, SelectorStatus.active, hs] using hss
  · simpa [JudgingLaw, hs] using hj

/-- A drain begins from an eligible bearer, to one that may be taken (R148). -/
theorem Moving.enterDrain {s : State} {b : Bearer} (h : Moving s) (hs : s.selector.status = .on b)
    (he : s.eligible b = true) (hm : s.mayTake b.other = true) : Placed (enterDrain b s) := by
  refine ⟨⟨h.base.enterDrain hs, by simp [State.draining], fun c => ?_, by simp, ?_, by simp⟩, by simp [holdWanted]⟩
  · rw [eligible_enterDrain, ← h.handed c]
    cases c <;> rfl
  · simp only [enterDrain_writes, eligible_enterDrain, mayTake_enterDrain]
    rintro c ⟨⟩
    exact ⟨he, hm⟩

theorem wantedMet_startDrain (hold : State → State) (b : Bearer) (s : State) : WantedMet (startDrain hold b s) := by
  unfold startDrain
  dsimp only
  split
  · exact wantedMet_switchDrain _ _ _ _
  · exact wantedMet_handWanted _

theorem Moving.startDrain {s : State} {hold : State → State} {b : Bearer} (h : Moving s) (hs : s.selector.status = .on b)
    (he : s.eligible b = true) (hm : s.mayTake b.other = true) (hh : HoldSettles hold b.other) :
    Placed (startDrain hold b s) := by
  have hbegun : Placed (Machine.handWanted (Machine.enterDrain b s)) := (h.enterDrain hs he hm).handWanted
  have hstatus : (Machine.handWanted (Machine.enterDrain b s)).selector.status = .draining b := by simp
  unfold Machine.startDrain
  dsimp only
  split
  · exact (hbegun.moving (by simp)).switchDrain _ (hbegun.drains b hstatus).2 (by simp) hh
  · exact hbegun

/-- The return hold is worked out (R145). -/
theorem Seated.updateHold {s : State} (h : Seated s) : Placed (updateHold s) := by
  unfold Machine.updateHold
  split
  · next hw =>
    obtain ⟨⟨hs, hp⟩, he⟩ : (s.selector.status = .on .radio ∧ s.selector.pin = .auto) ∧ s.eligible .fibre = true := by
      simpa [holdWanted] using hw
    have hr : s.eligible .radio = true := by
      have := h.on .radio hs
      simp_all [State.mayTake]
    split
    · next ht => exact ⟨h, by simp [ht, hw]⟩
    · split
      · exact (h.moving (by simp [hs])).startDrain hs hr
          (by simp [State.mayTake, Bearer.other, PinValue.permits, hp, he]) holdSettles_id
      · exact ⟨h.withHold _, iff_of_true rfl hw⟩
  · next hw => exact ⟨h.withHold none, iff_of_false (by simp) hw⟩

theorem holdSettles_updateHold (b : Bearer) : HoldSettles updateHold b := fun _ h _ _ => h.updateHold

theorem updateHold_of_not_wanted {s : State} (h : holdWanted s = false) :
    updateHold s = { s with selector := { s.selector with holdTimer := none } } := by simp [updateHold, h]

theorem WantedMet.updateHold {s : State} (h : WantedMet s) : WantedMet (updateHold s) := by
  unfold Machine.updateHold
  split
  · split
    · exact h
    · split
      · exact wantedMet_startDrain _ _ _
      · exact h
  · exact h

theorem Moving.forceTo {s : State} (source : Option Bearer) (b : Bearer) (h : Moving s)
    (hd : s.selector.drainTimer = none) (hm : s.mayTake b = true) : Placed (forceTo source b s) :=
  ((h.makeActive b source.isNone hd hm).withRecord _).updateHold.handWanted

theorem wantedMet_forceTo (source : Option Bearer) (b : Bearer) (s : State) : WantedMet (forceTo source b s) :=
  wantedMet_handWanted _

/-- OUTAGE before the wanted level is handed over (R140, R154). -/
def outageEntered (s : State) : State :=
  let entered := { s with
    selector := { s.selector with status := .outage, holdTimer := none }
    pause := { s.pause with selector := true } }
  let ended := stopRewindTimer (endActive entered)
  { ended with session := { ended.session with retry := none } }

theorem enterOutage_eq (s : State) : enterOutage s = handWanted (report .outageBegin (outageEntered s)) := rfl

theorem CarryLaws.outageEntered {s : State} (h : CarryLaws s) : CarryLaws (outageEntered s) := by
  obtain ⟨⟨hse, -, -, -, -, -⟩, hout, hep, -⟩ := h
  exact ⟨⟨hse, by simp [Machine.outageEntered], by simp [Machine.outageEntered], by simp [Machine.outageEntered],
    by simp [Machine.outageEntered], by simp [Machine.outageEntered]⟩, hout, hep, by simp [Machine.outageEntered],
    by simp [Machine.outageEntered, Machine.stopRewindTimer], by simp [Machine.outageEntered],
    by simp [Machine.outageEntered]⟩

@[simp] theorem outageEntered_keeps (s : State) :
    (outageEntered s).selector = { s.selector with status := .outage, holdTimer := none }
      ∧ (outageEntered s).fibreJudge = s.fibreJudge ∧ (outageEntered s).radioJudge = s.radioJudge
      ∧ (outageEntered s).radio = s.radio := by simp [outageEntered]

@[simp] theorem eligible_outageEntered (s : State) (b : Bearer) : (outageEntered s).eligible b = s.eligible b :=
  eligible_of_judges (by simp) (by simp) (by simp) b

/-- No bearer can be taken: OUTAGE (R140, R154). -/
theorem Moving.enterOutage {s : State} (h : Moving s) (hd : s.selector.drainTimer = none)
    (hm : ∀ b, s.mayTake b = false) : Placed (enterOutage s) := by
  rw [enterOutage_eq]
  refine (Placed.congr (s := outageEntered s) (by simp) ?_).handWanted
  have hj : JudgingLaw (outageEntered s) := by simpa [JudgingLaw, h.runs] using h.base.judging
  refine ⟨⟨⟨h.base.toCarryLaws.outageEntered, hj, by simpa using h.base.held⟩, ?_, fun b => ?_, ?_, ?_, fun _ b => ?_⟩, ?_⟩
  · simp [State.draining, hd]
  · rw [eligible_outageEntered, ← h.handed b]
    cases b <;> simp [State.judge]
  · simp
  · simp
  · simpa [State.mayTake] using hm b
  · simp [holdWanted]

theorem wantedMet_enterOutage (s : State) : WantedMet (enterOutage s) := wantedMet_handWanted _

/-- The active bearer stops being eligible (R142, R143). -/
theorem Moving.loseActive {s : State} {b : Bearer} (h : Moving s) (hd : s.selector.drainTimer = none)
    (he : s.eligible b = false) : Placed (loseActive b s) := by
  have hstopped := h.withTimers s.selector.drainTimer none s.selector.record
  unfold Machine.loseActive
  dsimp only
  split
  · next hm => exact hstopped.forceTo _ _ hd hm
  · next hm =>
    refine hstopped.enterOutage hd fun c => ?_
    have hb : s.mayTake b = false := by simp [State.mayTake, he]
    change s.mayTake c = false
    cases b <;> cases c <;> simp_all [Bearer.other]

theorem wantedMet_loseActive (b : Bearer) (s : State) : WantedMet (loseActive b s) := by
  unfold loseActive
  dsimp only
  split
  · exact wantedMet_forceTo _ _ _
  · exact wantedMet_enterOutage _

/-- A drain is abandoned (R150): back to an eligible source that the pin permits, or to OUTAGE when the target is gone too. -/
theorem Moving.abandonDrain {s : State} {source : Bearer} (o : HandoverOutcome) (h : Moving s)
    (hs : s.selector.status = .draining source) (he : s.selector.pin.permits source = true → s.eligible source = true)
    (ht : s.selector.pin.permits source = false → s.mayTake source.other = false) :
    Placed (abandonDrain source o s) := by
  unfold Machine.abandonDrain
  dsimp only
  split
  · next hp =>
    refine (Seated.updateHold ?_).handWanted
    obtain ⟨⟨⟨hse, -, hpa, han, hst, hst'⟩, hss⟩, hj, hh⟩ := h.base
    refine ⟨⟨⟨⟨hse, ?_, hpa, han, hst, hst'⟩, ?_⟩, ?_, hh⟩, ?_, h.handed, ?_, by simp, by simp⟩
    · cases source <;> simp
    · simpa [SessionLaw, State.active, SelectorStatus.active, hs] using hss
    · simpa [JudgingLaw, hs] using hj
    · simp [State.draining, completeRecord]
    · rintro b ⟨⟩
      change (s.eligible source && s.selector.pin.permits source) = true
      simp [hp, he hp]
  · next hp =>
    have hp : s.selector.pin.permits source = false := by simpa using hp
    refine Moving.enterOutage (h.withTimers none s.selector.holdTimer _) rfl fun c => ?_
    have hb : s.mayTake source = false := by simp [State.mayTake, hp]
    have hc := ht hp
    change s.mayTake c = false
    cases source <;> cases c <;> simp_all [Bearer.other]

theorem wantedMet_abandonDrain (source : Bearer) (o : HandoverOutcome) (s : State) :
    WantedMet (abandonDrain source o s) := by
  unfold abandonDrain
  dsimp only
  split
  · exact wantedMet_handWanted _
  · exact wantedMet_enterOutage _

/-! ## What the selector does with an eligibility -/

/-- The state with a bearer's eligibility written down as handed over (R121). -/
def noted (b : Bearer) (s : State) : State := s.mapJudge b (fun j => { j with handed := s.eligible b })

theorem noted_writes (b : Bearer) (s : State) :
    ((noted b s).judge b).handed = s.eligible b ∧ (noted b s).judge b.other = s.judge b.other := by
  cases b <;> exact ⟨rfl, rfl⟩

@[simp] theorem eligible_noted (b c : Bearer) (s : State) : (noted b s).eligible c = s.eligible c := by
  cases b <;> cases c <;> rfl

@[simp] theorem mayTake_noted (b c : Bearer) (s : State) : (noted b s).mayTake c = s.mayTake c := by
  cases b <;> cases c <;> rfl

@[simp] theorem noted_selector (b : Bearer) (s : State) : (noted b s).selector = s.selector := by cases b <;> rfl

theorem BaseLaws.noted {b : Bearer} {s : State} (h : BaseLaws s) : BaseLaws (noted b s) := by
  cases b <;> exact ⟨⟨h.pause, h.session⟩, h.judging, h.held⟩

theorem Told.handed_noted {b : Bearer} {s : State} (h : Told b s) (c : Bearer) :
    ((Machine.noted b s).judge c).handed = (Machine.noted b s).eligible c := by
  obtain ⟨hb, ho⟩ := noted_writes b s
  have hoh := h.handed
  rw [eligible_noted]
  by_cases hc : c = b
  · rw [hc, hb]
  · have : c = b.other := by cases b <;> cases c <;> simp_all [Bearer.other]
    rw [this, ho, hoh]

theorem rework_eq (b : Bearer) (s : State) :
    rework b s = if s.eligible b = (s.judge b).handed then s else onEligibility b (noted b s) := rfl

/-- A judge whose eligibility is the one it handed over has told the selector all (R121). -/
theorem Told.placed {b : Bearer} {s : State} (h : Told b s) (he : s.eligible b = (s.judge b).handed) : Placed s := by
  have hh : ∀ c, (s.judge c).handed = s.eligible c := fun c => by
    have hoh := h.handed
    cases b <;> cases c <;> simp_all [Bearer.other]
  have ht : ∀ c, s.toldMayTake c = s.mayTake c := fun c => by simp only [State.toldMayTake, State.mayTake, hh]
  refine ⟨⟨h.base, h.drain, hh, fun c hc => ?_, fun c hc => ?_, fun ho c => ?_⟩, ?_⟩
  · rw [← ht]; exact h.on c hc
  · rw [← ht, ← hh]; exact h.drains c hc
  · rw [← ht]; exact h.outage ho c
  · have hf := hh .fibre
    rw [h.hold, show s.fibreJudge.handed = _ from hf]
    simp [holdWanted, and_assoc]

theorem Told.moving_noted {b : Bearer} {s : State} (h : Told b s) (hs : s.selector.status ≠ .stopped) :
    Moving (noted b s) := ⟨h.base.noted, by simpa using hs, h.handed_noted⟩

theorem Told.mayTake_other {b : Bearer} {s : State} (h : Told b s) : s.mayTake b.other = s.toldMayTake b.other := by
  simp only [State.toldMayTake, State.mayTake, h.handed]

theorem Told.drainTimer_eq_none {b : Bearer} {s : State} (h : Told b s) (hs : ∀ c, s.selector.status ≠ .draining c) :
    s.selector.drainTimer = none := by
  have hd : s.draining = false := by
    unfold State.draining
    split
    · next c hc => exact absurd hc (hs c)
    · rfl
  simpa [hd] using h.drain

theorem Told.holdTimer_eq_none {b : Bearer} {s : State} (h : Told b s) (hs : s.selector.status ≠ .on .radio) :
    s.selector.holdTimer = none := by
  simpa [hs] using h.hold

/-- The other bearer, or this one. -/
theorem eq_or_eq_other (b c : Bearer) : c = b ∨ c = b.other := by cases b <;> cases c <;> simp [Bearer.other]

@[simp] theorem other_other (b : Bearer) : b.other.other = b := by cases b <;> rfl
@[simp] theorem other_ne (b : Bearer) : b.other ≠ b := by cases b <;> simp [Bearer.other]

/-- In OUTAGE a bearer is taken when it may be (R137, R141). -/
theorem Told.onEligibility_outage {b : Bearer} {s : State} (h : Told b s) (hs : s.selector.status = .outage) :
    Placed (if (noted b s).mayTake b then forceTo none b (noted b s) else noted b s) := by
  have hmov := h.moving_noted (by simp [hs])
  have hd := h.drainTimer_eq_none (by simp [hs])
  split
  · next hm => exact hmov.forceTo none b (by simpa using hd) hm
  · next hm =>
    refine ⟨⟨hmov.base, by simp [hs, hd, State.draining], hmov.handed, by simp [hs], by simp [hs], fun _ c => ?_⟩, ?_⟩
    · obtain rfl | rfl := eq_or_eq_other b c
      · simpa using hm
      · rw [mayTake_noted, h.mayTake_other]
        exact h.outage hs _
    · simp [holdWanted, hs, h.holdTimer_eq_none]

/-- On a bearer its own loss moves the selector, and the fibre's eligibility the return hold (R142, R143, R145). -/
theorem Told.onEligibility_on {b c : Bearer} {s : State} (h : Told b s) (he : s.eligible b ≠ (s.judge b).handed)
    (hs : s.selector.status = .on c) :
    Placed (if c = b then (if (noted b s).eligible b then noted b s else loseActive b (noted b s))
      else if c = .radio then updateHold (noted b s) else noted b s) := by
  have hmov := h.moving_noted (by simp [hs])
  have hd := h.drainTimer_eq_none (by simp [hs])
  have htold := h.on c hs
  obtain rfl | rfl := eq_or_eq_other b c
  · have hb : (s.judge c).handed = true := by simp_all [State.toldMayTake]
    have hlost : s.eligible c = false := by simpa [hb] using he
    simpa [hlost] using hmov.loseActive (by simpa using hd) (by simpa using hlost)
  · have hseat : Seated (noted b s) := by
      refine ⟨hmov.base, by simp [hs, hd, State.draining], hmov.handed, fun c hc => ?_, by simp [hs], by simp [hs]⟩
      obtain rfl : b.other = c := by simpa [hs] using hc
      rw [mayTake_noted, h.mayTake_other]
      exact htold
    rw [if_neg (other_ne b)]
    split
    · exact hseat.updateHold
    · next hc => exact ⟨hseat, by simp [holdWanted, hs, hc, h.holdTimer_eq_none]⟩

/-- In a drain a bearer's loss ends it (R150, R151). -/
theorem Told.onEligibility_draining {b source : Bearer} {s : State} (h : Told b s)
    (he : s.eligible b ≠ (s.judge b).handed) (hs : s.selector.status = .draining source) :
    Placed (if (noted b s).eligible b then noted b s
      else if b = source then switchDrain updateHold source .sourceLost (noted b s)
      else abandonDrain source .targetLost (noted b s)) := by
  have hmov := h.moving_noted (by simp [hs])
  obtain ⟨hsource, htarget⟩ := h.drains source hs
  have hlost : s.eligible b = false := by
    have hb : (s.judge b).handed = true := by
      obtain rfl | rfl := eq_or_eq_other b source
      · exact hsource
      · simp_all [State.toldMayTake]
    simpa [hb] using he
  simp only [eligible_noted, hlost, Bool.false_eq_true, if_false]
  obtain rfl | rfl := eq_or_eq_other b source
  · rw [if_pos rfl]
    refine hmov.switchDrain _ ?_ (by simp [h.holdTimer_eq_none, hs]) (holdSettles_updateHold _)
    rw [mayTake_noted, h.mayTake_other]
    exact htarget
  · rw [if_neg (fun hc => other_ne b hc.symm)]
    refine hmov.abandonDrain _ (by simpa using hs) (fun _ => ?_) (fun _ => ?_)
    · rw [eligible_noted, ← h.handed]
      exact hsource
    · simp [State.mayTake, hlost]

/-- The selector acts on a bearer's changed eligibility (R121, R137, R141 to R143, R145, R150, R151). -/
theorem Told.rework {b : Bearer} {s : State} (h : Told b s) : Placed (rework b s) := by
  rw [rework_eq]
  split
  · next he => exact h.placed he
  next he =>
  unfold onEligibility
  simp only [noted_selector]
  split
  · next hs =>
    refine ⟨⟨h.base.noted, ?_, h.handed_noted, by simp [hs], by simp [hs], by simp [hs]⟩, ?_⟩
    · simpa [State.draining] using h.drain
    · simp [holdWanted, hs, h.holdTimer_eq_none]
  · next hs => exact h.onEligibility_outage hs
  · next c hs => exact h.onEligibility_on he hs
  · next source hs => exact h.onEligibility_draining he hs

theorem WantedMet.noted {b : Bearer} {s : State} (h : WantedMet s) : WantedMet (noted b s) := by cases b <;> exact h

theorem WantedMet.onEligibility {b : Bearer} {s : State} (h : WantedMet s) : WantedMet (onEligibility b s) := by
  unfold Machine.onEligibility
  split
  · exact h
  · split
    · exact wantedMet_forceTo _ _ _
    · exact h
  · split
    · split
      · exact h
      · exact wantedMet_loseActive _ _
    · split
      · exact h.updateHold
      · exact h
  · split
    · exact h
    · split
      · exact wantedMet_switchDrain _ _ _ _
      · exact wantedMet_abandonDrain _ _ _

theorem WantedMet.rework {b : Bearer} {s : State} (h : WantedMet s) : WantedMet (rework b s) := by
  rw [rework_eq]
  split
  · exact h
  · exact h.noted.onEligibility

end Sys2Proof.Machine
end

section
/-! PROOFS. The module under the selector, and all laws at once. -/

namespace Sys2Proof.Machine

/-! ## The module under the selector's actions -/

/-- A property of the module controller's state that a level handed to it keeps. -/
def LevelKeeps (M : Radio → Prop) : Prop := ∀ s, M s.radio → M (handWanted s).radio

theorem handWanted_radio_cases (s : State) :
    handWanted s = s
      ∨ (handWanted s).radio = (actOnLevel { s with
          selector := { s.selector with wanted := wantedLevel s }
          radio := { s.radio with wantedHeld := wantedLevel s } }).radio := by
  unfold handWanted
  split
  · exact .inl rfl
  · exact .inr rfl

theorem levelKeeps_strict : LevelKeeps ModuleStrict := fun s h => by
  obtain he | he := handWanted_radio_cases s <;> rw [he]
  · exact h
  · exact ModuleStrict.actOnLevel h

theorem levelKeeps_loose : LevelKeeps ModuleLoose := fun s h => by
  obtain he | he := handWanted_radio_cases s <;> rw [he]
  · exact h
  · exact ModuleLoose.actOnLevel h

theorem levelKeeps_powered : LevelKeeps (fun r => r.status.powered = true) := fun s h => by
  obtain he | he := handWanted_radio_cases s <;> rw [he]
  · exact h
  · exact powered_actOnLevel h

namespace LevelKeeps

variable {M : Radio → Prop} (hM : LevelKeeps M) {s : State}
include hM

theorem switchDrain {hold : State → State} {source : Bearer} {o : HandoverOutcome}
    (hh : ∀ x : State, M x.radio → M (hold x).radio) (h : M s.radio) : M (switchDrain hold source o s).radio :=
  hM _ (hh _ (by simpa using h))

theorem startDrain {hold : State → State} {b : Bearer} (hh : ∀ x : State, M x.radio → M (hold x).radio) (h : M s.radio) :
    M (startDrain hold b s).radio := by
  have hbegun : M (handWanted (enterDrain b s)).radio := hM _ h
  unfold Machine.startDrain
  dsimp only
  split
  · exact hM.switchDrain hh hbegun
  · exact hbegun

theorem updateHold (h : M s.radio) : M (updateHold s).radio := by
  unfold Machine.updateHold
  split
  · split
    · exact h
    · split
      · exact hM.startDrain (fun _ hx => hx) h
      · exact h
  · exact h

theorem forceTo {source : Option Bearer} {b : Bearer} (h : M s.radio) : M (forceTo source b s).radio :=
  hM _ (hM.updateHold (by simpa using h))

theorem enterOutage (h : M s.radio) : M (enterOutage s).radio := hM _ (by simpa using h)

theorem loseActive {b : Bearer} (h : M s.radio) : M (loseActive b s).radio := by
  unfold Machine.loseActive
  dsimp only
  split
  · exact hM.forceTo h
  · exact hM.enterOutage h

theorem abandonDrain {source : Bearer} {o : HandoverOutcome} (h : M s.radio) : M (abandonDrain source o s).radio := by
  unfold Machine.abandonDrain
  dsimp only
  split
  · exact hM _ (hM.updateHold h)
  · exact hM.enterOutage h

theorem onEligibility {b : Bearer} (h : M s.radio) : M (onEligibility b s).radio := by
  unfold Machine.onEligibility
  split
  · exact h
  · split
    · exact hM.forceTo h
    · exact h
  · split
    · split
      · exact h
      · exact hM.loseActive h
    · split
      · exact hM.updateHold h
      · exact h
  · split
    · exact h
    · split
      · exact hM.switchDrain (fun _ => hM.updateHold) h
      · exact hM.abandonDrain h

theorem rework {b : Bearer} (h : M s.radio) : M (rework b s).radio := by
  rw [rework_eq]
  split
  · exact h
  · exact hM.onEligibility (by cases b <;> exact h)

end LevelKeeps

/-! ## All laws at once, with a choice for the module's -/

/-- All laws, with a given law for the module controller's state. -/
structure LawfulWith (M : Radio → Prop) (s : State) : Prop where
  placed : Placed s
  wanted : WantedMet s
  module : M s.radio

/-- The selector has acted on all it was told but for one judge, with a given law for the module controller's state. -/
structure ToldWith (M : Radio → Prop) (b : Bearer) (s : State) : Prop where
  told : Told b s
  wanted : WantedMet s
  module : M s.radio

theorem lawful_iff_lawfulWith {s : State} : Lawful s ↔ LawfulWith ModuleStrict s :=
  lawful_iff.trans ⟨fun ⟨hp, hw, hm⟩ => ⟨hp, hw, hm⟩, fun ⟨hp, hw, hm⟩ => ⟨hp, hw, hm⟩⟩

theorem WantedMet.congr {s t : State} (h : lawView t = lawView s) (hs : WantedMet s) : WantedMet t := by
  have hv : WantedMet (lawView s) := hs
  rw [← h] at hv
  exact hv

section
variable {M : Radio → Prop} {s t : State} {b : Bearer}

theorem LawfulWith.congr (hv : lawView t = lawView s) (hr : t.radio = s.radio) (h : LawfulWith M s) : LawfulWith M t :=
  ⟨h.placed.congr hv, h.wanted.congr hv, hr ▸ h.module⟩

theorem ToldWith.congr (hv : lawView t = lawView s) (hr : t.radio = s.radio) (h : ToldWith M b s) : ToldWith M b t :=
  ⟨h.told.congr hv, h.wanted.congr hv, hr ▸ h.module⟩

theorem LawfulWith.told (h : LawfulWith M s) (b : Bearer) : ToldWith M b s := ⟨h.placed.told b, h.wanted, h.module⟩

theorem ToldWith.rework (hM : LevelKeeps M) (h : ToldWith M b s) : LawfulWith M (rework b s) :=
  ⟨h.told.rework, h.wanted.rework, hM.rework h.module⟩

/-- A judge may change what it has not handed over yet. -/
theorem Told.mapJudge {f : Judge → Judge} (h : Told b s) (hh : (f (s.judge b)).handed = (s.judge b).handed)
    (ht : (f (s.judge b)).timer.isSome = (s.judge b).timer.isSome)
    (hd : (f (s.judge b)).decay.isSome = (s.judge b).decay.isSome)
    (hv : (f (s.judge b)).verdict = .up → (s.judge b).timer.isSome = true)
    (hp : (f (s.judge b)).penalty ≤ (f (s.judge b)).damping.ceiling) : Told b (s.mapJudge b f) := by
  obtain ⟨⟨hc, ⟨hft, hrt, hfd, hrd, hfv, hrv, hfp, hrp⟩, hheld⟩, hdrain, hoh, hon, hdr, hou, hhold⟩ := h
  have htold : ∀ c, (s.mapJudge b f).toldMayTake c = s.toldMayTake c := fun c => by
    cases b <;> cases c <;> simp_all [State.toldMayTake, State.judge]
  have hhanded : ∀ c, ((s.mapJudge b f).judge c).handed = (s.judge c).handed := fun c => by
    cases b <;> cases c <;> simp_all [State.judge]
  have hsel : (s.mapJudge b f).selector = s.selector := by simp
  have hbase : BaseLaws (s.mapJudge b f) := by
    refine ⟨?_, ?_, by simpa using hheld⟩
    · cases b <;> exact ⟨hc.pause, hc.session⟩
    · cases b with
      | fibre => exact ⟨ht ▸ hft, hrt, hd ▸ hfd, hrd, fun h => ht ▸ hv h, hrv, hp, hrp⟩
      | radio => exact ⟨hft, ht ▸ hrt, hfd, hd ▸ hrd, hfv, fun h => ht ▸ hv h, hfp, hp⟩
  refine ⟨hbase, by simpa [State.draining] using hdrain, ?_, ?_, ?_, ?_, ?_⟩
  · rw [hhanded, hoh]
    cases b <;> rfl
  · simpa only [htold, hsel] using hon
  · simpa only [htold, hsel, hhanded] using hdr
  · simpa only [htold, hsel] using hou
  · rw [hsel, hhold]
    have := hhanded .fibre
    simp_all [State.judge]

end

end Sys2Proof.Machine
end

section
/-! PROOFS. The laws under the judges: verdicts, penalties and suppression. -/

namespace Sys2Proof.Machine

section
variable {M : Radio → Prop} {s t : State} {b : Bearer}

theorem ToldWith.mapJudge {f : Judge → Judge} (h : ToldWith M b s) (hh : (f (s.judge b)).handed = (s.judge b).handed)
    (ht : (f (s.judge b)).timer.isSome = (s.judge b).timer.isSome)
    (hd : (f (s.judge b)).decay.isSome = (s.judge b).decay.isSome)
    (hv : (f (s.judge b)).verdict = .up → (s.judge b).timer.isSome = true)
    (hp : (f (s.judge b)).penalty ≤ (f (s.judge b)).damping.ceiling) : ToldWith M b (s.mapJudge b f) :=
  ⟨h.told.mapJudge hh ht hd hv hp, by cases b <;> exact h.wanted, by cases b <;> exact h.module⟩

/-- A judge whose eligibility is the one it handed over has told the selector all (R121). -/
theorem ToldWith.lawful (h : ToldWith M b s) (he : s.eligible b = (s.judge b).handed) : LawfulWith M s :=
  ⟨h.told.placed he, h.wanted, h.module⟩

/-! ## The judges -/

/-- An UP verdict belongs to a judged bearer (R106). -/
theorem BaseLaws.judged_of_up (h : BaseLaws s) (b : Bearer) (hv : (s.judge b).verdict = .up) :
    (s.judge b).timer.isSome = true := by
  obtain ⟨-, -, -, -, hf, hr, -⟩ := h.judging
  cases b
  · exact hf hv
  · exact hr hv

theorem BaseLaws.penalty_le (h : BaseLaws s) (b : Bearer) : (s.judge b).penalty ≤ (s.judge b).damping.ceiling := by
  obtain ⟨-, -, -, -, -, -, hf, hr⟩ := h.judging
  cases b
  · exact hf
  · exact hr

theorem lawView_setSuppressed (b : Bearer) (v : Bool) (s : State) :
    lawView (setSuppressed b v s) = lawView (s.mapJudge b (fun j => { j with suppressed := v })) := by
  cases b <;> simp [setSuppressed]

theorem ToldWith.setSuppressed (v : Bool) (h : ToldWith M b s) : ToldWith M b (setSuppressed b v s) := by
  refine ToldWith.congr (lawView_setSuppressed b v s) (by cases b <;> simp [Machine.setSuppressed]) ?_
  exact h.mapJudge rfl rfl rfl (h.told.base.judged_of_up b) (h.told.base.penalty_le b)

theorem ToldWith.flapStep (h : ToldWith M b s) : ToldWith M b (flapStep b s) := by
  have hstep : ToldWith M b (s.mapJudge b (fun j => { j with penalty := j.damping.stepped j.penalty })) :=
    h.mapJudge rfl rfl rfl (h.told.base.judged_of_up b) (Nat.min_le_left _ _)
  unfold Machine.flapStep
  dsimp only
  split
  · exact hstep.setSuppressed true
  · exact hstep

theorem LawfulWith.fall (hM : LevelKeeps M) (h : LawfulWith M s) (b : Bearer) : LawfulWith M (fall b s) := by
  have hdown : ToldWith M b (s.mapJudge b (fun j => { j with verdict := .down })) :=
    (h.told b).mapJudge rfl rfl rfl (by simp) (h.placed.base.penalty_le b)
  exact ((hdown.congr (lawView_report _ _) (by simp)).flapStep).rework hM

theorem LawfulWith.rise (hM : LevelKeeps M) (h : LawfulWith M s) (ht : (s.judge b).timer.isSome = true) :
    LawfulWith M (rise b s) := by
  have hup : ToldWith M b (s.mapJudge b (fun j => { j with verdict := .up })) :=
    (h.told b).mapJudge rfl rfl rfl (fun _ => ht) (h.placed.base.penalty_le b)
  exact (hup.congr (lawView_report _ _) (by simp)).rework hM

/-- A judge may change what the laws do not read of it. -/
theorem LawfulWith.mapJudge {f : Judge → Judge} (hf : ∀ j, (f j).lawView = j.lawView) (h : LawfulWith M s) :
    LawfulWith M (s.mapJudge b f) :=
  h.congr (lawView_mapJudge b s hf) (by simp)

theorem LawfulWith.hardFail (hM : LevelKeeps M) (h : LawfulWith M s) (b : Bearer) : LawfulWith M (hardFail b s) := by
  have hzeroed : LawfulWith M (s.mapJudge b Judge.hardFailed) := h.mapJudge fun _ => rfl
  unfold Machine.hardFail
  split
  · dsimp only
    split
    · exact hzeroed.fall hM b
    · exact hzeroed
  · exact h

theorem LawfulWith.decayBy (hM : LevelKeeps M) (h : LawfulWith M s) (b : Bearer) : LawfulWith M (decayBy b s) := by
  unfold Machine.decayBy
  split
  · exact h
  · have hticked : ToldWith M b (s.mapJudge b (fun j => { j with penalty := j.damping.decayed j.penalty })) :=
      (h.told b).mapJudge rfl rfl rfl (h.placed.base.judged_of_up b)
        ((Nat.sub_le _ _).trans (h.placed.base.penalty_le b))
    dsimp only
    split
    · exact (hticked.setSuppressed false).rework hM
    · exact hticked.lawful (by have := h.placed.handed b; cases b <;> exact this.symm)

theorem lawView_counted_windowed (good : Bool) (j : Judge) : ((j.counted good).windowed).lawView = j.lawView := by
  unfold Judge.windowed Judge.counted
  repeat' split
  all_goals rfl

theorem LawfulWith.verdictTest (hM : LevelKeeps M) (h : LawfulWith M s) (ht : (s.judge b).timer.isSome = true) :
    LawfulWith M (verdictTest b s) := by
  unfold Machine.verdictTest
  dsimp only
  split
  · split
    · exact h.rise hM ht
    · exact h
  · split
    · have hzeroed : LawfulWith M (s.mapJudge b (fun k => { k with goodRun := 0, cleanRun := 0 })) := h.mapJudge fun _ => rfl
      exact hzeroed.fall hM b
    · exact h

end

end Sys2Proof.Machine
end

section
/-! PROOFS. The laws under the judging intervals and the damping settings. -/

namespace Sys2Proof.Machine

/-! ## Intervals -/

@[simp] theorem lawView_probeDue (b : Bearer) (together : Bool) (s : State) :
    lawView (probeDue b together s) = lawView s := by simp [lawView, Judge.lawView]

@[simp] theorem other_judge_probeDue (together : Bool) (s : State) :
    (probeDue .fibre together s).radioJudge = s.radioJudge ∧ (probeDue .radio together s).fibreJudge = s.fibreJudge := by
  constructor
  · simp only [probeDue]
    (repeat' split) <;> simp
  · simp only [probeDue]
    (repeat' split) <;> simp

@[simp] theorem timer_counted_windowed (good : Bool) (j : Judge) : ((j.counted good).windowed).timer = j.timer :=
  show ((j.counted good).windowed).lawView.timer = j.lawView.timer by rw [lawView_counted_windowed]

theorem ModuleStrict.askSignal {s : State} (h : ModuleStrict s.radio) : ModuleStrict (askSignal s).radio := by
  obtain ⟨hm, ho, hl, hre, hc, hd⟩ := id h
  unfold Machine.askSignal
  split
  · next hs =>
    have hs : s.radio.status = .ready := by simp_all
    exact ⟨hm, by simp [hs, ModuleStatus.mayAwait], hl, hre, hc, fun h => ⟨(hd h).1, rfl⟩⟩
  · exact h

section
variable {M N : Radio → Prop} {s t : State} {b : Bearer}

/-- The module controller's state may change in what the other laws do not read of it. -/
theorem Placed.withRadio {r : Radio} (h : Placed s) (hs : r.status = .ready ↔ s.radio.status = .ready)
    (hw : r.wantedHeld = s.radio.wantedHeld) : Placed { s with radio := r } := by
  obtain ⟨⟨⟨⟨hp, hss⟩, ⟨hf, hr, hj⟩, hh⟩, hd, hhand, hon, hdr, hou⟩, hhold⟩ := h
  exact ⟨⟨⟨⟨hp, hss⟩, ⟨hf, hr.trans (and_congr_right fun _ => hs.symm), hj⟩, hw.trans hh⟩, hd, hhand, hon, hdr, hou⟩, hhold⟩

theorem LawfulWith.withRadio {r : Radio} (h : LawfulWith M s) (hs : r.status = .ready ↔ s.radio.status = .ready)
    (hw : r.wantedHeld = s.radio.wantedHeld) (hset : r.settings = s.radio.settings) (hr : N r) :
    LawfulWith N { s with radio := r } := by
  refine ⟨h.placed.withRadio hs hw, ?_, hr⟩
  have := h.wanted
  unfold WantedMet wantedLevel effectiveStandby at this ⊢
  simpa [hset] using this

theorem LawfulWith.askSignal (h : LawfulWith ModuleStrict s) : LawfulWith ModuleStrict (askSignal s) := by
  have hm := h.module.askSignal
  have he : Machine.askSignal s = { s with radio := (Machine.askSignal s).radio } := by
    unfold Machine.askSignal
    split <;> rfl
  rw [he]
  exact h.withRadio (by simp) (by simp) (by simp) hm

/-- An interval starts at a judged bearer (R107). -/
theorem LawfulWith.startInterval (m : Nat) (together : Bool) (ht : (s.judge b).timer.isSome = true)
    (h : LawfulWith ModuleStrict s) : LawfulWith ModuleStrict (startInterval b m together s) := by
  have hnumbered : LawfulWith ModuleStrict (s.mapJudge b fun j => { j with
      count := j.count + 1
      answered := false
      linkHeld := s.portOpen b
      timer := some (m + j.settings.interval * 1000) }) := by
    refine ToldWith.lawful (b := b) ((h.told b).mapJudge rfl ht.symm rfl (h.placed.base.judged_of_up b)
      (h.placed.base.penalty_le b)) ?_
    have := h.placed.handed b
    cases b <;> exact this.symm
  have hdue := hnumbered.congr (lawView_probeDue b together _) (by simp)
  unfold Machine.startInterval
  cases b
  · exact hdue
  · exact hdue.askSignal

theorem LawfulWith.endInterval (h : LawfulWith ModuleStrict s) (b : Bearer) : LawfulWith ModuleStrict (endInterval b s) := by
  unfold Machine.endInterval
  split
  · exact h
  · next moment hm =>
    dsimp only
    have hhere : LawfulWith ModuleStrict (s.advanceTo moment) := h.congr (by simp) (by simp)
    have hcounted : LawfulWith ModuleStrict
        ((s.advanceTo moment).mapJudge b (fun j => (j.counted ((s.judge b).intervalGood b)).windowed)) :=
      hhere.mapJudge (lawView_counted_windowed _)
    have ht : (((s.advanceTo moment).mapJudge b (fun j => (j.counted ((s.judge b).intervalGood b)).windowed)).judge b).timer.isSome
        = true := by
      cases b <;> simp_all [State.judge]
    have htested := hcounted.verdictTest levelKeeps_strict ht
    split
    · next hj => exact htested.startInterval _ _ hj
    · exact htested

theorem LawfulWith.tick (hM : LevelKeeps M) (h : LawfulWith M s) (b : Bearer) : LawfulWith M (tick b s) := by
  unfold Machine.tick
  split
  · exact h
  · next due hd =>
    have hhere : LawfulWith M (s.advanceTo due) := h.congr (by simp) (by simp)
    have hd : ((s.advanceTo due).judge b).decay = some due := by cases b <;> simpa [State.judge] using hd
    refine LawfulWith.decayBy hM ?_ b
    refine ToldWith.lawful (b := b) ((hhere.told b).mapJudge rfl rfl (by simp [hd]) (hhere.placed.base.judged_of_up b)
      (hhere.placed.base.penalty_le b)) ?_
    have := hhere.placed.handed b
    cases b <;> exact this.symm

/-! ## Damping settings -/

theorem ToldWith.retestSuppression (hM : LevelKeeps M) (h : ToldWith M b s)
    (he : s.eligible b = (s.judge b).handed) : LawfulWith M (retestSuppression b s) := by
  unfold Machine.retestSuppression
  dsimp only
  split
  · exact (h.setSuppressed true).rework hM
  · split
    · exact (h.setSuppressed false).rework hM
    · exact h.lawful he

theorem LawfulWith.restartDecay (h : LawfulWith M s) (b : Bearer) (old new : Nat) :
    LawfulWith M (restartDecay b old new s) := by
  unfold Machine.restartDecay
  split
  · exact h
  · have hdecay : ∀ o : Timer, (if o.isSome = true then some (s.inSeconds new) else none).isSome = o.isSome := fun o => by
      cases o <;> simp
    refine ToldWith.lawful (b := b) ((h.told b).mapJudge rfl rfl (hdecay _) (h.placed.base.judged_of_up b)
      (h.placed.base.penalty_le b)) ?_
    have := h.placed.handed b
    cases b <;> exact this.symm

theorem LawfulWith.setDamping (hM : LevelKeeps M) (h : LawfulWith M s) (b : Bearer) (d : Damping) :
    LawfulWith M (setDamping b d s) := by
  have hgiven : ToldWith M b (s.mapJudge b (Judge.withDamping d)) :=
    (h.told b).mapJudge rfl rfl rfl (h.placed.base.judged_of_up b) (Nat.min_le_right _ _)
  refine LawfulWith.restartDecay (hgiven.retestSuppression hM ?_) b _ _
  have := h.placed.handed b
  cases b <;> exact this.symm

end

/-! ## Judging begins -/

theorem beginJudging_writes (b : Bearer) (s : State) :
    ((beginJudging b s).judge b).timer.isSome = true ∧ ((beginJudging b s).judge b).verdict = .down := by
  cases b <;> simp [beginJudging, startInterval, State.judge, Judge.cleared]

@[simp] theorem beginJudging_fibre (s : State) :
    (beginJudging .fibre s).fibreJudge.timer.isSome = true ∧ (beginJudging .fibre s).fibreJudge.verdict = .down
      ∧ (beginJudging .fibre s).radioJudge = s.radioJudge ∧ (beginJudging .fibre s).radio = s.radio :=
  ⟨(beginJudging_writes .fibre s).1, (beginJudging_writes .fibre s).2, by simp [beginJudging, startInterval],
    by simp [beginJudging, startInterval]⟩

@[simp] theorem beginJudging_radio (s : State) :
    (beginJudging .radio s).radioJudge.timer.isSome = true ∧ (beginJudging .radio s).radioJudge.verdict = .down
      ∧ (beginJudging .radio s).fibreJudge = s.fibreJudge :=
  ⟨(beginJudging_writes .radio s).1, (beginJudging_writes .radio s).2, by simp [beginJudging, startInterval]⟩

theorem ModuleStrict.beginJudging {s : State} (b : Bearer) (h : ModuleStrict s.radio) :
    ModuleStrict (beginJudging b s).radio := by
  cases b with
  | fibre => simpa using h
  | radio => exact ModuleStrict.askSignal (by simpa using h)

end Sys2Proof.Machine
end

section
/-! PROOFS. The laws under the module controller: its states and their timers. -/

namespace Sys2Proof.Machine

/-! ## The module's transitions -/

theorem LevelKeeps.and {M N : Radio → Prop} (hM : LevelKeeps M) (hN : LevelKeeps N) :
    LevelKeeps (fun r => M r ∧ N r) := fun s h => ⟨hM s h.1, hN s h.2⟩

section
variable {M N : Radio → Prop} {s t : State} {b : Bearer}

theorem LawfulWith.imp (h : LawfulWith M s) (hr : N s.radio) : LawfulWith N s := ⟨h.placed, h.wanted, hr⟩

/-- What the selector was told stands while a module operation keeps the selector, the handed eligibilities and the fibre judge. -/
theorem Placed.told_radio (h : Placed s) (hb : BaseLaws t) (hsel : t.selector = s.selector)
    (hf : t.fibreJudge = s.fibreJudge) (hr : t.radioJudge.handed = s.radioJudge.handed) : Told .radio t := by
  have ht : ∀ c, t.toldMayTake c = s.toldMayTake c := fun c => by
    cases c <;> simp [State.toldMayTake, State.judge, hsel, hf, hr]
  have hh : ∀ c, (t.judge c).handed = (s.judge c).handed := fun c => by
    cases c <;> simp [State.judge, hf, hr]
  have he : t.eligible .fibre = s.eligible .fibre := by simp [State.eligible, State.judge, hf, hsel]
  obtain ⟨-, hd, hoh, hon, hdr, hou, hhold⟩ := h.told .radio
  refine ⟨hb, by simpa [State.draining, hsel] using hd, ?_, ?_, ?_, ?_, ?_⟩
  · exact (hh _).trans (hoh.trans he.symm)
  · simpa only [ht, hsel] using hon
  · simpa only [ht, hh, hsel] using hdr
  · simpa only [ht, hsel] using hou
  · rw [hsel, hhold, hf]

theorem WantedMet.of_fields (h : WantedMet s) (hsel : t.selector = s.selector) (hl : t.lanes = s.lanes)
    (hset : t.radio.settings = s.radio.settings) : WantedMet t := by
  unfold WantedMet wantedLevel effectiveStandby at h ⊢
  rw [hsel, hl, hset]
  exact h

/-- The module enters RELEASING: the radio judge's withdrawal is still to be told (R161, R162). -/
theorem LawfulWith.enterReleasing (c : ReleaseCause) (h : LawfulWith ModuleLoose s)
    (hp : s.radio.status.powered = true) : ToldWith ModuleStrict .radio (enterReleasing c s) :=
  ⟨h.placed.told_radio (h.placed.base.enterReleasing c) (by simp) (by simp) (by simp),
    h.wanted.of_fields (by simp) (by simp) (by simp), h.module.enterReleasing c hp⟩

theorem LawfulWith.releaseFrom (c : ReleaseCause) (h : LawfulWith ModuleLoose s)
    (hp : s.radio.status.powered = true) : LawfulWith ModuleStrict (releaseFrom c s) :=
  (h.enterReleasing c hp).rework levelKeeps_strict

theorem LawfulWith.actOnLevel (h : LawfulWith ModuleStrict s) : ToldWith ModuleStrict .radio (actOnLevel s) :=
  ⟨h.placed.told_radio h.placed.base.actOnLevel (by simp) (by simp) (by simp),
    h.wanted.of_fields (by simp) (by simp) (by simp), ModuleStrict.actOnLevel h.module⟩

/-- A module that is not READY has no linger timer and no release due (R164). -/
theorem ModuleLoose.of_not_ready {r : Radio} (h : ModuleLoose r) (hs : r.status ≠ .ready) :
    r.linger = none ∧ r.releaseDue = false := by
  obtain ⟨-, -, hl, -, -, hd⟩ := h
  exact ⟨by simpa [hs] using hl, by simpa [hs] using hd⟩

theorem ModuleLoose.rest_eq_none {r : Radio} (h : ModuleLoose r) (hs : r.status ≠ .resting) : r.rest = none := by
  obtain ⟨-, -, -, hre, -, -⟩ := h
  simpa [hs] using hre

theorem ModuleLoose.cause_eq_none {r : Radio} (h : ModuleLoose r) (hs : r.status ≠ .releasing) : r.cause = none := by
  obtain ⟨-, -, -, -, hc, -⟩ := h
  simpa [hs] using hc

theorem LawfulWith.wake (h : LawfulWith ModuleStrict s) (hs : s.radio.status = .off) : LawfulWith ModuleStrict (wake s) := by
  have hm := h.module.loose
  obtain ⟨hl, hd⟩ := hm.of_not_ready (by simp [hs])
  have hc := hm.cause_eq_none (by simp [hs])
  have hr := hm.rest_eq_none (by simp [hs])
  exact h.withRadio (by simp [hs]) rfl rfl
    (by simp [ModuleStrict, ModuleLaw, ModuleStatus.powered, ModuleStatus.mayAwait, hl, hd, hc, hr])

/-- A search round begins from a module that is powered, without a cause of release (R160). -/
theorem LawfulWith.searchRound (n : Nat) (h : LawfulWith ModuleLoose s) (hs : s.radio.status ≠ .ready)
    (hp : s.radio.status.powered = true) (hc : s.radio.cause = none) : LawfulWith ModuleStrict (searchRound n s) := by
  obtain ⟨hl, hd⟩ := h.module.of_not_ready hs
  have hr := h.module.rest_eq_none (by rintro hr; simp [hr, ModuleStatus.powered] at hp)
  have hm : s.radio.modPwr = true := h.module.1.trans hp
  refine LawfulWith.congr (lawView_countModule _ _) rfl ?_
  exact h.withRadio (by simp [hs]) rfl rfl
    (by simp [ModuleStrict, ModuleLaw, ModuleStatus.powered, ModuleStatus.mayAwait, hl, hd, hc, hr, hm])

theorem LawfulWith.enterResting (h : LawfulWith ModuleLoose s) (hs : s.radio.status = .releasing) :
    LawfulWith ModuleStrict (enterResting s) := by
  obtain ⟨hl, hd⟩ := h.module.of_not_ready (by simp [hs])
  exact h.withRadio (by simp [hs]) rfl rfl
    (by simp [ModuleStrict, ModuleLaw, ModuleStatus.powered, ModuleStatus.mayAwait, hl, hd])

/-- The module enters OFF from a state that is not READY, and may wake (R160, R161, R163). -/
theorem LawfulWith.enterOff (h : LawfulWith ModuleLoose s) (hs : s.radio.status ≠ .ready) :
    LawfulWith ModuleStrict (enterOff s) := by
  obtain ⟨hl, hd⟩ := h.module.of_not_ready hs
  have hoff : LawfulWith ModuleStrict { s with radio := { s.radio with
      status := .off, modPwr := false, outstanding := none, rest := none, cause := none } } :=
    h.withRadio (by simp [hs]) rfl rfl
      (by simp [ModuleStrict, ModuleLaw, ModuleStatus.powered, ModuleStatus.mayAwait, hl, hd])
  unfold Machine.enterOff
  obtain he | ⟨-, he⟩ | ⟨hr, -⟩ := actOnLevel_cases { s with radio := { s.radio with
      status := .off, modPwr := false, outstanding := none, rest := none, cause := none } }
  · rw [he]; exact hoff
  · rw [he]; exact hoff.wake rfl
  · simp at hr

/-- READY with a linger timer that starts, or with the release of a linger of 0 s (R164): the radio's verdict is DOWN. -/
theorem LawfulWith.startLinger (h : LawfulWith ModuleStrict s) (hs : s.radio.status = .ready)
    (hd : s.radio.releaseDue = false) (hv : s.radioJudge.verdict = .down) : LawfulWith ModuleStrict (startLinger s) := by
  unfold Machine.startLinger
  split
  · refine (LawfulWith.enterReleasing .linger (h.imp h.module.loose) (by simp [hs, ModuleStatus.powered])).lawful ?_
    have hh := h.placed.handed .radio
    simp_all [State.eligible, State.judge, enterReleasing_radioJudge, Judge.cleared]
  · obtain ⟨hm, ho, -, hre, hc, -⟩ := h.module
    exact h.withRadio Iff.rfl rfl rfl ⟨hm, ho, fun _ => ⟨hs, hd⟩, hre, hc, by simp [hd]⟩

/-- The radio's verdict is DOWN while the module is not READY (R106). -/
theorem BaseLaws.radio_down (h : BaseLaws s) (hs : s.radio.status ≠ .ready) :
    s.radioJudge.timer = none ∧ s.radioJudge.verdict = .down := by
  obtain ⟨-, ht, -, -, -, hu, -⟩ := h.judging
  have ht' : s.radioJudge.timer = none := by simpa [hs] using ht
  refine ⟨ht', ?_⟩
  cases hv : s.radioJudge.verdict
  · rfl
  · simp [ht', hv] at hu

/-- The module in READY, before the radio is judged (R162). -/
def readyEntered (s : State) : State :=
  { s with radio := { s.radio with status := .ready, outstanding := none, stallCount := 0, handshake := .free, held := none } }

@[simp] theorem readyEntered_writes (s : State) :
    (readyEntered s).pause = s.pause ∧ (readyEntered s).session = s.session ∧ (readyEntered s).sender = s.sender
      ∧ (readyEntered s).receiver = s.receiver ∧ (readyEntered s).selector = s.selector ∧ (readyEntered s).lanes = s.lanes
      ∧ (readyEntered s).fibreJudge = s.fibreJudge ∧ (readyEntered s).radioJudge = s.radioJudge
      ∧ (readyEntered s).radio.status = .ready ∧ (readyEntered s).radio.releaseDue = s.radio.releaseDue
      ∧ (readyEntered s).radio.wantedHeld = s.radio.wantedHeld ∧ (readyEntered s).radio.settings = s.radio.settings :=
  ⟨rfl, rfl, rfl, rfl, rfl, rfl, rfl, rfl, rfl, rfl, rfl, rfl⟩

theorem enterReady_eq (s : State) : enterReady s =
    (let judged := if s.selector.status == .stopped then readyEntered s else beginJudging .radio (readyEntered s)
    if s.radio.wantedHeld == .none then startLinger judged else judged) := rfl

theorem ModuleStrict.readyEntered (h : ModuleStrict s.radio) (hs : s.radio.status = .searching) :
    ModuleStrict (readyEntered s).radio := by
  obtain ⟨hl, hd⟩ := h.loose.of_not_ready (by simp [hs])
  have hr := h.loose.rest_eq_none (by simp [hs])
  have hc := h.loose.cause_eq_none (by simp [hs])
  have hm : s.radio.modPwr = true := by rw [h.loose.1, hs]; rfl
  simp [ModuleStrict, ModuleLaw, Machine.readyEntered, ModuleStatus.powered, ModuleStatus.mayAwait, hl, hd, hc, hr, hm]

/-- A module just READY is judged outside STOPPED, with its verdict DOWN (R106, R162). -/
theorem LawfulWith.readyJudged (h : LawfulWith ModuleStrict s) (hs : s.radio.status = .searching) :
    LawfulWith ModuleStrict
        (if s.selector.status == .stopped then Machine.readyEntered s else beginJudging .radio (Machine.readyEntered s))
      ∧ (if s.selector.status == .stopped then Machine.readyEntered s
        else beginJudging .radio (Machine.readyEntered s)).radioJudge.verdict = .down := by
  obtain ⟨ht, hv⟩ := h.placed.base.radio_down (by simp [hs])
  have hhanded : s.radioJudge.handed = false := by
    exact (h.placed.handed .radio).trans (eligible_of_down hv)
  obtain ⟨⟨hp, hss⟩, ⟨hf, hr, hdf, hdr, huf, hur, hpf, hpr⟩, hheld⟩ := h.placed.base
  have hm := h.module.readyEntered hs
  split
  · next hst =>
    have hst : s.selector.status = .stopped := by simpa using hst
    have hbase : BaseLaws (Machine.readyEntered s) :=
      ⟨⟨hp, hss⟩, ⟨hf, by simp [hst, ht], hdf, hdr, huf, hur, hpf, hpr⟩, hheld⟩
    exact ⟨(ToldWith.mk (h.placed.told_radio hbase rfl rfl rfl) h.wanted hm).lawful (h.placed.handed .radio).symm, hv⟩
  · next hst =>
    have hst : s.selector.status ≠ .stopped := by simpa using hst
    have hbase : BaseLaws (beginJudging .radio (Machine.readyEntered s)) := by
      refine ⟨⟨by simpa [PauseLaw] using hp, by simpa [SessionLaw, State.active] using hss⟩, ?_, by simpa using hheld⟩
      simp only [JudgingLaw, beginJudging_radio, beginJudging_frame, readyEntered_writes]
      exact ⟨hf, by simp [hst], hdf, hdr, huf, by simp, hpf, hpr⟩
    refine ⟨(ToldWith.mk (h.placed.told_radio hbase (by simp) (by simp) (by simp))
      (h.wanted.of_fields (by simp) (by simp) (by simp)) (hm.beginJudging .radio)).lawful ?_, by simp⟩
    rw [eligible_of_down (beginJudging_writes .radio _).2]
    simp [State.judge, hhanded]

theorem LawfulWith.enterReady (h : LawfulWith ModuleStrict s) (hs : s.radio.status = .searching) :
    LawfulWith ModuleStrict (enterReady s) := by
  obtain ⟨hjudged, hdown⟩ := h.readyJudged hs
  have hd := (h.module.loose.of_not_ready (by simp [hs])).2
  rw [enterReady_eq]
  dsimp only
  split
  · refine hjudged.startLinger ?_ ?_ hdown
    · split <;> simp
    · split <;> simp [hd]
  · exact hjudged

/-! ## A radio that is lost -/

/-- The selector acts on a radio that is lost by handing one level over, or not at all (R142, R143, R150, R151). -/
theorem onEligibility_radio_lost (he : s.eligible .radio = false) :
    ∃ x : State, x.radio = s.radio ∧ x.radioJudge = s.radioJudge
      ∧ (onEligibility .radio s = x ∨ onEligibility .radio s = handWanted x) := by
  have hfibre : ∀ x : State, x.selector.status = .on .fibre → (updateHold x).radio = x.radio
      ∧ (updateHold x).radioJudge = x.radioJudge := fun x hx => by
    rw [updateHold_of_not_wanted (by simp [holdWanted, hx])]
    exact ⟨rfl, rfl⟩
  have hout : ∀ x : State, x.radio = s.radio → x.radioJudge = s.radioJudge → ∃ y : State, y.radio = s.radio
      ∧ y.radioJudge = s.radioJudge ∧ (enterOutage x = y ∨ enterOutage x = handWanted y) := fun x hr hj =>
    ⟨_, by simpa using hr, by simpa using hj, .inr (enterOutage_eq x)⟩
  unfold onEligibility
  split
  · exact ⟨s, rfl, rfl, .inl rfl⟩
  · simp [State.mayTake, he]
    exact ⟨s, rfl, rfl, .inl rfl⟩
  · next c hs =>
    cases c with
    | fibre => simp; exact ⟨s, rfl, rfl, .inl rfl⟩
    | radio =>
      simp only [if_true, he, Bool.false_eq_true, if_false, Machine.loseActive]
      split
      · obtain ⟨hr, hj⟩ := hfibre (writeRecord (some .radio) .fibre .forced (some .done) (makeActive .fibre false
          { s with selector := { s.selector with holdTimer := none } })) (by simp)
        exact ⟨_, hr.trans (by simp), hj.trans (by simp), .inr rfl⟩
      · exact hout _ rfl rfl
  · next source hs =>
    simp only [he, Bool.false_eq_true, if_false]
    cases source with
    | radio =>
      obtain ⟨hr, hj⟩ := hfibre (completeRecord .sourceLost (makeActive .fibre false
        { s with selector := { s.selector with drainTimer := none } })) (by simp)
      exact ⟨_, hr.trans (by simp), hj.trans (by simp), .inr rfl⟩
    | fibre =>
      simp only [reduceCtorEq, if_false, Machine.abandonDrain]
      split
      · obtain ⟨hr, hj⟩ := hfibre { completeRecord .targetLost { s with selector := { s.selector with drainTimer := none } } with
            selector := { (completeRecord .targetLost
              { s with selector := { s.selector with drainTimer := none } }).selector with status := .on .fibre }
            pause := { (completeRecord .targetLost
              { s with selector := { s.selector with drainTimer := none } }).pause with selector := false } } rfl
        exact ⟨_, hr.trans (by simp), hj.trans (by simp), .inr rfl⟩
      · exact hout _ rfl rfl

end

end Sys2Proof.Machine
end

section
/-! PROOFS. The laws when the module loses its cell in READY. -/

namespace Sys2Proof.Machine

section
variable {M N : Radio → Prop} {s t : State} {b : Bearer}

/-- A level that releases a READY module is NONE. -/
theorem handWanted_ready (hs : s.radio.status = .ready) :
    (handWanted s).radio.status = .ready ∨ (handWanted s).radio.wantedHeld = .none := by
  obtain he | he := handWanted_radio_cases s
  · exact .inl (by rw [he, hs])
  · rw [he]
    obtain ha | ⟨ho, -⟩ | ⟨-, -, ha | ⟨-, ha⟩ | ⟨hw, ha⟩⟩ := actOnLevel_cases { s with
      selector := { s.selector with wanted := wantedLevel s }
      radio := { s.radio with wantedHeld := wantedLevel s } }
    · exact .inl (by rw [ha]; exact hs)
    · simp [hs] at ho
    · exact .inl (by rw [ha]; exact hs)
    · exact .inl (by rw [ha]; exact hs)
    · exact .inr (by simpa using hw)

theorem handWanted_radio_down (hv : s.radioJudge.verdict = .down) : (handWanted s).radioJudge.verdict = .down := by
  unfold handWanted
  split
  · exact hv
  · simp only [State.mapJudge_at]
    obtain hj | ⟨-, hj⟩ := actOnLevel_radioJudge { s with
      selector := { s.selector with wanted := wantedLevel s }
      radio := { s.radio with wantedHeld := wantedLevel s } }
    · rw [hj]; exact hv
    · rw [hj]; rfl

@[simp] theorem setSuppressed_radio_verdict (v : Bool) (s : State) :
    (setSuppressed .radio v s).radioJudge.verdict = s.radioJudge.verdict := by simp [setSuppressed]

@[simp] theorem flapStep_radio_verdict (s : State) :
    (flapStep .radio s).radioJudge.verdict = s.radioJudge.verdict := by
  unfold flapStep
  dsimp only
  split <;> simp

/-- Hard-fail evidence at the radio judge leaves its verdict DOWN, and reaches the module through one level at most (R119). -/
theorem hardFail_radio (hj : s.radioJudge.verdict = .up → s.radioJudge.timer.isSome = true) :
    ∃ x : State, x.radio = s.radio ∧ x.radioJudge.verdict = .down
      ∧ (hardFail .radio s = x ∨ hardFail .radio s = handWanted x) := by
  unfold hardFail
  split
  · dsimp only
    split
    · set z := flapStep .radio (report (downFlag .radio)
        ((s.mapJudge .radio Judge.hardFailed).mapJudge .radio (fun j => { j with verdict := .down }))) with hz
      have hzr : z.radio = s.radio := by simp [hz]
      have hzv : z.radioJudge.verdict = .down := by simp [hz]
      have he : z.eligible .radio = false := eligible_of_down hzv
      unfold fall
      rw [rework_eq]
      split
      · exact ⟨z, hzr, hzv, .inl rfl⟩
      · obtain ⟨x, hxr, hxj, hx⟩ := onEligibility_radio_lost (s := noted .radio z) (by rw [eligible_noted]; exact he)
        exact ⟨x, hxr.trans hzr, by rw [hxj]; exact hzv, hx⟩
    · next hv =>
      refine ⟨_, by simp, ?_, .inl rfl⟩
      show s.radioJudge.verdict = .down
      cases h : s.radioJudge.verdict
      · rfl
      · exact absurd h hv
  · next hn =>
    refine ⟨s, rfl, ?_, .inl rfl⟩
    cases h : s.radioJudge.verdict
    · rfl
    · exact absurd (hj h) hn

theorem hardFail_radio_down (hj : s.radioJudge.verdict = .up → s.radioJudge.timer.isSome = true) :
    (hardFail .radio s).radioJudge.verdict = .down := by
  obtain ⟨x, -, hv, he | he⟩ := hardFail_radio hj <;> rw [he]
  · exact hv
  · exact handWanted_radio_down hv

theorem hardFail_radio_ready (hj : s.radioJudge.verdict = .up → s.radioJudge.timer.isSome = true)
    (hs : s.radio.status = .ready) :
    (hardFail .radio s).radio.status = .ready ∨ (hardFail .radio s).radio.wantedHeld = .none := by
  obtain ⟨x, hr, -, he | he⟩ := hardFail_radio hj <;> rw [he]
  · exact .inl (by rw [hr, hs])
  · exact handWanted_ready (by rw [hr, hs])

/-- The cell is lost: the module has left READY, its state on the way to the next (R166). -/
def cellLeft (s : State) : State :=
  let failed := (hardFail .radio s).answered
  leaveReady { failed with radio := { failed.radio with status := .releasing } }

theorem cellLost_eq (s : State) : cellLost s =
    (let left := rework .radio (cellLeft s)
    if left.radio.wantedHeld = .none then enterReleasing .unwanted left else searchRound 1 left) := rfl

/-- What has left READY is placed already: the evidence came before, and the selector is told nothing new. -/
theorem LawfulWith.cellLeft (h : LawfulWith ModuleStrict s) (hs : s.radio.status = .ready) :
    Placed (cellLeft s) ∧ WantedMet (cellLeft s) ∧ (cellLeft s).radio.status = .releasing
      ∧ (cellLeft s).radio.modPwr = true ∧ (cellLeft s).radio.rest = none ∧ (cellLeft s).radio.linger = none
      ∧ (cellLeft s).radio.releaseDue = false
      ∧ ((cellLeft s).radio.wantedHeld = .none ∨ (cellLeft s).radio.cause = none) := by
  have hj : s.radioJudge.verdict = .up → s.radioJudge.timer.isSome = true := h.placed.base.judged_of_up .radio
  have hdown := hardFail_radio_down hj
  have hready := hardFail_radio_ready hj hs
  have hkeeps := levelKeeps_strict.and levelKeeps_powered
  obtain ⟨hplaced, hwanted, hstrict, hpow⟩ := LawfulWith.hardFail hkeeps
    (h.imp (N := fun r => ModuleStrict r ∧ r.status.powered = true) ⟨h.module, by rw [hs]; rfl⟩) .radio
  have hrest := hstrict.loose.rest_eq_none (by rintro hr; simp [hr, ModuleStatus.powered] at hpow)
  have hcause : (Machine.hardFail .radio s).radio.wantedHeld = .none ∨ (Machine.hardFail .radio s).radio.cause = none :=
    hready.symm.imp_right fun hr => hstrict.loose.cause_eq_none (by simp [hr])
  have hbase : BaseLaws (Machine.cellLeft s) := by
    obtain ⟨⟨hp, hss⟩, ⟨hf, hr, hdf, hdr, huf, hur, hpf, hpr⟩, hheld⟩ := hplaced.base
    refine ⟨⟨PauseLaw.leaveReady hp, ?_⟩, ?_, ?_⟩
    · simpa [SessionLaw, State.active, Machine.cellLeft] using hss
    · simp only [JudgingLaw, Machine.cellLeft, leaveReady_judges, leaveReady_frame, State.answered_frame]
      exact ⟨hf, by simp [Judge.cleared], hdf, by simpa [Judge.cleared] using hdr, huf, by simp [Judge.cleared], hpf, hpr⟩
    · simpa [Machine.cellLeft] using hheld
  have htold := hplaced.told_radio hbase (by simp [Machine.cellLeft]) (by simp [Machine.cellLeft])
    (by simp [Machine.cellLeft])
  have hnow : (Machine.cellLeft s).eligible .radio = ((Machine.cellLeft s).judge .radio).handed := by
    have hh := (hplaced.handed .radio).trans (eligible_of_down hdown)
    rw [eligible_of_down (by simp [State.judge, Machine.cellLeft, Judge.cleared])]
    simpa [State.judge, Machine.cellLeft] using hh.symm
  refine ⟨htold.placed hnow, hwanted.of_fields (by simp [Machine.cellLeft]) (by simp [Machine.cellLeft])
    (by simp [Machine.cellLeft]), by simp [Machine.cellLeft], ?_, by simpa [Machine.cellLeft] using hrest,
    by simp [Machine.cellLeft], by simp [Machine.cellLeft], by simpa [Machine.cellLeft] using hcause⟩
  simpa [Machine.cellLeft] using hstrict.loose.1.trans hpow

end

end Sys2Proof.Machine
end

section
/-! PROOFS. The laws under the module's responses and timers. -/

namespace Sys2Proof.Machine

section
variable {M N : Radio → Prop} {s t : State} {b : Bearer}

theorem Placed.rework_eq_self (h : Placed s) (b : Bearer) : rework b s = s := by
  rw [rework_eq, if_pos (h.handed b).symm]

theorem awaits_iff {c : ModuleCommand} : awaits c s = true ↔ ∃ o, s.radio.outstanding = some o ∧ o.command = c := by
  unfold awaits
  split <;> simp_all

namespace LawfulWith

theorem cellLost (h : LawfulWith ModuleStrict s) (hs : s.radio.status = .ready) :
    LawfulWith ModuleStrict (cellLost s) := by
  obtain ⟨hplaced, hwanted, hst, hpow, hrest, hlinger, hdue, hcause⟩ := h.cellLeft hs
  have hleft : LawfulWith (fun _ => True) (Machine.cellLeft s) := ⟨hplaced, hwanted, trivial⟩
  rw [cellLost_eq, hplaced.rework_eq_self]
  dsimp only
  split
  · have he : Machine.enterReleasing .unwanted (Machine.cellLeft s) = sendCommand .detach
        { Machine.cellLeft s with radio := { (Machine.cellLeft s).radio with
          status := .releasing, linger := none, releaseDue := false, cause := some .unwanted } } := by
      unfold Machine.enterReleasing
      simp [hst]
    rw [he]
    exact hleft.withRadio (by simp [hst]) rfl rfl
      (by simp [ModuleStrict, ModuleLaw, ModuleStatus.powered, ModuleStatus.mayAwait, hpow, hrest])
  · next hw =>
    refine LawfulWith.congr (lawView_countModule _ _) rfl ?_
    exact hleft.withRadio (by simp [hst]) rfl rfl
      (by simp [ModuleStrict, ModuleLaw, ModuleStatus.powered, ModuleStatus.mayAwait, hpow, hrest, hlinger, hdue,
        hcause.resolve_left hw])

/-- The command is answered: nothing is outstanding (R158). -/
theorem answered (h : LawfulWith ModuleLoose s) : LawfulWith ModuleLoose s.answered := by
  obtain ⟨hm, -, hl, hre, hc, hd⟩ := h.module
  exact h.withRadio Iff.rfl rfl rfl ⟨hm, .inl rfl, hl, hre, hc, hd⟩

theorem loose (h : LawfulWith ModuleStrict s) : LawfulWith ModuleLoose s := h.imp h.module.loose

/-- A READY module with nothing outstanding and no release due meets its law. -/
theorem strict_of_ready (h : LawfulWith ModuleLoose s) (hs : s.radio.status = .ready) (ho : s.radio.outstanding = none)
    (hd : s.radio.releaseDue = false) : LawfulWith ModuleStrict s := by
  obtain ⟨hm, -, hl, hre, hc, -⟩ := h.module
  exact h.imp ⟨hm, by simp [hs, ho, ModuleStatus.mayAwait], hl, hre, hc, by simp [hd]⟩

theorem poweredTaken (h : LawfulWith ModuleStrict s) : LawfulWith ModuleStrict (poweredTaken s) := by
  unfold Machine.poweredTaken
  split
  · next hs =>
    have hs : s.radio.status = .waking := by simp_all
    exact h.loose.searchRound 1 (by simp [hs]) (by simp [hs, ModuleStatus.powered])
      (h.loose.module.cause_eq_none (by simp [hs]))
  · exact h

theorem attachedTaken (h : LawfulWith ModuleStrict s) : LawfulWith ModuleStrict (attachedTaken s) := by
  unfold Machine.attachedTaken
  split
  · next hs => exact h.enterReady (by simp_all)
  · exact h

/-- RELEASING from a module that is not READY, whose radio is not judged (R160, R161). -/
theorem enterReleasing_not_ready (c : ReleaseCause) (h : LawfulWith ModuleLoose s) (hs : s.radio.status ≠ .ready)
    (hp : s.radio.status.powered = true) : LawfulWith ModuleStrict (Machine.enterReleasing c s) := by
  refine (h.enterReleasing c hp).lawful ?_
  have hv := (h.placed.base.radio_down hs).2
  have hj : (Machine.enterReleasing c s).radioJudge = s.radioJudge := by rw [enterReleasing_radioJudge, if_neg hs]
  rw [eligible_of_down (by rw [State.judge, hj, hv])]
  simpa [State.judge, eligible_of_down (b := .radio) hv, hj] using (h.placed.handed .radio).symm

theorem roundFails (h : LawfulWith ModuleStrict s) (hs : s.radio.status = .searching) :
    LawfulWith ModuleStrict (roundFails s) := by
  unfold Machine.roundFails
  split
  · exact h.loose.searchRound _ (by simp [hs]) (by simp [hs, ModuleStatus.powered])
      (h.loose.module.cause_eq_none (by simp [hs]))
  · exact (h.loose.answered.congr (lawView_report _ _) (by simp)).enterReleasing_not_ready _ (by simp [hs, State.answered])
      (by simp [hs, State.answered, ModuleStatus.powered])

theorem attachFailedTaken (h : LawfulWith ModuleStrict s) : LawfulWith ModuleStrict (attachFailedTaken s) := by
  unfold Machine.attachFailedTaken
  split
  · next hs => exact h.roundFails (by simp_all)
  · exact h

theorem advanceTo (m : Nat) (h : LawfulWith M s) : LawfulWith M (s.advanceTo m) := h.congr (by simp) (by simp)

theorem roundEnds (h : LawfulWith ModuleStrict s) : LawfulWith ModuleStrict (roundEnds s) := by
  unfold Machine.roundEnds
  split
  · exact h
  · split
    · next hs => exact (h.advanceTo _).roundFails hs.2
    · exact h

theorem takeReading (level : Option Int) (h : LawfulWith ModuleLoose s) :
    LawfulWith ModuleLoose (takeReading level s) := by
  unfold Machine.takeReading
  split
  · split
    · dsimp only
      have hhanded : ∀ v, LawfulWith ModuleLoose (handReading v s) := fun v => by
        unfold handReading
        split
        · exact h.mapJudge fun _ => rfl
        · exact h
      exact (hhanded _).withRadio Iff.rfl rfl rfl (hhanded _).module
    · exact h
  · exact h

theorem afterSignal (h : LawfulWith ModuleLoose s) (hs : s.radio.status = .ready) (ho : s.radio.outstanding = none) :
    LawfulWith ModuleStrict (afterSignal s) := by
  unfold Machine.afterSignal
  split
  · dsimp only
    have hcleared : LawfulWith ModuleStrict { s with radio := { s.radio with releaseDue := false } } := by
      obtain ⟨hm, -, hl, hre, hc, -⟩ := h.module
      exact h.withRadio Iff.rfl rfl rfl
        ⟨hm, by simp [hs, ho, ModuleStatus.mayAwait], fun hh => ⟨hs, rfl⟩, hre, hc, by simp⟩
    split
    · exact hcleared.loose.releaseFrom _ (by simp [hs, ModuleStatus.powered])
    · exact hcleared
  · next hd => exact ((h.strict_of_ready hs ho (by simpa using hd)).actOnLevel).rework levelKeeps_strict

theorem signalTaken (level : Option Int) (h : LawfulWith ModuleStrict s) :
    LawfulWith ModuleStrict (signalTaken level s) := by
  unfold Machine.signalTaken
  split
  · next hs =>
    have hkeeps : ∀ t : State, (Machine.takeReading level t).radio.status = t.radio.status
        ∧ (Machine.takeReading level t).radio.outstanding = t.radio.outstanding := fun t => by simp
    refine (h.loose.answered.takeReading level).afterSignal ?_ ?_
    · rw [(hkeeps _).1]; simp_all [State.answered]
    · rw [(hkeeps _).2]; rfl
  · exact h

theorem detachedTaken (h : LawfulWith ModuleStrict s) : LawfulWith ModuleStrict (detachedTaken s) := by
  unfold Machine.detachedTaken
  split
  · next hs => exact h.cellLost hs
  · next hs =>
    split
    · obtain ⟨hm, -, hl, hre, hc, hd⟩ := h.module
      refine h.withRadio Iff.rfl rfl rfl ⟨hm, ?_, hl, hre, hc, fun hh => ⟨(hd hh).1, rfl⟩⟩
      show s.radio.status.mayAwait _ = true
      rw [hs]
      rfl
    · exact h
  · exact h

theorem offTaken (h : LawfulWith ModuleStrict s) : LawfulWith ModuleStrict (offTaken s) := by
  unfold Machine.offTaken
  split
  · next hs =>
    have hs : s.radio.status = .releasing := by simp_all
    split
    · exact h.loose.enterResting hs
    · exact h.loose.enterResting hs
    · exact h.loose.enterOff (by simp [hs])
  · exact h

theorem commandTimesOut (h : LawfulWith ModuleStrict s) {o : Outstanding} (ho : s.radio.outstanding = some o)
    (hc : o.command ≠ .attach) : LawfulWith ModuleStrict (commandTimesOut s) := by
  have hawait : s.radio.status.mayAwait (some o.command) = true := by
    have := h.module.2.1
    simpa [ho] using this
  have hcounted : LawfulWith ModuleLoose (report .moduleFault ((s.answered.countModule .upTimeouts).countModule .upFaults)) :=
    h.loose.answered.congr (by simp) (by simp)
  have hrelease : s.radio.status.powered = true → LawfulWith ModuleStrict (Machine.releaseFrom .fault (Machine.hardFail .radio
      (report .moduleFault ((s.answered.countModule .upTimeouts).countModule .upFaults)))) := fun hp => by
    have hfailed := LawfulWith.hardFail (levelKeeps_loose.and levelKeeps_powered)
      (hcounted.imp (N := fun r => ModuleLoose r ∧ r.status.powered = true) ⟨hcounted.module, by simpa using hp⟩) .radio
    exact (hfailed.imp hfailed.module.1).releaseFrom _ hfailed.module.2
  unfold Machine.commandTimesOut
  dsimp only
  split
  · next hs =>
    have hnot : Machine.hardFail .radio (report .moduleFault ((s.answered.countModule .upTimeouts).countModule .upFaults))
        = report .moduleFault ((s.answered.countModule .upTimeouts).countModule .upFaults) := by
      have ht := (h.placed.base.radio_down (by simp [hs])).1
      unfold Machine.hardFail
      simp [State.judged, State.judge, ht]
    rw [hnot]
    exact hcounted.enterResting (by simpa using hs)
  · next hs => exact hrelease (by rw [hs]; rfl)
  · next hs => exact hrelease (by rw [hs]; rfl)
  · next h1 h2 h3 =>
    exfalso
    cases hs : s.radio.status <;> simp_all [ModuleStatus.mayAwait]

theorem responseLate (h : LawfulWith ModuleStrict s) : LawfulWith ModuleStrict (responseLate s) := by
  unfold Machine.responseLate
  split
  · exact h
  · next o ho =>
    split
    · exact h
    · next hc => exact (h.advanceTo _).commandTimesOut (o := o) (by simpa using ho) hc

theorem lingerExpires (h : LawfulWith ModuleStrict s) : LawfulWith ModuleStrict (lingerExpires s) := by
  unfold Machine.lingerExpires
  split
  · exact h
  · next due hdue =>
    dsimp only
    have hstopped : LawfulWith ModuleStrict { s.advanceTo due with
        radio := { (s.advanceTo due).radio with linger := none } } := by
      obtain ⟨hm, ho, -, hre, hc, hd⟩ := (h.advanceTo due).module
      exact (h.advanceTo due).withRadio Iff.rfl rfl rfl ⟨hm, ho, by simp, hre, hc, hd⟩
    split
    · next hs =>
      split
      · next hout =>
        obtain ⟨hm, ho, -, hre, hc, -⟩ := hstopped.module
        exact hstopped.withRadio Iff.rfl rfl rfl ⟨hm, ho, by simp, hre, hc, fun _ => ⟨hs, hout⟩⟩
      · exact hstopped.loose.releaseFrom _ (by simp [hs, ModuleStatus.powered])
    · exact hstopped

theorem restExpires (h : LawfulWith ModuleStrict s) : LawfulWith ModuleStrict (restExpires s) := by
  unfold Machine.restExpires
  split
  · exact h
  · next due hdue =>
    dsimp only
    split
    · next hs => exact (h.advanceTo due).loose.enterOff (by simp [hs])
    · next hs =>
      have := h.loose.module.rest_eq_none hs
      simp_all

theorem unitStalls (h : LawfulWith ModuleStrict s) (hs : s.radio.status = .ready) :
    LawfulWith ModuleStrict (unitStalls s) := by
  unfold Machine.unitStalls
  dsimp only
  have hcounted : LawfulWith ModuleStrict { s.countModule .upStalls with
      radio := { (s.countModule .upStalls).radio with stallCount := (s.countModule .upStalls).radio.stallCount + 1 } } :=
    (h.congr (t := s.countModule .upStalls) (by simp) (by simp)).withRadio Iff.rfl rfl rfl h.module
  split
  · exact hcounted.withRadio Iff.rfl rfl rfl hcounted.module
  · have hreported := hcounted.congr (t := report .moduleFault (State.countModule .upFaults { s.countModule .upStalls with
      radio := { (s.countModule .upStalls).radio with stallCount := (s.countModule .upStalls).radio.stallCount + 1 } }))
      (by simp) (by simp)
    have hfailed := LawfulWith.hardFail (levelKeeps_loose.and levelKeeps_powered)
      (hreported.imp (N := fun r => ModuleLoose r ∧ r.status.powered = true)
        ⟨hreported.module.loose, by simp [hs, ModuleStatus.powered]⟩) .radio
    exact (hfailed.imp hfailed.module.1).releaseFrom _ hfailed.module.2

end LawfulWith
end

end Sys2Proof.Machine
end

section
/-! PROOFS. The laws under what leaves the data ports. -/

namespace Sys2Proof.Machine

/-! ## A change within the carrying blocks -/

/-- What the laws read of a state outside the carrying blocks. -/
def restView (s : State) : State :=
  { lawView s with
    pause := Pause.atReset, session := Session.atReset, sender := Sender.atReset, receiver := Receiver.atReset }

/-- A state seen by the laws as one state outside the carrying blocks and as another in them. -/
def joinView (s t : State) : State :=
  { restView s with pause := t.pause, session := t.session, sender := t.sender, receiver := t.receiver }

section
variable {s t : State} {b : Bearer}

theorem lawView_joinView_self (t : State) : lawView (joinView t t) = lawView t := rfl

@[simp] theorem eligible_joinView (b : Bearer) : (joinView s t).eligible b = s.eligible b := by cases b <;> rfl
@[simp] theorem mayTake_joinView (b : Bearer) : (joinView s t).mayTake b = s.mayTake b := by cases b <;> rfl

/-- A change within the carrying blocks keeps the laws when it keeps theirs. -/
theorem LawfulWith.of_carry (h : LawfulWith ModuleStrict s) (hc : CarryLaws t) (hv : restView t = restView s) :
    LawfulWith ModuleStrict t := by
  obtain ⟨⟨⟨⟨-, hj, hh⟩, hd, hhand, hon, hdr, hou⟩, hhold⟩, hw, hm⟩ := h
  have hjoin : joinView s t = joinView t t := by unfold joinView; rw [hv]
  have hcarry : CarryLaws (joinView s t) := by rw [hjoin]; exact ⟨hc.pause, hc.session⟩
  have hhanded : ∀ b, ((joinView s t).judge b).handed = (joinView s t).eligible b := fun b => by
    rw [eligible_joinView, ← hhand b]
    cases b <;> rfl
  have hlaw : LawfulWith ModuleStrict (joinView s t) :=
    ⟨⟨⟨⟨hcarry, hj, hh⟩, hd, hhanded, fun b hb => (mayTake_joinView b).trans (hon b hb),
      fun b hb => by simpa using hdr b hb, fun ho b => (mayTake_joinView b).trans (hou ho b)⟩, hhold⟩, hw, hm⟩
  rw [hjoin] at hlaw
  exact lawful_iff_lawfulWith.1 ((lawful_iff_lawfulWith.2 hlaw).congr (lawView_joinView_self t).symm)

theorem restView_congr (h : lawView t = lawView s) : restView t = restView s := by unfold restView; rw [h]

end

/-! ## What leaves the ports -/

@[simp] theorem lawView_createEntry (b : Bearer) (tag : Byte) (n : Nat) (s : State) :
    lawView (createEntry b tag n s) = lawView s := by
  unfold createEntry
  dsimp only
  split
  · exact lawView_mapJudge b s fun _ => rfl
  · rw [lawView_countProbe]
    exact lawView_mapJudge b s fun _ => rfl

@[simp] theorem lawView_putOnPort (b : Bearer) (l : Leaving) (s : State) : lawView (putOnPort b l s) = lawView s := by
  cases b <;> rfl

@[simp] theorem supply_setQueue (l : Lane) (q : List QueuedFrame) (s : State) :
    (s.setQueue l q).lanes.supply = s.lanes.supply := by cases l <;> rfl

@[simp] theorem lawView_setQueue (l : Lane) (q : List QueuedFrame) (s : State) : lawView (s.setQueue l q) = lawView s := by
  simp [lawView]

@[simp] theorem lawView_discardHeads (l : Lane) (s : State) : lawView (discardHeads l s) = lawView s := by
  simp [discardHeads]

@[simp] theorem lawView_examineLanes (order : List Lane) (s : State) : lawView (examineLanes order s).1 = lawView s := by
  induction order generalizing s with
  | nil => rfl
  | cons l rest ih =>
    simp only [examineLanes]
    (repeat' split) <;> simp [ih]

@[simp] theorem lawView_clearPort (b : Bearer) (l : Leaving) (s : State) : lawView (clearPort b l s) = lawView s := by
  cases b with
  | fibre => rfl
  | radio =>
    unfold clearPort endHandOver
    dsimp only
    split <;> rfl

@[simp] theorem lawView_countDeparture (b : Bearer) (f : CarryFrame) (s : State) :
    lawView (countDeparture b f s) = lawView s := by
  unfold countDeparture
  (repeat' split) <;> simp

@[simp] theorem lawView_completeCut (b : Bearer) (s : State) : lawView (completeCut b s) = lawView s := by
  unfold completeCut
  split
  · unfold endHandOver
    dsimp only
    split <;> rfl
  · rfl

namespace CarryLaws

variable {s : State} {b : Bearer}

theorem settleTally (a : Seq) (h : CarryLaws s) : CarryLaws (settleTally b a s) := by
  unfold Machine.settleTally
  split
  · exact h.clearTally
  · exact h

theorem startFrame (f : CarryFrame) (h : CarryLaws s) : CarryLaws (startFrame b f s) :=
  (h.congr (lawView_putOnPort b _ s)).settleTally f.ackno

theorem startWaiting (w : WaitingFrame) (rest : List WaitingFrame) (h : CarryLaws s) :
    CarryLaws (startWaiting b w rest s) := by
  have hstarted : CarryLaws (Machine.startFrame b (w.frame b s) (s.setWaiting b rest)) :=
    (h.congr (lawView_setWaiting b rest s)).startFrame _
  unfold Machine.startWaiting
  dsimp only
  split
  · exact hstarted.congr (lawView_createEntry _ _ _ _)
  · exact hstarted

/-- A pending stream that starts, its pause reason raised (R82, R83, R96). -/
theorem startStream (k : MarkKind) (h : CarryLaws s) (hk : k = .replay → s.sender.announcePending = true) :
    CarryLaws (startStream b k s) := by
  obtain ⟨⟨hse, hsel, hpa, han, hst, hst'⟩, hs⟩ := h
  refine startFrame _ ?_
  cases k with
  | rewind => exact ⟨⟨hse, hsel, by simpa using hpa, by simpa using han, by simp, by simp⟩, hs⟩
  | replay =>
    have hw := han (hk rfl)
    exact ⟨⟨hse, hsel, by simpa [hw] using hpa, by simp, by simp, by simp⟩, hs⟩

theorem passCopy (c : Seq) (h : CarryLaws s) : CarryLaws (passCopy b c s) := by
  unfold Machine.passCopy
  split
  · exact ⟨h.pause, h.session⟩
  · next r hr =>
    dsimp only
    refine startFrame _ ?_
    set counted := if voidingTest s r then report .staleVoided (s.countCarry .upVoided) else s with hcounted
    have hc : CarryLaws counted := by
      rw [hcounted]
      split
      · exact h.congr (by simp)
      · exact h
    obtain ⟨hp, hout, hrest⟩ := hc
    refine ⟨hp, fun ho => ?_, hrest⟩
    obtain ⟨hn, he, hstore, hdis⟩ := hout ho
    exact ⟨hn, he, by simp [hstore], hdis⟩

/-- A head is admitted with the session OPEN alone (R46). -/
theorem sendHead (l : Lane) (f : QueuedFrame) (h : CarryLaws s) (hs : s.session.status = .opened) :
    CarryLaws (sendHead l f b s) := by
  unfold Machine.sendHead
  split
  · dsimp only
    refine startFrame _ ?_
    obtain ⟨hp, -, hrest⟩ := h
    exact ⟨hp, fun ho => absurd hs ho, hrest⟩
  · exact h.startFrame _

theorem dispatch (h : CarryLaws s) (hs : s.session.status = .opened) : CarryLaws (dispatch b s) := by
  have hv := lawView_examineLanes laneOrder s
  unfold Machine.dispatch
  split
  · next s' he =>
    rw [he] at hv
    exact h.congr hv
  · next s' l head he =>
    rw [he] at hv
    exact (h.congr hv).sendHead l head ((congrArg (fun x => x.session.status) hv).trans hs)

theorem endPassAt (h : CarryLaws s) : CarryLaws (endPassAt b s) := by
  unfold Machine.endPassAt
  split
  · exact h.abandonPass
  · exact h

theorem nextFrame (o : Bool) (h : CarryLaws s) : CarryLaws (nextFrame o b s) := by
  unfold Machine.nextFrame
  split
  · exact h.startFrame _
  · split
    · exact h.startStream .rewind (by simp)
    · split
      · next ha => exact h.startStream .replay fun _ => by simp_all
      · split
        · exact h.startWaiting _ _
        · split
          · split
            · exact h.passCopy _
            · split
              · next hp =>
                refine h.dispatch ?_
                have hsess : s.pause.session = false := by simp_all [Pause.any]
                have := h.pause.1
                simpa [hsess] using this
              · exact h
          · exact h

theorem serve (o : Bool) (h : CarryLaws s) : CarryLaws (serve o b s) := by
  unfold Machine.serve
  split
  · exact h.endPassAt.nextFrame _
  · exact h

theorem startResending (h : CarryLaws s) (ha : s.sender.pass = .announcing) : CarryLaws (startResending s) := by
  unfold Machine.startResending
  split
  · exact h.abandonPass
  · obtain ⟨⟨hse, hsel, hpa, han, hst, hst'⟩, hs⟩ := h
    exact ⟨⟨hse, hsel, by simpa [ha] using hpa, by simpa [ha] using han, hst, hst'⟩, hs⟩

theorem endStream (k : MarkKind) (h : CarryLaws s) : CarryLaws (endStream k s) := by
  have hended : CarryLaws { s with
      sender := { s.sender with stream := none }, pause := { s.pause with stream := false } } := by
    obtain ⟨⟨hse, hsel, hpa, han, -, -⟩, hs⟩ := h
    exact ⟨⟨hse, hsel, hpa, han, by simp, by simp⟩, hs⟩
  unfold Machine.endStream
  dsimp only
  split
  · exact hended.congr (lawView_countCarry _ _)
  · split
    · next ha => exact (hended.congr (lawView_countCarry _ _)).startResending ha
    · exact hended.congr (lawView_countCarry _ _)

theorem streamBoundary (h : CarryLaws s) : CarryLaws (streamBoundary b s) := by
  unfold Machine.streamBoundary
  split
  · exact h
  · next m hm =>
    split
    · split
      · exact h.endStreamOn b
      · split
        · exact h.endStream _
        · obtain ⟨⟨hse, hsel, hpa, han, hst, hst'⟩, hs⟩ := h
          exact ⟨⟨hse, hsel, hpa, han, fun _ => hst (by simp [hm]), by simp⟩, hs⟩
    · exact h

theorem atBoundary (r : Bool) (h : CarryLaws s) : CarryLaws (atBoundary b r s) := by
  have hpass : ∀ t : State, CarryLaws t → CarryLaws (passBoundary b t) := fun t ht => by
    unfold passBoundary
    split
    · exact ht.abandonPass
    · exact ht
  unfold Machine.atBoundary
  split
  · exact hpass _ h
  · exact hpass _ h.streamBoundary

theorem completeDeparture (h : CarryLaws s) : CarryLaws (completeDeparture b s) := by
  unfold Machine.completeDeparture
  split
  · exact h.congr (lawView_completeCut b s)
  · dsimp only
    refine atBoundary _ (h.congr ?_)
    split <;> simp

theorem offerAgain (h : CarryLaws s) : CarryLaws (offerAgain s) := by
  unfold Machine.offerAgain
  split
  · exact ⟨h.pause, h.session⟩
  · exact (h.congr (lawView_putOnPort .radio _ s)).settleTally _

end CarryLaws

end Sys2Proof.Machine
end

section
/-! PROOFS. The laws under the end of an event, the hand-over to the module, and what the receiver takes. -/

namespace Sys2Proof.Machine

theorem supply_of_lawView {s t : State} (h : lawView t = lawView s) : t.lanes.supply = s.lanes.supply :=
  congrArg (fun x => x.lanes.supply) h

@[simp] theorem supply_dispatch (b : Bearer) (s : State) : (dispatch b s).lanes.supply = s.lanes.supply := by
  have hv := supply_of_lawView (lawView_examineLanes laneOrder s)
  unfold dispatch
  split
  · next he => rwa [he] at hv
  · next he => rw [he] at hv; simpa using hv

@[simp] theorem supply_nextFrame (o : Bool) (b : Bearer) (s : State) :
    (nextFrame o b s).lanes.supply = s.lanes.supply := by
  unfold nextFrame
  (repeat' split) <;> simp

@[simp] theorem restView_serve (o : Bool) (b : Bearer) (s : State) : restView (serve o b s) = restView s := by
  have hs : (serve o b s).lanes.supply = s.lanes.supply := by
    unfold serve
    dsimp only
    split <;> simp
  simp [restView, lawView, Judge.lawView, hs]

section
variable {s t : State} {b : Bearer}

theorem LawfulWith.serve (o : Bool) (b : Bearer) (h : LawfulWith ModuleStrict s) : LawfulWith ModuleStrict (serve o b s) :=
  h.of_carry (h.placed.base.toCarryLaws.serve o) (restView_serve o b s)

/-- The end of an event keeps the laws. -/
theorem LawfulWith.finish (joined : Bool) (before : State) (h : LawfulWith ModuleStrict s) :
    LawfulWith ModuleStrict (finish joined before s) :=
  ((h.serve _ .fibre).serve _ .radio).congr (lawView_closeEvent _) rfl

theorem LawfulWith.completeDeparture (b : Bearer) (h : LawfulWith ModuleStrict s) :
    LawfulWith ModuleStrict (completeDeparture b s) :=
  h.of_carry h.placed.base.toCarryLaws.completeDeparture (by simp [restView, lawView])

theorem LawfulWith.offerAgain (h : LawfulWith ModuleStrict s) : LawfulWith ModuleStrict (offerAgain s) :=
  h.of_carry h.placed.base.toCarryLaws.offerAgain (by simp [restView, lawView])

/-! ## The data handshake -/

/-- The handshake is no matter of the laws. -/
theorem LawfulWith.withHandshake (x : Handshake) (n : Nat) (l : Option Leaving) (h : LawfulWith ModuleStrict s) :
    LawfulWith ModuleStrict { s with radio := { s.radio with handshake := x, stallCount := n, held := l } } :=
  h.withRadio Iff.rfl rfl rfl h.module

theorem LawfulWith.pollStarts (h : LawfulWith ModuleStrict s) : LawfulWith ModuleStrict (pollStarts s) := by
  unfold Machine.pollStarts
  split
  · exact (h.advanceTo _).withHandshake _ _ _
  · exact h

theorem LawfulWith.readySeen (h : LawfulWith ModuleStrict s) : LawfulWith ModuleStrict (readySeen s) := by
  unfold Machine.readySeen
  split
  · split
    · exact h.withHandshake _ _ _
    · exact h.offerAgain
    · exact h
  · exact h

theorem LawfulWith.readyLate (h : LawfulWith ModuleStrict s) : LawfulWith ModuleStrict (readyLate s) := by
  unfold Machine.readyLate
  split
  · split
    · next hs => exact (h.advanceTo _).unitStalls hs
    · exact h
  · split
    · exact (h.advanceTo _).offerAgain
    · exact h
  · exact h

theorem LawfulWith.gapEnds (h : LawfulWith ModuleStrict s) : LawfulWith ModuleStrict (gapEnds s) := by
  unfold Machine.gapEnds
  split
  · exact (h.advanceTo _).withHandshake _ _ _
  · exact h

end

/-! ## What arrives -/

namespace CarryLaws
variable {s : State} {b : Bearer}

theorem applyAck (a : Seq) (h : CarryLaws s) : CarryLaws (applyAck a s) := by
  unfold Machine.applyAck
  split
  · obtain ⟨hp, hout, hrest⟩ := h
    refine ⟨hp, fun ho => ?_, hrest⟩
    obtain ⟨hn, he, hstore, hdis⟩ := hout ho
    exact ⟨hn, he, by simp [Sender.release, hstore], hdis⟩
  · exact h.congr (lawView_countCarry _ _)

/-- E advances with the session OPEN (R59, R68). -/
theorem advanceE (h : CarryLaws s) (hs : s.session.status = .opened) : CarryLaws (advanceE s) := by
  obtain ⟨hp, -, hep, hre, hrw, htt, hto⟩ := h
  have hadv : CarryLaws { s with receiver := { s.receiver with e := s.receiver.e + 1 } } :=
    ⟨hp, fun ho => absurd hs ho, hep, hre, hrw, htt, hto⟩
  unfold Machine.advanceE oweTally
  split
  · next ha =>
    have ha : s.active.isSome = true := by simp_all [State.active]
    exact ⟨hp, fun ho => absurd hs ho, hep, hre, hrw, fun _ => rfl, fun _ => ⟨ha, hs⟩⟩
  · exact hadv

/-- A receive error comes with the session OPEN (R76). -/
theorem receiveError (h : CarryLaws s) (hs : s.session.status = .opened) : CarryLaws (receiveError b s) := by
  obtain ⟨hp, -, hep, hre, hrw, htt, hto⟩ := h
  have hset : CarryLaws { s with receiver := { s.receiver with discard := true } } :=
    ⟨hp, fun ho => absurd hs ho, hep, hre, hrw, htt, hto⟩
  have hcleared : CarryLaws ((report .receiveError { s with receiver := { s.receiver with discard := true } }).setMarks b ⟨0, 0⟩) :=
    hset.congr (by simp)
  unfold Machine.receiveError
  dsimp only
  split
  · next a ha => exact hcleared.requestRewind.startRewindTimer _ _ (by simpa [State.active] using congrArg Option.isSome ha)
  · obtain ⟨hp', hout, hep, hre, -, hto⟩ := hcleared
    exact ⟨hp', hout, hep, hre, by simp, hto⟩

theorem checkFailure (h : CarryLaws s) : CarryLaws (checkFailure b s) := by
  unfold Machine.checkFailure
  dsimp only
  split
  · split
    · next hs => exact CarryLaws.receiveError (h.congr (by simp)) (by simpa using hs.1)
    · exact h.congr (by simp)
  · exact h.congr (by simp)

theorem clearDiscard (h : CarryLaws s) : CarryLaws (clearDiscard s) := by
  obtain ⟨hp, hout, hep, hre, -, hto⟩ := h
  refine ⟨hp, fun ho => ?_, hep, hre, by simp [Machine.clearDiscard], hto⟩
  obtain ⟨hn, he, hstore, -⟩ := hout ho
  exact ⟨hn, he, hstore, rfl⟩

theorem rewindThreshold (h : CarryLaws s) : CarryLaws (rewindThreshold s) := by
  unfold Machine.rewindThreshold
  split
  · exact h.startPass
  · exact ⟨h.pause, h.session⟩

theorem enterOpen (h : CarryLaws s) (hs : s.session.status = .opening) : CarryLaws (enterOpen s) := by
  have hopen : CarryLaws { s.keepWaiting (fun w => !w.isOpen) with
      session := { s.session with status := .opened, retry := none }
      pause := { s.pause with session := false } } := by
    obtain ⟨⟨-, hsel, hpa, han, hst, hst'⟩, -, hep, -, hrw, htt, hto⟩ := h
    exact ⟨⟨by simp, hsel, hpa, han, hst, hst'⟩, by simp, fun _ => hep (by simp [hs]), by simp, hrw, htt,
      fun ho => ⟨(hto ho).1, rfl⟩⟩
  exact hopen.congr (lawView_report _ _)

end CarryLaws

/-- The stream's part of a restart: it ends, or stands stopping while a frame leaves its bearer (R19). -/
def streamStops (s : State) : State :=
  match s.sender.stream with
  | some m =>
    if (s.leaving m.bearer).isSome then { s with sender := { s.sender with stream := some { m with stopping := true } } }
    else endStreamOn m.bearer s
  | none => { s with pause := { s.pause with stream := false } }

/-- The requests that a restart drops (R85, R101). -/
def requestsDropped (s : State) : State :=
  { s with sender := { s.sender with rewindPending := false, announcePending := false, passOwed := false } }

/-- The pass's part of a restart: it ends, or stands stopping while a frame leaves the active bearer (R19). -/
def passStops (s : State) : State :=
  match s.active with
  | some a =>
    if (s.leaving a).isSome && s.sender.pass != .none then { s with sender := { s.sender with passStopping := true } }
    else abandonPass s
  | none => abandonPass s

theorem stopAtBoundary_eq (s : State) : stopAtBoundary s = passStops (requestsDropped (streamStops s)) := rfl

namespace CarryLaws
variable {s : State}

theorem streamStops (h : CarryLaws s) :
    CarryLaws (streamStops s) ∧ ((Machine.streamStops s).pause.stream = true → (Machine.streamStops s).sender.stream.isSome = true) := by
  obtain ⟨⟨hse, hsel, hpa, han, hst, -⟩, hs⟩ := id h
  unfold Machine.streamStops
  split
  · next m hm =>
    split
    · exact ⟨⟨⟨hse, hsel, hpa, han, fun _ => hst (by simp [hm]), by simp⟩, hs⟩, by simp⟩
    · exact ⟨h.endStreamOn _, by simp [Machine.endStreamOn, hm]⟩
  · next hm => exact ⟨⟨⟨hse, hsel, hpa, han, by simp [hm], by simp⟩, hs⟩, by simp⟩

theorem stopAtBoundary (h : CarryLaws s) : CarryLaws (stopAtBoundary s) := by
  have hdropped : CarryLaws (requestsDropped (Machine.streamStops s)) := by
    obtain ⟨⟨⟨hse, hsel, hpa, -, hst, -⟩, hs⟩, hst'⟩ := h.streamStops
    exact ⟨⟨hse, hsel, hpa, by simp [requestsDropped], hst, fun hp => .inl (hst' hp)⟩, hs⟩
  rw [stopAtBoundary_eq]
  unfold passStops
  split
  · split
    · exact ⟨hdropped.pause, hdropped.session⟩
    · exact hdropped.abandonPass
  · exact hdropped.abandonPass

end CarryLaws

/-! ## Restart -/

/-- The part that carries nothing any more: the store is empty and the receiver is fresh (R18). -/
def restartFresh (s : State) : State :=
  let reported := report .peerRestart s
  { reported.countCarry (.upLostOnRestart s.sender.store.length) with
    receiver := Receiver.atReset
    sender := { reported.sender with store := [], cursor := none, n := 1 } }

/-- A restart request up to the OPEN that goes out: what was under way stops, and the next epoch opens (R18, R19). -/
def restartOpening (s : State) : State :=
  enterOpening ((stopAtBoundary (clearTally (restartFresh s))).keepWaiting (fun w => !w.isOpen))

theorem restartSession_eq (s : State) : restartSession s =
    match (restartOpening s).selector.status with
    | .draining _ => drainEmptied (restartOpening s)
    | .on b => sendOpen b (restartOpening s)
    | _ => restartOpening s := rfl

theorem CarryLaws.restartOpening {s : State} (h : CarryLaws s) : CarryLaws (restartOpening s) := by
  have hfresh : CarryLaws (restartFresh s) := by
    obtain ⟨hp, -, hep, hre, -, htt, hto⟩ : CarryLaws (report .peerRestart s) := h.congr (lawView_report _ _)
    exact ⟨hp, fun _ => ⟨rfl, rfl, rfl, rfl⟩, hep, hre, by simp [restartFresh, Receiver.atReset], htt, hto⟩
  have hstopped := (hfresh.clearTally.stopAtBoundary).congr (lawView_keepWaiting (fun w => !w.isOpen) _)
  refine hstopped.enterOpening ?_ ?_
  · simp [Machine.clearTally]
  · simp [restartFresh, Receiver.atReset]

@[simp] theorem restView_restartOpening (s : State) : restView (restartOpening s) = restView s := by
  simp [restView, lawView, restartOpening, restartFresh]

section
variable {s t : State} {b : Bearer}

theorem LawfulWith.drainEmptied (h : LawfulWith ModuleStrict s) : LawfulWith ModuleStrict (drainEmptied s) := by
  unfold Machine.drainEmptied
  split
  · next source hs =>
    have hhold : s.selector.holdTimer = none := by
      have := h.placed.hold
      simpa [holdWanted, hs] using this
    exact ⟨(h.placed.moving (by simp [hs])).switchDrain _ (h.placed.drains source hs).2 hhold (holdSettles_updateHold _),
      wantedMet_switchDrain _ _ _ _, levelKeeps_strict.switchDrain (fun _ => levelKeeps_strict.updateHold) h.module⟩
  · exact h

theorem LawfulWith.sendOpen (b : Bearer) (h : LawfulWith ModuleStrict s) (hs : s.session.status = .opening)
    (ha : s.active.isSome = true) : LawfulWith ModuleStrict (sendOpen b s) :=
  h.of_carry (h.placed.base.toCarryLaws.sendOpen b hs ha) (by simp [restView, lawView])

theorem LawfulWith.restartSession (h : LawfulWith ModuleStrict s) : LawfulWith ModuleStrict (restartSession s) := by
  have hopening : LawfulWith ModuleStrict (restartOpening s) :=
    h.of_carry h.placed.base.toCarryLaws.restartOpening (restView_restartOpening s)
  rw [restartSession_eq]
  split
  · exact hopening.drainEmptied
  · next b hb => exact hopening.sendOpen b rfl (by simp [State.active, SelectorStatus.active, hb])
  · exact hopening

theorem LawfulWith.readAck (a : Seq) (h : LawfulWith ModuleStrict s) : LawfulWith ModuleStrict (readAck a s) := by
  have happlied : LawfulWith ModuleStrict (applyAck a s) :=
    h.of_carry (h.placed.base.toCarryLaws.applyAck a) (by simp [restView, lawView])
  unfold Machine.readAck
  dsimp only
  split
  · exact happlied.drainEmptied
  · exact happlied

theorem LawfulWith.readAckIfClear (a : Seq) (h : LawfulWith ModuleStrict s) :
    LawfulWith ModuleStrict (readAckIfClear a s) := by
  unfold Machine.readAckIfClear
  split
  · exact h
  · exact h.readAck a

theorem LawfulWith.readProbeAck (f : CarryFrame) (h : LawfulWith ModuleStrict s) :
    LawfulWith ModuleStrict (readProbeAck f s) := by
  unfold Machine.readProbeAck
  split
  · exact h.readAckIfClear _
  · exact h

/-- A change that the laws do not read. -/
theorem LawfulWith.same (hv : lawView t = lawView s) (h : LawfulWith ModuleStrict s) : LawfulWith ModuleStrict t :=
  lawful_iff_lawfulWith.1 ((lawful_iff_lawfulWith.2 h).congr hv)

theorem LawfulWith.takeRewind (f : CarryFrame) (h : LawfulWith ModuleStrict s) :
    LawfulWith ModuleStrict (takeRewind b f s) := by
  have hmarked : ∀ m, LawfulWith ModuleStrict (s.setMarks b m) := fun m => h.same (by simp)
  have hacked : ∀ (c : Prop) [Decidable c] m, LawfulWith ModuleStrict (if c then Machine.readAck f.ackno (s.setMarks b m) else s.setMarks b m) :=
    fun c _ m => by
      split
      · exact (hmarked m).readAck _
      · exact hmarked m
  have hrewound : ∀ {t}, LawfulWith ModuleStrict t → LawfulWith ModuleStrict (Machine.rewindThreshold t) :=
    fun ht => ht.of_carry ht.placed.base.toCarryLaws.rewindThreshold (by simp [restView, lawView])
  unfold Machine.takeRewind
  dsimp only
  split
  · exact hrewound (hacked _ _)
  · exact hacked _ _

theorem LawfulWith.takeReplay (f : CarryFrame) (h : LawfulWith ModuleStrict s) :
    LawfulWith ModuleStrict (takeReplay b f s) := by
  have hmarked : ∀ m, LawfulWith ModuleStrict (s.setMarks b m) := fun m => h.same (by simp)
  have hcleared : ∀ {t}, LawfulWith ModuleStrict t → LawfulWith ModuleStrict (Machine.clearDiscard t) :=
    fun ht => ht.of_carry ht.placed.base.toCarryLaws.clearDiscard (by simp [restView, lawView])
  unfold Machine.takeReplay
  dsimp only
  split
  · split
    · exact (hcleared (hmarked _)).readAck _
    · exact hmarked _
  · exact (hmarked _).readAck _

theorem LawfulWith.handOver (l : Lane) (p : List Byte) (h : LawfulWith ModuleStrict s) :
    LawfulWith ModuleStrict (handOver l p s) := h.same (by simp [lawView])

theorem LawfulWith.receiveError (h : LawfulWith ModuleStrict s) (hs : s.session.status = .opened) :
    LawfulWith ModuleStrict (receiveError b s) :=
  h.of_carry (h.placed.base.toCarryLaws.receiveError hs) (by simp [restView, lawView])

/-- DATA is taken in an OPEN session alone (R13). -/
theorem LawfulWith.takeData (f : CarryFrame) (h : LawfulWith ModuleStrict s) (hs : s.session.status = .opened) :
    LawfulWith ModuleStrict (takeData b f s) := by
  unfold Machine.takeData
  split
  · exact (h.handOver _ _).readAckIfClear _
  · split
    · exact h.same (by simp)
    · split
      · unfold acceptData
        dsimp only
        refine LawfulWith.readAck _ ?_
        have hadv : ∀ x : State, LawfulWith ModuleStrict x → x.session.status = .opened → LawfulWith ModuleStrict (advanceE x) :=
          fun x hx hxs => hx.of_carry (hx.placed.base.toCarryLaws.advanceE hxs) (by simp [restView, lawView])
        split
        · exact hadv _ h hs
        · exact hadv _ (h.handOver _ _) (by simpa using hs)
      · exact (h.same (t := s.countCarry .upDuplicate) (by simp)).readAck _
      · exact (h.same (t := s.countCarry .upGap) (by simp)).receiveError (by simpa using hs)

theorem LawfulWith.matchEcho (f : CarryFrame) (h : LawfulWith ModuleStrict s) : LawfulWith ModuleStrict (matchEcho b f s) := by
  refine h.same ?_
  have hfilter : ∀ p : ProbeEntry → Bool, lawView (s.mapJudge b (fun j => { j with table := j.table.filter p })) = lawView s :=
    fun p => lawView_mapJudge b s fun _ => rfl
  unfold Machine.matchEcho
  dsimp only
  split
  · simp
  · split
    · simp
    · split
      · rw [lawView_countProbe, lawView_mapJudge b _ (by intro j; rfl), hfilter]
      · rw [lawView_countProbe, hfilter]

theorem LawfulWith.takeFrame (k : FrameKind) (f : CarryFrame) (h : LawfulWith ModuleStrict s)
    (hs : sessionOk k f s.session = true) : LawfulWith ModuleStrict (takeFrame b k f s) := by
  have hcounted : LawfulWith ModuleStrict (if k.countsReceived then s.countCarry .upReceived else s) := by
    split
    · exact h.same (by simp)
    · exact h
  have hsess : (if k.countsReceived then s.countCarry .upReceived else s).session = s.session := by split <;> simp
  unfold Machine.takeFrame
  dsimp only
  generalize (if k.countsReceived then s.countCarry .upReceived else s) = counted at hcounted hsess
  have hcleared := hcounted.same (lawView_setMarks b ⟨0, 0⟩ _)
  cases k with
  | rewind => exact hcounted.takeRewind f
  | replay => exact hcounted.takeReplay f
  | data =>
    refine hcleared.takeData f ?_
    simp only [sessionOk, Bool.and_eq_true, beq_iff_eq] at hs
    simpa [hsess] using hs.1
  | tally => exact hcleared.readAckIfClear _
  | probe => exact (hcleared.same (lawView_addWaiting _ _ _)).readProbeAck f
  | echo => exact (hcleared.matchEcho f).readProbeAck f
  | opened =>
    dsimp only
    unfold takeOpened
    split
    · next ho => exact hcleared.of_carry (hcleared.placed.base.toCarryLaws.enterOpen ho) (by simp [restView, lawView])
    · exact hcleared
  | opening => exact hcleared.restartSession

theorem LawfulWith.receive (o : Option CarryFrame) (h : LawfulWith ModuleStrict s) :
    LawfulWith ModuleStrict (receive b o s) := by
  unfold Machine.receive
  split
  · exact h.of_carry h.placed.base.toCarryLaws.checkFailure (by simp [restView, lawView])
  · split
    · split
      · exact h.same (by simp)
      · split
        · next hs => exact h.takeFrame _ _ hs
        · exact h.same (by simp)
    · exact h.same (by simp)

theorem LawfulWith.fibreArrival (bytes : List Byte) (h : LawfulWith ModuleStrict s) :
    LawfulWith ModuleStrict (fibreArrival bytes s) := by
  unfold Machine.fibreArrival
  split
  · exact h
  · split
    · exact h
    · split
      · exact h.receive _
      · exact h.same (by simp)

theorem LawfulWith.unitArrival (bytes : List Byte) (h : LawfulWith ModuleStrict s) :
    LawfulWith ModuleStrict (unitArrival bytes s) := by
  unfold Machine.unitArrival
  split
  · exact h.receive _
  · exact h

end

end Sys2Proof.Machine
end

section
/-! PROOFS. The laws under the carry timers, the selector's timers and the lines. -/

namespace Sys2Proof.Machine

section
variable {s t : State} {b : Bearer}

/-! ## Carry timers -/

theorem CarryLaws.tallyTimerStops (h : CarryLaws s) : CarryLaws { s with sender := { s.sender with tallyTimer := none } } := by
  obtain ⟨hp, hout, hep, hre, hrw, -, hto⟩ := h
  exact ⟨hp, hout, hep, hre, hrw, by simp, hto⟩

theorem LawfulWith.tallyExpires (h : LawfulWith ModuleStrict s) : LawfulWith ModuleStrict (tallyExpires s) := by
  unfold Machine.tallyExpires
  split
  · exact h
  · next due _ =>
    have hhere := h.advanceTo due
    have hstopped := hhere.of_carry hhere.placed.base.toCarryLaws.tallyTimerStops rfl
    dsimp only
    split
    · split
      · exact hstopped.same (lawView_addWaiting _ _ _)
      · exact hstopped
    · exact hstopped

theorem CarryLaws.retryStops (h : CarryLaws s) : CarryLaws { s with session := { s.session with retry := none } } := by
  obtain ⟨hp, hout, hep, -, hrest⟩ := h
  exact ⟨hp, hout, hep, by simp, hrest⟩

theorem LawfulWith.retryExpires (h : LawfulWith ModuleStrict s) : LawfulWith ModuleStrict (retryExpires s) := by
  unfold Machine.retryExpires
  split
  · exact h
  · next due _ =>
    have hhere := h.advanceTo due
    have hstopped := hhere.of_carry hhere.placed.base.toCarryLaws.retryStops rfl
    dsimp only
    split
    · next b ha =>
      split
      · next ho => exact hstopped.sendOpen b ho (by simpa [State.active] using congrArg Option.isSome ha)
      · exact hstopped
    · exact hstopped

theorem LawfulWith.stopRewindTimer (h : LawfulWith ModuleStrict s) : LawfulWith ModuleStrict (stopRewindTimer s) :=
  h.of_carry h.placed.base.toCarryLaws.stopRewindTimer (by simp [restView, lawView])

theorem LawfulWith.rewindExhausted (h : LawfulWith ModuleStrict s) : LawfulWith ModuleStrict (rewindExhausted s) := by
  have hfailed := h.stopRewindTimer.same
    (t := (report .rewindFailed (Machine.stopRewindTimer s)).countCarry .upRewindFailures) (by simp)
  unfold Machine.rewindExhausted
  dsimp only
  split
  · exact hfailed.hardFail levelKeeps_strict _
  · exact hfailed

theorem LawfulWith.rewindExpires (h : LawfulWith ModuleStrict s) : LawfulWith ModuleStrict (rewindExpires s) := by
  unfold Machine.rewindExpires
  split
  · exact h
  · next due _ =>
    have hhere := h.advanceTo due
    dsimp only
    split
    · exact hhere.stopRewindTimer
    · next b ha =>
      split
      · have ha : (Machine.requestRewind (s.advanceTo due)).active.isSome = true := by
          simpa [State.active] using congrArg Option.isSome ha
        exact hhere.of_carry (hhere.placed.base.toCarryLaws.requestRewind.startRewindTimer b _ ha)
          (by simp [restView, lawView])
      · exact hhere.rewindExhausted

/-! ## The selector's timers -/

/-- In ON_RADIO with the hold running the fibre may be taken, and the radio is eligible (R145). -/
theorem Placed.holdRuns (h : Placed s) (ht : s.selector.holdTimer.isSome = true) :
    s.selector.status = .on .radio ∧ s.eligible .radio = true ∧ s.mayTake .fibre = true := by
  obtain ⟨⟨hs, hp⟩, he⟩ : (s.selector.status = .on .radio ∧ s.selector.pin = .auto) ∧ s.eligible .fibre = true := by
    simpa [holdWanted] using h.hold.1 ht
  have hr := h.on .radio hs
  simp only [State.mayTake, Bool.and_eq_true] at hr
  exact ⟨hs, hr.1, by simp [State.mayTake, hp, he, PinValue.permits]⟩

theorem LawfulWith.startDrain (h : LawfulWith ModuleStrict s) (hs : s.selector.status = .on b)
    (hm : s.mayTake b.other = true) (t : Timer) :
    LawfulWith ModuleStrict (startDrain updateHold b { s with selector := { s.selector with holdTimer := t } }) := by
  have hseat := h.placed.toSeated.withHold t
  have he : s.eligible b = true := by
    have := h.placed.on b hs
    simp only [State.mayTake, Bool.and_eq_true] at this
    exact this.1
  exact ⟨(hseat.moving (by simp [hs])).startDrain hs he hm (holdSettles_updateHold _), wantedMet_startDrain _ _ _,
    levelKeeps_strict.startDrain (fun _ => levelKeeps_strict.updateHold) h.module⟩

theorem LawfulWith.holdExpires (h : LawfulWith ModuleStrict s) : LawfulWith ModuleStrict (holdExpires s) := by
  unfold Machine.holdExpires
  split
  · exact h
  · next due ht =>
    have hhere := h.advanceTo due
    obtain ⟨hs, -, hm⟩ := h.placed.holdRuns (by simp [ht])
    rw [if_pos hs]
    exact hhere.startDrain hs hm none

theorem Placed.drainRuns (h : Placed s) (ht : s.selector.drainTimer.isSome = true) :
    ∃ source, s.selector.status = .draining source := by
  have hd := h.drain.1 ht
  unfold State.draining at hd
  split at hd
  · next source hs => exact ⟨source, hs⟩
  · cases hd

theorem Placed.holdTimer_eq_none (h : Placed s) (hs : s.selector.status ≠ .on .radio) : s.selector.holdTimer = none :=
  (h.told .fibre).holdTimer_eq_none hs

theorem LawfulWith.switchDrain (o : HandoverOutcome) (h : LawfulWith ModuleStrict s) (hs : s.selector.status = .draining b) :
    LawfulWith ModuleStrict (switchDrain updateHold b o s) :=
  ⟨(h.placed.moving (by simp [hs])).switchDrain o (h.placed.drains b hs).2 (h.placed.holdTimer_eq_none (by simp [hs]))
      (holdSettles_updateHold _),
    wantedMet_switchDrain _ _ _ _, levelKeeps_strict.switchDrain (fun _ => levelKeeps_strict.updateHold) h.module⟩

theorem LawfulWith.drainExpires (h : LawfulWith ModuleStrict s) : LawfulWith ModuleStrict (drainExpires s) := by
  unfold Machine.drainExpires
  split
  · exact h
  · next due ht =>
    have hhere := h.advanceTo due
    obtain ⟨source, hs⟩ := h.placed.drainRuns (by simp [ht])
    simp only [hs]
    exact hhere.switchDrain _ hs

/-! ## The lines, the home port, the probe table and the parser -/

theorem LawfulWith.fibreLinkLost (h : LawfulWith ModuleStrict s) : LawfulWith ModuleStrict (fibreLinkLost s) := by
  unfold Machine.fibreLinkLost
  split
  · refine LawfulWith.hardFail levelKeeps_strict ?_ .fibre
    have hlevel : LawfulWith ModuleStrict (s.setFibreLink false) := h.same (s := s) rfl
    have hdown := hlevel.mapJudge (b := .fibre) (f := fun j => { j with linkHeld := false }) fun _ => rfl
    exact hdown.of_carry (hdown.placed.base.toCarryLaws.closePort .fibre) (by simp [restView, lawView])
  · exact h

@[simp] theorem lawView_laneArrival (l : Lane) (frame : QueuedFrame) (s : State) :
    lawView (laneArrival l frame s).1 = lawView s := by
  unfold laneArrival
  dsimp only
  split
  · simp
  · split
    · simp
    · split
      · simp
      · split <;> simp

@[simp] theorem lawView_homeArrival (bytes : List Byte) (s : State) : lawView (homeArrival bytes s).1 = lawView s := by
  unfold homeArrival
  (repeat' split) <;> simp

@[simp] theorem lawView_deliverHead (s : State) : lawView (deliverHead s) = lawView s := by simp [lawView]

@[simp] theorem lawView_expireProbe (b : Bearer) (tag : Byte) (s : State) :
    lawView (expireProbe b tag s) = lawView s := by simp [lawView, Judge.lawView]

@[simp] theorem lawView_takeParsed (found : List (Option Request)) (s : State) :
    lawView (takeParsed found s) = lawView s := by
  induction found generalizing s with
  | nil => rfl
  | cons r rest ih =>
    cases r with
    | none => simp [takeParsed, ih]
    | some r =>
      have hoffer : lawView (offerRequest r s) = lawView s := by
        unfold offerRequest
        split
        · rfl
        · simp
      simp [takeParsed, ih, hoffer]

@[simp] theorem lawView_parseBytes (bytes : List Byte) (late : Nat) (s : State) :
    lawView (parseBytes bytes late s) = lawView s := lawView_takeParsed _ s

@[simp] theorem lawView_messageBytes (bytes : List Byte) (s : State) : lawView (messageBytes bytes s) = lawView s := by
  unfold messageBytes
  split <;> simp

@[simp] theorem lawView_abandonMessage (s : State) : lawView (abandonMessage s) = lawView s := by
  unfold abandonMessage
  split <;> simp

end

end Sys2Proof.Machine
end

section
/-! PROOFS. The laws under PIN: what the selector does with a pin in each of its states. -/

namespace Sys2Proof.Machine

section
variable {s t : State} {b : Bearer} {p : PinValue}

/-! ## PIN and HANDOVER_NOW (R146, R147) -/

/-- The pin does not make the radio eligible (R121). -/
theorem eligible_radio_setPin (p : PinValue) (s : State) : (setPin p s).eligible .radio = s.eligible .radio := by
  rfl

/-- A new pin, with the fibre's eligibility under it written down as handed over. -/
def pinned (p : PinValue) (s : State) : State := noted .fibre (setPin p s)

@[simp] theorem selector_pinned (p : PinValue) (s : State) :
    (pinned p s).selector = { s.selector with pin := p } := noted_selector .fibre _

theorem noted_of_handed (h : s.eligible b = (s.judge b).handed) : noted b s = s := by
  unfold noted
  rw [h]
  cases b <;> rfl

theorem rework_setPin_of_handed (h : (setPin p s).eligible .fibre = s.fibreJudge.handed) :
    rework .fibre (setPin p s) = pinned p s := by
  exact (if_pos h).trans (noted_of_handed h).symm

theorem rework_setPin_of_changed (h : (setPin p s).eligible .fibre ≠ s.fibreJudge.handed) :
    rework .fibre (setPin p s) = onEligibility .fibre (pinned p s) := by
  exact if_neg h

theorem BaseLaws.setPin (p : PinValue) (h : BaseLaws s) : BaseLaws (setPin p s) :=
  ⟨⟨h.pause, h.session⟩, h.judging, h.held⟩

theorem Placed.moving_pinned (p : PinValue) (h : Placed s) (hs : s.selector.status ≠ .stopped) : Moving (pinned p s) := by
  refine ⟨(h.base.setPin p).noted, by simpa using hs, fun c => ?_⟩
  cases c with
  | fibre => rfl
  | radio => exact (h.handed .radio).trans (eligible_radio_setPin p s).symm

theorem Placed.drainTimer_eq_none (h : Placed s) (hs : ∀ c, s.selector.status ≠ .draining c) :
    s.selector.drainTimer = none := (h.told .fibre).drainTimer_eq_none hs

theorem Placed.eligible_on (h : Placed s) (hs : s.selector.status = .on b) : s.eligible b = true := by
  have := h.on b hs
  simp only [State.mayTake, Bool.and_eq_true] at this
  exact this.1

/-- A pin that does not permit a bearer names the other one. -/
theorem PinValue.permits_other_of_not (h : p.permits b = false) : p.permits b.other = true := by
  cases p with
  | auto => cases h
  | only c => revert h; cases b <;> cases c <;> decide

/-- A selector that has acted on all it was told has nothing to do under its own pin but the return hold (R146). -/
theorem Placed.pinAction (h : Placed s) (hp : s.selector.pin = p) : Placed (pinAction p s) := by
  unfold Machine.pinAction
  split
  · exact h
  · next hs =>
    unfold takeFromOutage
    simpa [h.outage hs] using h
  · next b hs =>
    have hm := h.on b hs
    simp only [State.mayTake, Bool.and_eq_true, hp] at hm
    rw [if_pos hm.2]
    exact h.toSeated.updateHold
  · exact h

/-- On an eligible bearer the pin keeps it, or sends the selector to the other one or to OUTAGE (R146). -/
theorem Moving.pinAction_on (h : Moving s) (hp : s.selector.pin = p) (hs : s.selector.status = .on b)
    (he : s.eligible b = true) (hd : s.selector.drainTimer = none) : Placed (pinAction p s) := by
  unfold Machine.pinAction
  simp only [hs]
  split
  · next hpermits =>
    refine Seated.updateHold ⟨h.base, by simp [hs, hd, State.draining], h.handed, ?_, by simp [hs], by simp [hs]⟩
    intro c hc
    obtain rfl : b = c := by simpa [hs] using hc
    simp [State.mayTake, he, hp, hpermits]
  · next hpermits =>
    have hpermits : p.permits b = false := by simpa using hpermits
    unfold leaveBearer
    split
    · next ho =>
      exact h.startDrain hs he (by simp [State.mayTake, ho, hp, PinValue.permits_other_of_not hpermits])
        (holdSettles_updateHold _)
    · next ho =>
      refine h.enterOutage hd fun c => ?_
      obtain rfl | rfl := eq_or_eq_other b c
      · simp [State.mayTake, hp, hpermits]
      · simpa [State.mayTake] using fun hc => absurd hc ho

theorem Moving.pinAction_outage (h : Moving s) (hs : s.selector.status = .outage)
    (hd : s.selector.drainTimer = none) (ht : s.selector.holdTimer = none) : Placed (pinAction p s) := by
  unfold Machine.pinAction
  simp only [hs]
  unfold takeFromOutage
  split
  · next hf => exact h.forceTo none .fibre hd hf
  · next hf =>
    split
    · next hr => exact h.forceTo none .radio hd hr
    · next hr =>
      refine ⟨⟨h.base, by simp [hs, hd, State.draining], h.handed, by simp [hs], by simp [hs], fun _ c => ?_⟩,
        by simp [holdWanted, hs, ht]⟩
      cases c
      · simpa using hf
      · simpa using hr

/-- STOPPED under a new pin: the fibre's eligibility is written down at most (R146). -/
theorem Placed.pinned_stopped (p : PinValue) (h : Placed s) (hs : s.selector.status = .stopped) :
    Placed (rework .fibre (setPin p s)) := by
  refine Told.rework ⟨h.base.setPin p, h.drain, ?_, ?_, ?_, ?_, ?_⟩
  · exact (h.handed .radio).trans (eligible_radio_setPin p s).symm
  · simp [setPin, hs]
  · simp [setPin, hs]
  · simp [setPin, hs]
  · simp [setPin, hs, h.holdTimer_eq_none]

theorem Placed.pinned_outage (p : PinValue) (h : Placed s) (hs : s.selector.status = .outage) :
    Placed (Machine.pinAction p (rework .fibre (setPin p s))) := by
  have hmov := h.moving_pinned p (by simp [hs])
  have hd : (pinned p s).selector.drainTimer = none := by simpa using h.drainTimer_eq_none (by simp [hs])
  have hstays := hmov.pinAction_outage (p := p) (by simpa using hs) hd (by simpa using h.holdTimer_eq_none (by simp [hs]))
  by_cases he : (setPin p s).eligible .fibre = s.fibreJudge.handed
  · rw [rework_setPin_of_handed he]
    exact hstays
  · rw [rework_setPin_of_changed he]
    unfold onEligibility
    simp only [selector_pinned, hs]
    split
    · next hm => exact (hmov.forceTo none .fibre hd hm).pinAction (by simp)
    · exact hstays

theorem Placed.pinned_fibre (p : PinValue) (h : Placed s) (hs : s.selector.status = .on .fibre) :
    Placed (Machine.pinAction p (rework .fibre (setPin p s))) := by
  have hmov := h.moving_pinned p (by simp [hs])
  have hd : (pinned p s).selector.drainTimer = none := by simpa using h.drainTimer_eq_none (by simp [hs])
  have hhanded : s.fibreJudge.handed = true := (h.handed .fibre).trans (h.eligible_on hs)
  by_cases he : (setPin p s).eligible .fibre = s.fibreJudge.handed
  · rw [rework_setPin_of_handed he]
    exact hmov.pinAction_on (by simp) (by simpa using hs) (by rw [pinned, eligible_noted, he, hhanded]) hd
  · have hlost : (pinned p s).eligible .fibre = false := by
      rw [pinned, eligible_noted]
      simpa [hhanded] using he
    rw [rework_setPin_of_changed he]
    unfold onEligibility
    simp only [selector_pinned, hs, hlost, if_true, Bool.false_eq_true, if_false]
    exact (hmov.loseActive hd hlost).pinAction (by simp)

theorem Placed.pinned_radio (p : PinValue) (h : Placed s) (hs : s.selector.status = .on .radio) :
    Placed (Machine.pinAction p (rework .fibre (setPin p s))) := by
  have hmov := h.moving_pinned p (by simp [hs])
  have hd : (pinned p s).selector.drainTimer = none := by simpa using h.drainTimer_eq_none (by simp [hs])
  have hradio : (pinned p s).eligible .radio = true := by
    rw [pinned, eligible_noted, eligible_radio_setPin]
    exact h.eligible_on hs
  by_cases he : (setPin p s).eligible .fibre = s.fibreJudge.handed
  · rw [rework_setPin_of_handed he]
    exact hmov.pinAction_on (by simp) (by simpa using hs) hradio hd
  · rw [rework_setPin_of_changed he]
    unfold onEligibility
    simp only [selector_pinned, hs, reduceCtorEq, if_true, if_false]
    by_cases hp : p.permits .radio = true
    · refine (Seated.updateHold ⟨hmov.base, ?_, hmov.handed, ?_, by simp [hs], by simp [hs]⟩).pinAction (by simp)
      · simpa [State.draining, hs] using hd
      · intro c hc
        obtain rfl : Bearer.radio = c := by simpa [hs] using hc
        simp [State.mayTake, hradio, hp]
    · have hauto : p ≠ .auto := fun ha => hp (by simp [ha, PinValue.permits])
      rw [updateHold_of_not_wanted (by simp [holdWanted, hauto])]
      exact (hmov.withTimers (pinned p s).selector.drainTimer none (pinned p s).selector.record).pinAction_on (b := .radio)
        (by simp) (by simpa using hs) hradio hd

/-- The source of a drain after PIN has named it: on it again (R150). -/
def sourceKept (source : Bearer) (s : State) : State :=
  { completeRecord .pinBack { s with selector := { s.selector with drainTimer := none } } with
    selector := { (completeRecord .pinBack { s with selector := { s.selector with drainTimer := none } }).selector with
      status := .on source }
    pause := { s.pause with selector := false } }

theorem abandonDrain_pinBack (source : Bearer) (s : State) :
    abandonDrain source .pinBack (setPin (.only source) s)
      = handWanted (updateHold (sourceKept source (setPin (.only source) s))) := by
  cases source <;> rfl

theorem Placed.sourceKept (h : Placed s) {source : Bearer} (hs : s.selector.status = .draining source) :
    Told .fibre (sourceKept source (setPin (.only source) s)) := by
  obtain ⟨he, -⟩ := h.drains source hs
  obtain ⟨⟨⟨hse, -, hpa, han, hst, hst'⟩, hss⟩, hj, hh⟩ := h.base
  refine ⟨⟨⟨⟨hse, ?_, hpa, han, hst, hst'⟩, ?_⟩, ?_, hh⟩, ?_, ?_, ?_, by simp [Machine.sourceKept],
    by simp [Machine.sourceKept], ?_⟩
  · cases source <;> simp [Machine.sourceKept]
  · simpa [SessionLaw, State.active, SelectorStatus.active, hs, Machine.sourceKept, completeRecord, setPin] using hss
  · simpa [JudgingLaw, hs, Machine.sourceKept, completeRecord, setPin] using hj
  · simp [State.draining, completeRecord, Machine.sourceKept]
  · exact (h.handed .radio).trans (eligible_radio_setPin (.only source) s).symm
  · rintro c ⟨⟩
    have hhanded := (h.handed source).trans he
    cases source <;> simpa [State.toldMayTake, Machine.sourceKept, completeRecord, setPin, PinValue.permits, State.judge] using hhanded
  · have hn := h.holdTimer_eq_none (by simp [hs])
    simp [Machine.sourceKept, completeRecord, setPin, hn]

end

end Sys2Proof.Machine
end

section
/-! PROOFS. The laws under PIN as it is taken, and the judges at START. -/

namespace Sys2Proof.Machine

section
variable {M : Radio → Prop} {s t : State} {b : Bearer} {p : PinValue}

theorem LevelKeeps.pinAction (hM : LevelKeeps M) (h : M s.radio) : M (pinAction p s).radio := by
  unfold Machine.pinAction
  split
  · exact h
  · unfold takeFromOutage
    split
    · exact hM.forceTo h
    · split
      · exact hM.forceTo h
      · exact h
  · split
    · exact hM.updateHold h
    · unfold leaveBearer
      split
      · exact hM.startDrain (fun _ => hM.updateHold) h
      · exact hM.enterOutage h
  · exact h

theorem Placed.handsWanted (hM : LevelKeeps M) (h : Placed s) (hm : M s.radio) : LawfulWith M (Machine.handWanted s) :=
  ⟨h.handWanted, wantedMet_handWanted s, hM s hm⟩

/-- A drain that PIN abandons to its source is on the source, and re-works the fibre (R150, R152). -/
theorem LawfulWith.pinnedBack (h : LawfulWith ModuleStrict s) (hs : s.selector.status = .draining b) :
    LawfulWith ModuleStrict (handWanted (rework .fibre (abandonDrain b .pinBack (setPin (.only b) s)))) := by
  have hkept := h.placed.sourceKept hs
  have hplaced : Placed (rework .fibre (abandonDrain b .pinBack (setPin (.only b) s))) := by
    refine Told.rework ?_
    rw [abandonDrain_pinBack, updateHold_of_not_wanted (by cases b <;> rfl)]
    have hn : (sourceKept b (setPin (.only b) s)).selector.holdTimer = none := h.placed.holdTimer_eq_none (by simp [hs])
    rw [← hn]
    cases b with
    | fibre =>
      have he : (sourceKept .fibre (setPin (.only .fibre) s)).eligible .fibre
          = ((sourceKept .fibre (setPin (.only .fibre) s)).judge .fibre).handed := by
        obtain ⟨he, -⟩ := h.placed.drains .fibre hs
        refine Eq.trans ?_ ((h.placed.handed .fibre).trans he).symm
        simp only [State.eligible, Bool.and_eq_true] at he
        simp [State.eligible, sourceKept, setPin, completeRecord, State.judge] at he ⊢
        exact he.1
      exact ((hkept.placed he).handWanted).told .fibre
    | radio =>
      have hw : s.selector.wanted = .active := h.wanted.trans (by simp [wantedLevel, hs])
      unfold handWanted
      rw [if_pos (by simp [sourceKept, completeRecord, setPin, hw, wantedLevel])]
      exact hkept
  exact hplaced.handsWanted levelKeeps_strict (levelKeeps_strict.rework (levelKeeps_strict.abandonDrain h.module))

/-- In a drain AUTO re-works the fibre's eligibility (R152). -/
theorem LawfulWith.pinnedAuto (h : LawfulWith ModuleStrict s) (hs : s.selector.status = .draining b) :
    LawfulWith ModuleStrict (handWanted (rework .fibre (setPin .auto s))) := by
  have htold : Told .fibre (setPin .auto s) := by
    obtain ⟨he, hm⟩ := h.placed.drains b hs
    simp only [State.mayTake, Bool.and_eq_true] at hm
    refine ⟨h.placed.base.setPin .auto, h.placed.drain, ?_, by simp [setPin, hs], ?_, by simp [setPin, hs], ?_⟩
    · exact (h.placed.handed .radio).trans (eligible_radio_setPin .auto s).symm
    · intro c hc
      obtain rfl : b = c := by simpa [setPin, hs] using hc
      refine ⟨(h.placed.handed b).trans he, ?_⟩
      have ho := (h.placed.handed b.other).trans hm.1
      simp only [State.toldMayTake, Bool.and_eq_true]
      exact ⟨ho, rfl⟩
    · simp [setPin, hs, h.placed.holdTimer_eq_none]
  exact htold.rework.handsWanted levelKeeps_strict (levelKeeps_strict.rework h.module)

theorem LawfulWith.takePin (h : LawfulWith ModuleStrict s) (hp : namesTarget p s = false) :
    LawfulWith ModuleStrict (takePin p s) := by
  have hmodule : ModuleStrict (Machine.pinAction p (Machine.rework .fibre (setPin p s))).radio :=
    levelKeeps_strict.pinAction (levelKeeps_strict.rework h.module)
  unfold Machine.takePin
  split
  · next source hs =>
    split
    · next hsource =>
      subst hsource
      exact h.pinnedBack hs
    · next hsource =>
      have hauto : p = .auto := by
        simp only [namesTarget, hs, beq_eq_false_iff_ne] at hp
        cases p with
        | auto => rfl
        | only c =>
          obtain rfl | rfl := eq_or_eq_other source c
          · exact absurd rfl hsource
          · exact absurd rfl hp
      subst hauto
      exact h.pinnedAuto hs
  · next hs =>
    refine Placed.handsWanted levelKeeps_strict ?_ hmodule
    cases hst : s.selector.status with
    | stopped => exact (h.placed.pinned_stopped p hst).pinAction (by simp [setPin])
    | outage => exact h.placed.pinned_outage p hst
    | on c =>
      cases c with
      | fibre => exact h.placed.pinned_fibre p hst
      | radio => exact h.placed.pinned_radio p hst
    | draining c => exact absurd hst (hs c)

/-! ## START and HALT (R138, R139) -/

/-- A STOPPED selector: nobody is judged, and nothing runs. -/
structure AtRest (s : State) : Prop where
  carry : CarryLaws s
  stopped : s.selector.status = .stopped
  timers : ∀ b, (s.judge b).timer = none ∧ (s.judge b).decay = none
  down : ∀ b, (s.judge b).verdict = .down
  unhanded : ∀ b, (s.judge b).handed = false
  penalty : ∀ b, (s.judge b).penalty ≤ (s.judge b).damping.ceiling
  held : s.radio.wantedHeld = s.selector.wanted
  selectorTimers : s.selector.drainTimer = none ∧ s.selector.holdTimer = none

theorem AtRest.placed (h : AtRest s) : Placed s := by
  obtain ⟨hc, hs, ht, hv, hh, hp, hw, hd, hhold⟩ := h
  refine ⟨⟨⟨hc, ?_, hw⟩, by simp [hd, hs, State.draining], fun b => ?_, by simp [hs], by simp [hs], by simp [hs]⟩, ?_⟩
  · have htf := ht .fibre
    have htr := ht .radio
    have hvf := hv .fibre
    have hvr := hv .radio
    simp only [State.judge] at htf htr hvf hvr
    simp only [JudgingLaw, hs, htf, htr, hvf, hvr]
    simpa using ⟨hp .fibre, hp .radio⟩
  · rw [hh, eligible_of_down (hv b)]
  · simp [holdWanted, hs, hhold]

theorem Verdict.eq_down_of_ne_up {v : Verdict} (h : v ≠ .up) : v = .down := by
  cases v with
  | up => exact absurd rfl h
  | down => rfl

theorem Placed.verdict_down (h : Placed s) (ht : (s.judge b).timer = none) : (s.judge b).verdict = .down :=
  Verdict.eq_down_of_ne_up fun hv => by simpa [ht] using h.base.judged_of_up b hv

theorem Placed.radioJudge_unjudged (h : Placed s) (hs : s.selector.status = .stopped) :
    s.fibreJudge.timer = none ∧ s.radioJudge.timer = none := by
  obtain ⟨hf, hr, -⟩ := h.base.judging
  constructor
  · simpa [hs] using hf
  · simpa [hs] using hr

/-- START's state before the wanted level is handed over (R138). -/
def startedJudging (s : State) : State :=
  let outage := { s with selector := { s.selector with status := .outage } }
  let fibre := beginJudging .fibre outage
  if fibre.radio.status = .ready then beginJudging .radio fibre else fibre

theorem startCarrying_eq (s : State) :
    startCarrying s = handWanted (report .outageBegin (startDecay (startedJudging s))) := rfl

theorem startedJudging_writes (s : State) :
    (startedJudging s).fibreJudge.timer.isSome = true ∧ (startedJudging s).fibreJudge.verdict = .down
      ∧ (startedJudging s).radioJudge.timer = (if s.radio.status = .ready then (startedJudging s).radioJudge.timer
          else s.radioJudge.timer)
      ∧ (s.radio.status = .ready → (startedJudging s).radioJudge.timer.isSome = true
          ∧ (startedJudging s).radioJudge.verdict = .down)
      ∧ (s.radio.status ≠ .ready → (startedJudging s).radioJudge = s.radioJudge) := by
  unfold startedJudging
  by_cases hr : s.radio.status = .ready <;> simp [hr]

end

end Sys2Proof.Machine
end

section
/-! PROOFS. The laws under START and HALT. -/

namespace Sys2Proof.Machine

section
variable {M : Radio → Prop} {s t : State} {b : Bearer} {p : PinValue}

@[simp] theorem startedJudging_keeps (s : State) :
    (startedJudging s).pause = s.pause ∧ (startedJudging s).session = s.session
      ∧ (startedJudging s).receiver = s.receiver
      ∧ (startedJudging s).sender.n = s.sender.n ∧ (startedJudging s).sender.store = s.sender.store
      ∧ (startedJudging s).sender.tallyOwed = s.sender.tallyOwed
      ∧ (startedJudging s).sender.tallyTimer = s.sender.tallyTimer
      ∧ (startedJudging s).sender.stream = s.sender.stream
      ∧ (startedJudging s).sender.rewindPending = s.sender.rewindPending
      ∧ (startedJudging s).sender.announcePending = s.sender.announcePending
      ∧ (startedJudging s).sender.pass = s.sender.pass
      ∧ (startedJudging s).selector = { s.selector with status := .outage }
      ∧ (startedJudging s).radio.status = s.radio.status
      ∧ (startedJudging s).radio.wantedHeld = s.radio.wantedHeld
      ∧ (startedJudging s).fibreJudge.penalty = s.fibreJudge.penalty
      ∧ (startedJudging s).fibreJudge.damping = s.fibreJudge.damping
      ∧ (startedJudging s).fibreJudge.handed = s.fibreJudge.handed
      ∧ (startedJudging s).radioJudge.penalty = s.radioJudge.penalty
      ∧ (startedJudging s).radioJudge.damping = s.radioJudge.damping
      ∧ (startedJudging s).radioJudge.handed = s.radioJudge.handed := by
  unfold startedJudging
  dsimp only
  split <;> simp

theorem startedJudging_down (h : Placed s) (hs : s.selector.status = .stopped) (b : Bearer) :
    ((startedJudging s).judge b).verdict = .down := by
  obtain ⟨-, hf, -, hr, hn⟩ := startedJudging_writes s
  cases b with
  | fibre => exact hf
  | radio =>
    by_cases hready : s.radio.status = .ready
    · exact (hr hready).2
    · exact (congrArg Judge.verdict (hn hready)).trans (h.verdict_down (b := .radio) (h.radioJudge_unjudged hs).2)

/-- START judges the fibre, and the radio under a READY module (R106). -/
theorem JudgingLaw.started (h : Placed s) (hs : s.selector.status = .stopped) :
    JudgingLaw (startDecay (startedJudging s)) := by
  obtain ⟨hft, hfd, -, hr, hn⟩ := startedJudging_writes s
  have hrd : (startedJudging s).radioJudge.verdict = .down := startedJudging_down h hs .radio
  have hrt : (startedJudging s).radioJudge.timer.isSome = true ↔ s.radio.status = .ready := by
    by_cases hready : s.radio.status = .ready
    · simp [hready, hr hready]
    · simp [hready, hn hready, (h.radioJudge_unjudged hs).2]
  obtain ⟨-, -, -, -, -, -, hfp, hrp⟩ := h.base.judging
  simp only [JudgingLaw, startDecay_frame, startedJudging_keeps, hft, hfd, hrd, hrt]
  simp [startDecay, hfp, hrp]

theorem CarryLaws.started (h : CarryLaws s) (hs : s.selector.status = .stopped) :
    CarryLaws (startDecay (startedJudging s)) := by
  obtain ⟨⟨hse, hsel, hpa, han, hst, hst'⟩, hout, hep, hre, hrw, htt, hto⟩ := h
  have ha : s.active = none := by simp [State.active, hs, SelectorStatus.active]
  have hsel : s.pause.selector = true := by simp [hsel, hs]
  refine ⟨⟨by simpa using hse, by simp [hsel], by simpa using hpa, by simpa using han, by simpa using hst,
    by simpa using hst'⟩, by simpa using hout, by simpa using hep, ?_, ?_, by simpa using htt, ?_⟩
  · have hre : s.session.retry = none := by simpa [ha] using hre
    simp [hre]
  · have hrw : s.receiver.rewindTimer = none := by simpa [ha] using hrw
    simp [hrw]
  · have hto : s.sender.tallyOwed = false := by simpa [ha] using hto
    simp [hto]

theorem Placed.started (h : Placed s) (hs : s.selector.status = .stopped) : Placed (startDecay (startedJudging s)) := by
  have hdown : ∀ b, (startDecay (startedJudging s)).eligible b = false := fun b => by
    refine eligible_of_down ?_
    rw [← startedJudging_down h hs b]
    cases b <;> simp [State.judge]
  have hunhanded : ∀ b, (s.judge b).handed = false := fun b => by
    rw [h.handed b]
    obtain ⟨hf, hr⟩ := h.radioJudge_unjudged hs
    exact eligible_of_down (h.verdict_down (by cases b <;> assumption))
  refine ⟨⟨⟨h.base.toCarryLaws.started hs, JudgingLaw.started h hs, by simpa using h.base.held⟩, ?_, fun b => ?_,
    by simp, by simp, fun _ b => by simp [State.mayTake, hdown]⟩, ?_⟩
  · simp [State.draining, h.drainTimer_eq_none (by simp [hs])]
  · rw [hdown, ← hunhanded b]
    cases b <;> simp [State.judge]
  · simp [holdWanted, h.holdTimer_eq_none (by simp [hs])]

theorem ModuleStrict.started (h : ModuleStrict s.radio) : ModuleStrict (startedJudging s).radio := by
  unfold startedJudging
  dsimp only
  split
  · exact ModuleStrict.beginJudging _ (ModuleStrict.beginJudging _ h)
  · exact ModuleStrict.beginJudging _ h

theorem LawfulWith.startCarrying (h : LawfulWith ModuleStrict s) (hs : s.selector.status = .stopped) :
    LawfulWith ModuleStrict (startCarrying s) := by
  rw [startCarrying_eq]
  refine Placed.handsWanted levelKeeps_strict ((h.placed.started hs).congr (lawView_report _ _)) ?_
  simpa using h.module.started

@[simp] theorem haltSelector_writes (s : State) :
    (haltSelector s).selector.status = .stopped ∧ (haltSelector s).selector.drainTimer = none
      ∧ (haltSelector s).selector.holdTimer = none ∧ (haltSelector s).pause.selector = true := ⟨rfl, rfl, rfl, rfl⟩

@[simp] theorem haltCarrying_writes (s : State) :
    (haltCarrying s).pause.stream = s.sender.stream.isSome ∧ (haltCarrying s).pause.pass = false
      ∧ (haltCarrying s).sender.rewindPending = false ∧ (haltCarrying s).sender.announcePending = false
      ∧ (haltCarrying s).sender.pass = .none ∧ (haltCarrying s).sender.tallyOwed = false
      ∧ (haltCarrying s).sender.tallyTimer = none ∧ (haltCarrying s).session.retry = none
      ∧ (haltCarrying s).receiver.rewindTimer = none := ⟨rfl, rfl, rfl, rfl, rfl, rfl, rfl, rfl, rfl⟩

/-- What a HALT mode does at the ports. -/
def HaltCut (cut : State → State) : Prop := cut = cutPorts ∨ cut = id

/-- The state of a HALT before the judges end (R139). -/
def haltedCarrying (cut : State → State) (s : State) : State := stopDecay (haltCarrying (cut (haltSelector s)))

theorem CarryLaws.halted {cut : State → State} (h : CarryLaws s) (hcut : HaltCut cut) :
    CarryLaws (haltedCarrying cut s) := by
  obtain ⟨⟨hse, -, -, -, -, -⟩, hout, hep, -, -, -, -⟩ := h
  obtain rfl | rfl := hcut <;>
    exact ⟨⟨by simpa [haltedCarrying] using hse, by simp [haltedCarrying], by simp [haltedCarrying],
      by simp [haltedCarrying], by simp [haltedCarrying], by simp [haltedCarrying]⟩,
      by simpa [haltedCarrying] using hout, by simpa [haltedCarrying] using hep, by simp [haltedCarrying],
      by simp [haltedCarrying], by simp [haltedCarrying], by simp [haltedCarrying]⟩

@[simp] theorem haltedCarrying_keeps {cut : State → State} (hcut : HaltCut cut) (s : State) :
    (haltedCarrying cut s).selector.status = .stopped ∧ (haltedCarrying cut s).selector.drainTimer = none
      ∧ (haltedCarrying cut s).selector.holdTimer = none
      ∧ (haltedCarrying cut s).selector.wanted = s.selector.wanted
      ∧ (haltedCarrying cut s).radio.wantedHeld = s.radio.wantedHeld
      ∧ (haltedCarrying cut s).fibreJudge.decay = none ∧ (haltedCarrying cut s).radioJudge.decay = none
      ∧ (haltedCarrying cut s).fibreJudge.penalty = s.fibreJudge.penalty
      ∧ (haltedCarrying cut s).fibreJudge.damping = s.fibreJudge.damping
      ∧ (haltedCarrying cut s).radioJudge.penalty = s.radioJudge.penalty
      ∧ (haltedCarrying cut s).radioJudge.damping = s.radioJudge.damping
      ∧ (ModuleStrict s.radio → ModuleStrict (haltedCarrying cut s).radio) := by
  obtain rfl | rfl := hcut <;> simp [haltedCarrying, ModuleStrict, ModuleLaw] <;> simp [stopDecay]

theorem rework_of_stopped (hs : s.selector.status = .stopped) : rework b s = noted b s := by
  rw [rework_eq]
  split
  · next he => exact (noted_of_handed he).symm
  · simp [onEligibility, hs]

/-- The two judges of a HALT end one after the other, and the eligibilities are written down (R108, R121). -/
def judgesEnded (s : State) : State := noted .radio (resetJudge .radio (noted .fibre (resetJudge .fibre s)))

theorem endJudging_both (hs : s.selector.status = .stopped) :
    endJudging .radio (endJudging .fibre s) = judgesEnded s := by
  have hf : endJudging .fibre s = noted .fibre (resetJudge .fibre s) := rework_of_stopped (by simpa using hs)
  rw [hf]
  exact rework_of_stopped (by simpa using hs)

theorem judgesEnded_judges (s : State) :
    (judgesEnded s).fibreJudge = { s.fibreJudge.cleared with handed := false }
      ∧ (judgesEnded s).radioJudge = { s.radioJudge.cleared with handed := false } := by
  constructor <;> simp [judgesEnded, noted, State.mapJudge, State.eligible, State.judge, Judge.cleared]

@[simp] theorem judgesEnded_keeps (s : State) :
    (judgesEnded s).pause = s.pause ∧ (judgesEnded s).session = s.session ∧ (judgesEnded s).sender = s.sender
      ∧ (judgesEnded s).receiver = s.receiver ∧ (judgesEnded s).selector = s.selector
      ∧ (judgesEnded s).radio = s.radio := by simp [judgesEnded, noted]

theorem CarryLaws.of_fields (h : CarryLaws s) (hp : t.pause = s.pause) (hse : t.session = s.session)
    (hsn : t.sender = s.sender) (hr : t.receiver = s.receiver) (hs : t.selector = s.selector) : CarryLaws t := by
  obtain ⟨hpause, hsession⟩ := h
  refine ⟨?_, ?_⟩
  · simpa only [PauseLaw, hp, hse, hsn, hs] using hpause
  · simpa only [SessionLaw, State.active, hse, hsn, hr, hs] using hsession

theorem LawfulWith.halt {cut : State → State} (h : LawfulWith ModuleStrict s) (hcut : HaltCut cut) :
    LawfulWith ModuleStrict (halt cut s) := by
  unfold Machine.halt
  split
  · exact h
  · obtain ⟨hs, hd, hh, hw, hheld, hfd, hrd, hfp, hfc, hrp, hrc, hm⟩ := haltedCarrying_keeps hcut s
    change LawfulWith ModuleStrict (handWanted (endJudging .radio (endJudging .fibre (haltedCarrying cut s))))
    rw [endJudging_both hs]
    obtain ⟨hjf, hjr⟩ := judgesEnded_judges (haltedCarrying cut s)
    refine Placed.handsWanted levelKeeps_strict (AtRest.placed ?_) (by simpa using hm h.module)
    have hpenalty := h.placed.base.penalty_le
    refine ⟨(h.placed.base.toCarryLaws.halted hcut).of_fields (by simp) (by simp) (by simp) (by simp) (by simp),
      by simpa using hs, fun b => ?_, fun b => ?_, fun b => ?_, fun b => ?_, ?_, by simp [hd, hh]⟩
    · cases b <;> simp [State.judge, hjf, hjr, Judge.cleared, hfd, hrd]
    · cases b <;> simp [State.judge, hjf, hjr, Judge.cleared]
    · cases b <;> simp [State.judge, hjf, hjr]
    · cases b with
      | fibre => simpa [State.judge, hjf, Judge.cleared, hfp, hfc] using hpenalty .fibre
      | radio => simpa [State.judge, hjr, Judge.cleared, hrp, hrc] using hpenalty .radio
    · simpa [hw, hheld] using h.placed.base.held

end

end Sys2Proof.Machine
end

section
/-! PROOFS. The laws under every request and command. -/

namespace Sys2Proof.Machine

section
variable {s t : State} {b : Bearer}

/-! ## Requests -/

/-- An answer's effect keeps the laws in every state that the laws see as the one it was worked out in. -/
def EffectKeepsLaws (a : Answer) (s : State) : Prop :=
  ∀ t, lawView t = lawView s → LawfulWith ModuleStrict t → LawfulWith ModuleStrict (a.effect t)

namespace EffectKeepsLaws

theorem refuse (r : ReplyStatus) : EffectKeepsLaws (.refuse r) s := fun _ _ h => h
theorem returns (results : List Byte) : EffectKeepsLaws (.return results) s := fun _ _ h => h

/-- An effect on what the laws do not read. -/
theorem unseen {a : Answer} (h : ∀ t, lawView (a.effect t) = lawView t) : EffectKeepsLaws a s :=
  fun t _ ht => ht.same (h t)

theorem withBody {α : Type} {answer : α → Answer} (body : Option α) (h : ∀ v, EffectKeepsLaws (answer v) s) :
    EffectKeepsLaws (.withBody body answer) s := by
  unfold Answer.withBody
  split
  · exact refuse _
  · exact h _

end EffectKeepsLaws

theorem LawfulWith.takeRequest {answer : List Byte → State → Answer} (kind : Byte) (only : List Byte → Bool)
    (length : Nat) (h : LawfulWith ModuleStrict s) (ha : ∀ body, EffectKeepsLaws (answer body s) s) :
    LawfulWith ModuleStrict (takeRequest kind only length answer s).1 := by
  have hplaced : ∀ r a, lawView (placeReply r a s) = lawView s := fun _ _ => rfl
  unfold Machine.takeRequest
  split
  · exact h
  · next r _ =>
    split
    · dsimp only [answerRequest, lengthChecked]
      split
      · exact ha _ _ (hplaced _ _) (h.same (hplaced _ _))
      · exact h.same (hplaced _ _)
    · exact h

theorem LawfulWith.unknownTaken (h : LawfulWith ModuleStrict s) : LawfulWith ModuleStrict (unknownTaken s) := by
  unfold Machine.unknownTaken
  split
  · exact h
  · split
    · exact h
    · exact h.same (s := s) rfl

theorem status_congr (h : lawView t = lawView s) : t.selector.status = s.selector.status := by
  rw [← status_lawView, h, status_lawView]

theorem mayTake_congr (h : lawView t = lawView s) (b : Bearer) : t.mayTake b = s.mayTake b := by
  rw [← mayTake_lawView, h, mayTake_lawView]

section
variable (body : List Byte)

theorem effectKeepsLaws_getLane : EffectKeepsLaws (answerGetLane body s) s := .withBody _ fun _ => .returns _
theorem effectKeepsLaws_getClass : EffectKeepsLaws (answerGetClass body s) s := .withBody _ fun _ => .returns _
theorem effectKeepsLaws_getJudge : EffectKeepsLaws (answerGetJudge body s) s := .withBody _ fun _ => .returns _
theorem effectKeepsLaws_setClass : EffectKeepsLaws (answerSetClass body s) s :=
  .withBody _ fun _ => .unseen fun _ => rfl
theorem effectKeepsLaws_clearEvents : EffectKeepsLaws (answerClearEvents body s) s := .unseen fun _ => rfl
theorem effectKeepsLaws_setAlert : EffectKeepsLaws (answerSetAlert body s) s := .withBody _ fun _ => .unseen fun _ => rfl
theorem effectKeepsLaws_reset : EffectKeepsLaws (answerReset body s) s := .unseen fun _ => rfl

theorem effectKeepsLaws_readCounts : EffectKeepsLaws (answerReadCounts body s) s :=
  .withBody _ fun v => .unseen fun t => by
    dsimp only
    split <;> rfl

theorem lawView_setProfile (l : Lane) (p : LaneProfile) (s : State) : lawView (setProfile l p s) = lawView s := by
  have hsupply : (setProfile l p s).lanes.supply = s.lanes.supply := by
    cases l <;> simp [setProfile, Lanes.set]
  simp [lawView, hsupply]

theorem effectKeepsLaws_setLane : EffectKeepsLaws (answerSetLane body s) s := by
  unfold answerSetLane
  split
  · exact .refuse _
  · refine .withBody _ fun v => ?_
    split
    · exact .refuse _
    · exact .unseen fun t => lawView_setProfile _ _ t

theorem effectKeepsLaws_setJudge : EffectKeepsLaws (answerSetJudge body s) s := by
  unfold answerSetJudge
  split
  · exact .refuse _
  · refine .withBody _ fun v => .unseen fun t => lawView_mapJudge _ t fun j => ?_
    unfold Judge.withSettings
    split <;> rfl

theorem effectKeepsLaws_setDamping : EffectKeepsLaws (answerSetDamping body s) s := by
  unfold answerSetDamping
  split
  · exact .refuse _
  · exact .withBody _ fun v t _ ht => ht.setDamping levelKeeps_strict v.1 v.2

theorem effectKeepsLaws_setCarry : EffectKeepsLaws (answerSetCarry body s) s := by
  unfold answerSetCarry
  split
  · exact .withBody _ fun v => .unseen fun _ => rfl
  · exact .refuse _

/-- New module settings in STOPPED, where the wanted level does not ask for the standby level (R155). -/
theorem LawfulWith.withModuleSettings (h : LawfulWith ModuleStrict s) (hs : s.selector.status = .stopped) (v : ModuleSettings) :
    LawfulWith ModuleStrict { s with radio := { s.radio with settings := v } } := by
  refine ⟨h.placed.withRadio Iff.rfl rfl, ?_, h.module⟩
  have hw := h.wanted
  simp only [WantedMet, wantedLevel, hs] at hw ⊢
  exact hw

theorem effectKeepsLaws_setModule : EffectKeepsLaws (answerSetModule body s) s := by
  unfold answerSetModule
  split
  · next hs => exact .withBody _ fun v t hv ht => ht.withModuleSettings ((status_congr hv).trans hs) v
  · exact .refuse _

/-- The supply is read by the wanted level alone (R35, R155). -/
theorem Placed.withSupply (h : Placed s) (v : Supply) : Placed { s with lanes := { s.lanes with supply := v } } := by
  obtain ⟨⟨⟨⟨hp, hss⟩, hj, hh⟩, hd, hhand, hon, hdr, hou⟩, hhold⟩ := h
  exact ⟨⟨⟨⟨hp, hss⟩, hj, hh⟩, hd, hhand, hon, hdr, hou⟩, hhold⟩

theorem effectKeepsLaws_setSupply : EffectKeepsLaws (answerSetSupply body s) s :=
  .withBody _ fun v _ _ ht => (ht.placed.withSupply v).handsWanted levelKeeps_strict ht.module

theorem effectKeepsLaws_start : EffectKeepsLaws (answerStart body s) s := by
  unfold answerStart
  split
  · next hs => exact fun t hv ht => ht.startCarrying ((status_congr hv).trans hs)
  · exact .refuse _

theorem effectKeepsLaws_halt : EffectKeepsLaws (answerHalt body s) s := by
  unfold answerHalt
  split
  · exact fun t _ ht => ht.halt (.inl rfl)
  · split
    · exact fun t _ ht => ht.halt (.inr rfl)
    · exact .refuse _

theorem effectKeepsLaws_pin : EffectKeepsLaws (answerPin body s) s := by
  unfold answerPin
  refine .withBody _ fun p => ?_
  split
  · exact .refuse _
  · next hp =>
    intro t hv ht
    refine ht.takePin ?_
    simpa [namesTarget, status_congr hv] using hp

theorem effectKeepsLaws_handoverNow : EffectKeepsLaws (answerHandoverNow body s) s := by
  unfold answerHandoverNow
  split
  · exact .refuse _
  · next b hs =>
    split
    · next hm =>
      exact fun t hv ht => ht.startDrain ((status_congr hv).trans hs) ((mayTake_congr hv _).trans hm) t.selector.holdTimer
    · exact .refuse _
  · exact .refuse _

end

/-! ## Resets -/

/-- The part at its power-on values is at rest, whatever its epoch (R184, R185). -/
theorem atRest_blankPart (epoch : BitVec 16) (link : LinkCounts) (s : State) : AtRest (blankPart epoch link s) where
  carry := ⟨by simp [PauseLaw, blankPart, State.reset, Pause.atReset, Selector.atReset, Sender.atReset],
    by simp [SessionLaw, blankPart, State.reset, Sender.atReset, Receiver.atReset]⟩
  stopped := rfl
  timers b := by cases b <;> exact ⟨rfl, rfl⟩
  down b := by cases b <;> rfl
  unhanded b := by cases b <;> rfl
  penalty b := by cases b <;> exact Nat.zero_le _
  held := rfl
  selectorTimers := ⟨rfl, rfl⟩

theorem moduleStrict_atReset : ModuleStrict Radio.atReset := by
  simp [ModuleStrict, ModuleLaw, Radio.atReset, ModuleStatus.powered, ModuleStatus.mayAwait]

theorem lawfulWith_startUp (epoch : BitVec 16) (link : LinkCounts) (s : State) :
    LawfulWith ModuleStrict (startUp epoch link s) := by
  have hblank : LawfulWith ModuleStrict (blankPart epoch link s) :=
    ⟨(atRest_blankPart epoch link s).placed, rfl, moduleStrict_atReset⟩
  exact hblank.same (lawView_report _ _)

theorem LawfulWith.headSent (h : LawfulWith ModuleStrict s) : LawfulWith ModuleStrict (headSent s) := by
  unfold Machine.headSent
  split
  · exact h
  · dsimp only
    split
    · exact lawfulWith_startUp _ _ _
    · exact h.same (s := s) rfl

/-! ## Every command -/

/-- The outcome of a command, where it is a state, meets the laws. -/
def OutcomeLawful (o : Host.Outcome State Fault Refusal) : Prop := ∀ t, o = .next t → LawfulWith ModuleStrict t

theorem outcomeLawful_next (h : LawfulWith ModuleStrict t) : OutcomeLawful (.next t) := by
  rintro _ ⟨⟩
  exact h

theorem LawfulWith.closeEvent (h : LawfulWith ModuleStrict s) : LawfulWith ModuleStrict (closeEvent s) := h.same (by simp)

section
variable (h : LawfulWith ModuleStrict s)
include h

theorem LawfulWith.runWith {effect : State → State × Bool} (he : LawfulWith ModuleStrict (effect s).1) :
    OutcomeLawful (runWith s effect) := by
  unfold Machine.runWith
  split
  · exact outcomeLawful_next h
  · exact outcomeLawful_next (he.finish _ _)

theorem LawfulWith.run {effect : State → State} (he : LawfulWith ModuleStrict (effect s)) : OutcomeLawful (run s effect) :=
  h.runWith he

theorem LawfulWith.runQuiet {effect : State → State} (he : LawfulWith ModuleStrict (effect s)) :
    OutcomeLawful (runQuiet s effect) := by
  unfold Machine.runQuiet
  split
  · exact outcomeLawful_next h
  · exact outcomeLawful_next he.closeEvent

theorem LawfulWith.runRequest {answer : List Byte → State → Answer} (kind : Byte) (length : Nat)
    (ha : ∀ body, EffectKeepsLaws (answer body s) s) : OutcomeLawful (runRequest kind length answer s) :=
  h.runQuiet (h.takeRequest kind anyBody length ha)

theorem LawfulWith.runActing {answer : List Byte → State → Answer} (kind : Byte) (only : List Byte → Bool) (length : Nat)
    (ha : ∀ body, EffectKeepsLaws (answer body s) s) : OutcomeLawful (runActing kind only length answer s) :=
  h.runWith (h.takeRequest kind only length ha)

theorem LawfulWith.execFibreLinkDown : OutcomeLawful (execFibreLinkDown s) := by
  unfold Machine.execFibreLinkDown
  split
  · exact outcomeLawful_next (h.same (s := s) rfl)
  · exact h.run h.fibreLinkLost

theorem LawfulWith.execFibreLinkUp : OutcomeLawful (execFibreLinkUp s) := by
  unfold Machine.execFibreLinkUp
  split
  · exact outcomeLawful_next (h.same (s := s) rfl)
  · exact h.run (h.same (s := s) rfl)

/-- Every command keeps the laws. -/
theorem LawfulWith.exec (i : Instr) : OutcomeLawful (exec i s) := by
  cases i with
  | powerOn => exact outcomeLawful_next (lawfulWith_startUp 0 .zero s).closeEvent
  | controlMessageReceived bytes => exact h.runQuiet (h.same (by simp))
  | interByteTimeout => exact h.runQuiet (h.same (by simp))
  | unknownRequest => exact h.runQuiet h.unknownTaken
  | identify => exact h.runRequest _ _ fun _ => .returns _
  | getStatus => exact h.runRequest _ _ fun _ => .returns _
  | setLane => exact h.runActing _ _ _ effectKeepsLaws_setLane
  | getLane => exact h.runRequest _ _ effectKeepsLaws_getLane
  | setClass => exact h.runRequest _ _ effectKeepsLaws_setClass
  | getClass => exact h.runRequest _ _ effectKeepsLaws_getClass
  | setJudge => exact h.runRequest _ _ effectKeepsLaws_setJudge
  | getJudge => exact h.runRequest _ _ effectKeepsLaws_getJudge
  | setDamping => exact h.runActing _ _ _ effectKeepsLaws_setDamping
  | setCarry => exact h.runRequest _ _ effectKeepsLaws_setCarry
  | setModule => exact h.runRequest _ _ effectKeepsLaws_setModule
  | setSupply => exact h.runActing _ _ _ effectKeepsLaws_setSupply
  | start => exact h.runActing _ _ _ effectKeepsLaws_start
  | haltImmediate => exact h.runActing _ _ _ effectKeepsLaws_halt
  | haltAtBoundary => exact h.runActing _ _ _ effectKeepsLaws_halt
  | pin => exact h.runActing _ _ _ effectKeepsLaws_pin
  | handoverNow => exact h.runActing _ _ _ effectKeepsLaws_handoverNow
  | readEvents => exact h.runRequest _ _ fun _ => .returns _
  | clearEvents => exact h.runRequest _ _ effectKeepsLaws_clearEvents
  | setAlert => exact h.runRequest _ _ effectKeepsLaws_setAlert
  | readCounts => exact h.runRequest _ _ effectKeepsLaws_readCounts
  | reset => exact h.runRequest _ _ effectKeepsLaws_reset
  | messageSent => exact h.runQuiet h.headSent
  | homeFrameArrival bytes => exact h.runWith (h.same (by simp))
  | homeLinkChange up => exact outcomeLawful_next (h.same (s := s) rfl)
  | deliveryComplete => exact h.runQuiet (h.same (by simp))
  | frameDepartureComplete bearer => exact h.run (h.completeDeparture bearer)
  | fibreFrameArrival bytes => exact h.run (h.fibreArrival bytes)
  | moduleUnitArrival bytes => exact h.run (h.unitArrival bytes)
  | fibreLinkDown => exact h.execFibreLinkDown
  | fibreLinkUp => exact h.execFibreLinkUp
  | tallyTimerExpiry => exact h.run h.tallyExpires
  | openRetryTimerExpiry => exact h.run h.retryExpires
  | rewindTimerExpiry => exact h.run h.rewindExpires
  | intervalEnd bearer => exact h.run (h.endInterval bearer)
  | probeEntryExpiry bearer tag => exact h.runQuiet (h.same (by simp))
  | decayTick bearer => exact h.run (h.tick levelKeeps_strict bearer)
  | returnHoldExpiry => exact h.run h.holdExpires
  | drainTimerExpiry => exact h.run h.drainExpires
  | powered => exact h.run h.poweredTaken
  | attached => exact h.run h.attachedTaken
  | attachFailed => exact h.run h.attachFailedTaken
  | searchRoundEnd => exact h.run h.roundEnds
  | signalAnswer level => exact h.run (h.signalTaken level)
  | detached => exact h.run h.detachedTaken
  | offAnswer => exact h.run h.offTaken
  | responseTimeout => exact h.run h.responseLate
  | lingerExpiry => exact h.run h.lingerExpires
  | restTimerExpiry => exact h.run h.restExpires
  | pollStartPasses => exact h.run h.pollStarts
  | modReadySeen => exact h.run h.readySeen
  | readyLimitPasses => exact h.run h.readyLate
  | pacingGapEnd => exact h.run h.gapEnds
  | resetNAsserted => exact outcomeLawful_next (h.same (s := s) rfl)

theorem LawfulWith.step : OutcomeLawful (step s) := by
  unfold Machine.step
  split
  · refine outcomeLawful_next ?_
    unfold idle
    split
    · exact h
    · exact h.same (s := s) rfl
  · next c rest _ => exact LawfulWith.exec (h.same (t := { s with pending := rest }) (s := s) rfl) c

end

end

end Sys2Proof.Machine

/-- Settles O59. The laws are kept in the form `LawfulWith`, in which a block's change is worked out before the selector and the
module controller answer it; every command's effect keeps that form. -/
theorem everyStepKeepsTheLaws : Obligations.EveryStepKeepsTheLaws := by
  intro s t hs ht
  exact Sys2Proof.Machine.lawful_iff_lawfulWith.2 ((Sys2Proof.Machine.lawful_iff_lawfulWith.1 hs).step t ht)
end

section
/-! PROOFS. What an arrival comes to: the kinds of carry frames, the screens, and the frames that are taken (R2, R3, R13, R65). -/

namespace Sys2Proof.Machine

/-! ## Codes -/

theorem kindOfCode_code (k : FrameKind) : kindOfCode k.code = some k := by cases k <;> rfl

theorem code_of_kindOfCode {c : Byte} {k : FrameKind} (h : kindOfCode c = some k) : k.code = c := by
  unfold kindOfCode at h
  repeat' split at h
  all_goals cases h
  all_goals exact Eq.symm ‹c = _›

theorem eq_of_code {c : Byte} {k k' : FrameKind} (h : kindOfCode c = some k) (hc : c = k'.code) : k = k' := by
  rw [hc, kindOfCode_code] at h
  exact (Option.some.inj h).symm

/-- The codes of the eight kinds are 1 to 8 (R20). -/
theorem kindOfCode_isSome (c : Byte) : (kindOfCode c).isSome = true ↔ 1 ≤ c.toNat ∧ c.toNat ≤ 8 := by
  constructor
  · intro h
    obtain ⟨k, hk⟩ := Option.isSome_iff_exists.1 h
    rw [← code_of_kindOfCode hk]
    cases k <;> decide
  · rintro ⟨h1, h8⟩
    unfold kindOfCode
    repeat' split
    case isFalse => exfalso; bv_omega
    all_goals rfl

theorem laneOfFrameCode_frameCode (l : Lane) : laneOfFrameCode l.frameCode = l := by cases l <;> rfl

/-! ## Screens (R2, R3, R13) -/

/-- A DATA frame has one of the forms of R3. -/
theorem dataFormOk_iff (f : CarryFrame) : dataFormOk f = true ↔
    (f.void = false ∧ 60 ≤ f.length.toNat ∧ f.length.toNat ≤ 1522 ∧ (f.resent = true → f.seqFlag = true))
      ∨ (f.void = true ∧ f.resent = true ∧ f.seqFlag = true ∧ f.length.toNat = 0) := by
  unfold dataFormOk
  cases f.seqFlag <;> cases f.resent <;> cases f.void <;> simp

theorem length_toNat_eq_zero (f : CarryFrame) : f.length = 0 ↔ f.length.toNat = 0 :=
  ⟨fun h => by simp [h], fun h => BitVec.eq_of_toNat_eq (by simpa using h)⟩

/-- The field screens in the terms of R2 and R3, for a frame of a kind. -/
theorem fieldsOk_iff {f : CarryFrame} {k : FrameKind} (hk : kindOfCode f.kind = some k) :
    fieldsOk f = true ↔ f.version = 1 ∧ (f.bearer = 1 ∨ f.bearer = 2)
      ∧ (k ≠ .data → f.length.toNat = 0) ∧ (k = .data → dataFormOk f = true) := by
  unfold fieldsOk
  rw [hk]
  cases k <;> simp [and_assoc] <;> exact fun _ _ => length_toNat_eq_zero f

/-- The session screens in the terms of R13, by the kind's code. -/
theorem sessionOk_iff (k : FrameKind) (f : CarryFrame) (c : Session) : sessionOk k f c = true ↔
    (3 ≤ k.code.toNat ∧ k.code.toNat ≤ 6 → c.status = .opened ∧ f.epoch = c.epoch)
      ∧ (k.code = 2 → c.status ≠ .closed ∧ f.epoch = c.epoch) ∧ (k.code = 1 → c.status ≠ .closed ∧ f.epoch = 0) := by
  cases k <;> simp [sessionOk, FrameKind.code]

/-! ## Arrivals -/

section
variable {s : State} {i : Instr} {b : Bearer} {f : CarryFrame} {k : FrameKind}

/-- What a port hands over, the receiver takes, and the event ends. -/
theorem exec_of_handsOver {o : Option CarryFrame} (hr : s.resetHeld = false) (h : handsOver i s = some (b, o)) :
    exec i s = .next (finish false s (receive b o s)) := by
  unfold handsOver at h
  split at h
  · next bytes =>
    split at h
    · next hport =>
      split at h
      · cases h
      · next body hbody =>
        split at h
        · next hown =>
          cases h
          have he : fibreArrival bytes s = receive .fibre (readCarry false (body.drop 14)) s := by
            simp [fibreArrival, hport, hbody, hown]
          simp [exec, execFibreFrameArrival, run, runWith, hr, he]
        · cases h
    · cases h
  · next bytes =>
    split at h
    · next hready =>
      cases h
      simp [exec, execModuleUnitArrival, run, runWith, hr, unitArrival, hready]
    · cases h
  · cases h

/-- A frame that passes every screen is taken (R65). -/
theorem exec_of_receives (h : Receives i s b k f) : exec i s = .next (finish false s (takeFrame b k f s)) := by
  obtain ⟨hr, hh, hk, hf, hs⟩ := h
  rw [exec_of_handsOver hr hh]
  simp [receive, hf, hk, hs]

/-- A frame that fails a screen is counted and dropped (R2, R13). -/
theorem receive_of_screened (h : ∀ k, kindOfCode f.kind = some k → fieldsOk f = true → sessionOk k f s.session = false) :
    receive b (some f) s = s.countCarry .upStaleEpoch := by
  unfold receive
  dsimp only
  split
  · next hf =>
    split
    · rfl
    · next k hk => simp [h k hk hf]
  · rfl

end

end Sys2Proof.Machine

open Sys2Proof.Machine in
/-- Settles O40. -/
theorem screensDropFrames : Obligations.ScreensDropFrames := by
  intro s i b f hr hh len form fields session
  have hscreens : fields ∧ session ↔
      ∃ k, kindOfCode f.kind = some k ∧ fieldsOk f = true ∧ sessionOk k f s.session = true := by
    constructor
    · rintro ⟨⟨hv, h1, h8, hb, hlen, hform⟩, hs⟩
      obtain ⟨k, hk⟩ := Option.isSome_iff_exists.1 ((kindOfCode_isSome f.kind).2 ⟨h1, h8⟩)
      refine ⟨k, hk, (fieldsOk_iff hk).2 ⟨hv, hb, fun hd => hlen fun h3 => hd (eq_of_code hk h3),
        fun hd => (dataFormOk_iff f).2 (hform ?_)⟩, ?_⟩
      · rw [← code_of_kindOfCode hk, hd]
        rfl
      · rw [sessionOk_iff, code_of_kindOfCode hk]
        exact hs
    · rintro ⟨k, hk, hf, hs⟩
      obtain ⟨h1, h8⟩ := (kindOfCode_isSome f.kind).1 (by simp [hk])
      obtain ⟨hv, hb, hlen, hform⟩ := (fieldsOk_iff hk).1 hf
      rw [sessionOk_iff, code_of_kindOfCode hk] at hs
      refine ⟨⟨hv, h1, h8, hb, fun hd => hlen ?_, fun h3 => (dataFormOk_iff f).1 (hform (eq_of_code hk h3))⟩, hs⟩
      rintro rfl
      exact hd (code_of_kindOfCode hk).symm
  constructor
  · intro hno
    rw [exec_of_handsOver hr hh, receive_of_screened fun k hk hf => ?_]
    · rfl
    · by_contra hs
      exact hno (hscreens.2 ⟨k, hk, hf, by simpa using hs⟩)
  · intro hyes
    obtain ⟨k, hk, hf, hs⟩ := hscreens.1 hyes
    exact ⟨k, code_of_kindOfCode hk, hr, hh, hk, hf, hs⟩
end

section
/-! PROOFS. What a taken frame of each kind does, and DATA against E (R10, R59, R68 to R72). -/

namespace Sys2Proof.Machine

/-! ## What the receiver takes, kind by kind (R65, R86) -/

section
variable (b : Bearer) (f : CarryFrame) (s : State)

theorem takeFrame_data : takeFrame b .data f s = takeData b f ((s.countCarry .upReceived).setMarks b ⟨0, 0⟩) := by
  simp [takeFrame, FrameKind.countsReceived]

theorem takeFrame_tally :
    takeFrame b .tally f s = readAckIfClear f.ackno ((s.countCarry .upReceived).setMarks b ⟨0, 0⟩) := by
  simp [takeFrame, FrameKind.countsReceived]

theorem takeFrame_probe :
    takeFrame b .probe f s = readProbeAck f ((s.setMarks b ⟨0, 0⟩).addWaiting b (.echo f.tag f.bearer f.epoch)) := by
  simp [takeFrame, FrameKind.countsReceived]

theorem takeFrame_echo : takeFrame b .echo f s = readProbeAck f (matchEcho b f (s.setMarks b ⟨0, 0⟩)) := by
  simp [takeFrame, FrameKind.countsReceived]

theorem takeFrame_opened : takeFrame b .opened f s = takeOpened (s.setMarks b ⟨0, 0⟩) := by
  simp [takeFrame, FrameKind.countsReceived]

theorem takeFrame_opening : takeFrame b .opening f s = restartSession (s.setMarks b ⟨0, 0⟩) := by
  simp [takeFrame, FrameKind.countsReceived]

end

section
variable {s : State} {i : Instr} {b : Bearer} {f : CarryFrame}

/-- DATA is taken in an OPEN session (R13). -/
theorem opened_of_receives_data (h : Receives i s b .data f) : s.session.status = .opened := by
  obtain ⟨-, -, -, -, hs⟩ := h
  simp only [sessionOk, Bool.and_eq_true, beq_iff_eq] at hs
  exact hs.1

theorem classOf_of_eq {q e : Seq} (h : (q - e).toNat = 0) : classOf q e = .inOrder := by
  have : q = e := by bv_omega
  simp [classOf, this]

theorem classOf_of_behind {q e : Seq} (h : 32768 ≤ (q - e).toNat) : classOf q e = .duplicate := by
  have hne : q ≠ e := by
    rintro rfl
    simp at h
  unfold classOf
  rw [if_neg hne, if_neg (by omega)]

/-- In an OPEN session with an active bearer the tally is owed, and its timer starts unless it runs or its TALLY waits (R59). -/
theorem oweTally_eq (hs : s.session.status = .opened) : oweTally s = { s with
    sender := { s.sender with
      tallyOwed := s.sender.tallyOwed || s.active.isSome
      tallyTimer := if s.active.isSome = true ∧ s.sender.tallyTimer = none ∧ tallyWaits s = false then
          some (s.clock + s.carry.tallyDelay * 1000)
        else s.sender.tallyTimer } } := by
  unfold oweTally
  simp only [hs]
  cases ha : s.active <;> simp [State.inMs]

theorem tallyWaits_congr {t : State} (hsel : t.selector = s.selector) (hsn : t.sender = s.sender) :
    tallyWaits t = tallyWaits s := by
  have hw : ∀ b, t.waiting b = s.waiting b := fun b => by cases b <;> simp [State.waiting, hsn]
  simp only [tallyWaits, State.active, hsel, hw]

end

end Sys2Proof.Machine

open Sys2Proof.Machine in
/-- Settles O42. -/
theorem dataIsDeliveredInOrder : Obligations.DataIsDeliveredInOrder := by
  intro s i b f l h hl d up carry taken delivered tallyWaits advanced
  have hlane : laneOfFrameCode f.lane = l := by rw [← hl, laneOfFrameCode_frameCode]
  have htaken : (s.countCarry .upReceived).setMarks b ⟨0, 0⟩ = taken := by cases b <;> rfl
  have hdelivered : handOver l f.payload taken = delivered := by
    unfold handOver
    rfl
  have hkept : taken.receiver.discard = s.receiver.discard ∧ taken.receiver.e = s.receiver.e := by cases b <;> exact ⟨rfl, rfl⟩
  have hkept' : delivered.receiver = taken.receiver := by
    rw [← hdelivered]
    simp
  have hadvanced : ∀ t : State, t.session = s.session → t.sender = s.sender → t.receiver = taken.receiver →
      t.selector = s.selector → t.clock = s.clock → t.carry = s.carry → advanceE t = advanced t := by
    intro t hse hsn hre hsel hcl hca
    have ho := opened_of_receives_data h
    have hw : Sys2Proof.Machine.tallyWaits { t with receiver := { t.receiver with e := t.receiver.e + 1 } } = tallyWaits :=
      tallyWaits_congr (s := s) hsel hsn
    unfold advanceE
    rw [oweTally_eq (by simpa [hse] using ho), hw]
    simp only [advanced, State.active, hsel, hsn, hcl, hca, hre, hkept.2]
    rfl
  obtain ⟨hdiscard, he⟩ := hkept
  rw [exec_of_receives h, takeFrame_data, htaken]
  unfold takeData
  rw [hlane, hdelivered, hdiscard, he]
  refine ⟨fun hq hd => ?_, fun hq hd => ?_, fun hq hd => ?_, fun hq hd h0 => ?_, fun hq hd hbehind => ?_⟩
  · simp [hq, readAckIfClear, hkept', hdiscard, hd]
  · simp [hq, readAckIfClear, hkept', hdiscard, hd]
  · simp only [hq, hd]
    rfl
  · have hrest : delivered.session = s.session ∧ delivered.sender = s.sender ∧ delivered.selector = s.selector
        ∧ delivered.clock = s.clock ∧ delivered.carry = s.carry := by
      rw [← hdelivered]
      simp [taken]
    obtain ⟨hse, hsn, hsel, hcl, hca⟩ := hrest
    have hstub := hadvanced taken rfl rfl rfl rfl rfl rfl
    have hfull := hadvanced delivered hse hsn hkept' hsel hcl hca
    cases hv : f.void <;> simp [hq, hd, classOf_of_eq h0, acceptData, hlane, hdelivered, hv, hstub, hfull]
  · simp [hq, hd, classOf_of_behind hbehind]
    rfl
end

section
/-! PROOFS. PROBE and ECHO (R110 to R112, R131). -/

namespace Sys2Proof.Machine

/-! ## Probes (R110 to R112, R131) -/

theorem fallDue_echo (tag : Byte) (c : BitVec 2) (e : BitVec 16) (waiting : List WaitingFrame) :
    fallDue (.echo tag c e) waiting = waiting.filter (fun w => !w.isEcho) ++ [.echo tag c e] := by
  have hk : ∀ v : WaitingFrame, v.sameKind (.echo tag c e) = v.isEcho := fun v => by cases v <;> rfl
  simp [fallDue, hk, WaitingFrame.isTally]

/-- The step of S toward a sample, in whole numbers (R131). -/
theorem smoothed_some (t sample : Nat) : smoothed (some t) sample =
    if t ≤ sample then t + (sample - t) / 8 else t - (t - sample) / 8 := by
  unfold smoothed
  dsimp only
  split
  · next h =>
    rw [← Int.ofNat_sub h, show (8 : Int) = ((8 : Nat) : Int) from rfl, ← Int.ofNat_tdiv]
    omega
  · next h =>
    have hneg : (sample : Int) - (t : Int) = -((t - sample : Nat) : Int) := by omega
    rw [hneg, Int.neg_tdiv, show (8 : Int) = ((8 : Nat) : Int) from rfl, ← Int.ofNat_tdiv]
    omega

section
variable {s : State} {b : Bearer} {f : CarryFrame}

theorem matchEcho_of_stray (h : f.bearer ≠ bearerFrameCode b ∨ (s.judge b).table.find? (fun e => e.tag == f.tag) = none) :
    matchEcho b f s = s.countProbe b .upStray := by
  unfold matchEcho
  split
  · rfl
  · next e he =>
    obtain hb | hn := h
    · rw [if_pos hb]
    · rw [hn] at he
      cases he

theorem matchEcho_of_entry {e : ProbeEntry} (hb : f.bearer = bearerFrameCode b)
    (he : (s.judge b).table.find? (fun e => e.tag == f.tag) = some e) :
    matchEcho b f s =
      let removed := s.mapJudge b (fun j => { j with table := j.table.filter (fun x => x.tag != f.tag) })
      if e.interval = (s.judge b).count then
        (removed.mapJudge b (fun j =>
          { j with answered := true, srtt := some (smoothed j.srtt (sampleOf s.units e.sent)) })).countProbe b .upAnswered
      else removed.countProbe b .upLate := by
  unfold matchEcho
  rw [he]
  simp [hb]

theorem mapJudge_mapJudge (g h : Judge → Judge) : (s.mapJudge b g).mapJudge b h = s.mapJudge b (fun j => h (g j)) := by
  cases b <;> rfl

end

end Sys2Proof.Machine

open Sys2Proof.Machine in
/-- Settles O46. -/
theorem probesAreAnswered : Obligations.ProbesAreAnswered := by
  intro s i b f e tag reads acked cleared up stray own gone sample smooth
  have hown : own ↔ f.bearer = bearerFrameCode b := by cases b <;> exact Iff.rfl
  have hacked : ∀ t : State, t.session = s.session → t.receiver.discard = s.receiver.discard → readProbeAck f t = acked t := by
    intro t hse hd
    by_cases hreads : reads = true
    · obtain ⟨⟨ho, he⟩, hclear⟩ : (s.session.status = .opened ∧ f.epoch = s.session.epoch) ∧ s.receiver.discard = false := by
        simpa [reads] using hreads
      simp [readProbeAck, readAckIfClear, acked, hreads, hse, hd, ho, he, hclear]
    · have hno : s.session.status = .opened → f.epoch = s.session.epoch → s.receiver.discard = true := by
        simpa [reads] using hreads
      simp only [readProbeAck, readAckIfClear, acked, hreads, hse, hd, if_false, Bool.false_eq_true]
      split
      · next ho => simp [hno ho.1 ho.2]
      · rfl
  have hcleared : cleared.session = s.session ∧ cleared.receiver.discard = s.receiver.discard := by
    cases b <;> exact ⟨rfl, rfl⟩
  obtain ⟨hcs, hcd⟩ := hcleared
  have hjudge : cleared.judge b = s.judge b := by cases b <;> rfl
  have hsmooth : ∀ o : Option Nat, smoothed o (sampleOf cleared.units e.sent) = smooth o := by
    have hu : cleared.units = s.units := by cases b <;> rfl
    rw [hu]
    rintro (_ | t)
    · rfl
    · exact smoothed_some t _
  have hanswer : (fun j => { gone f.tag j with
        answered := true, srtt := some (smoothed (gone f.tag j).srtt (sampleOf cleared.units e.sent)) })
      = fun j => { gone f.tag j with answered := true, srtt := some (smooth j.srtt) } := funext fun j => by rw [hsmooth]
  refine ⟨fun h => ?_, fun h => ?_, fun hr => ⟨fun hn => ?_, fun he => ?_⟩⟩
  · rw [exec_of_receives h, takeFrame_probe, hacked _ (by simp) (by simp), State.addWaiting, fallDue_echo]
    cases b <;> rfl
  · rw [exec_of_receives h, takeFrame_echo, hacked _ (by simp) (by simp)]
    rw [show s.setMarks b ⟨0, 0⟩ = cleared from rfl]
    refine ⟨fun hstray => ?_, fun ho he hlate => ?_, fun ho he hruns => ?_⟩
    · rw [matchEcho_of_stray (hjudge ▸ hstray.imp_left (mt hown.2))]
      rfl
    · rw [matchEcho_of_entry (hown.1 ho) (hjudge ▸ he)]
      dsimp only
      rw [hjudge, if_neg hlate]
      rfl
    · rw [matchEcho_of_entry (hown.1 ho) (hjudge ▸ he)]
      dsimp only
      rw [hjudge, if_pos hruns, mapJudge_mapJudge]
      exact congrArg (fun g => Host.Outcome.next (finish false s (acked ((cleared.mapJudge b g).countProbe b .upAnswered))))
        hanswer
  · simp [exec, execProbeEntryExpiry, runQuiet, hr, expireProbe, hn]
  · have hmoment : s.advanceTo (e.expiry * Sys2Proof.Config.unitMicros) = { s with clock := max s.clock (e.expiry * 100) } := rfl
    have hcount : ProbeCounts.upLost = fun c => { c with lost := up c.lost } := rfl
    simp only [exec, execProbeEntryExpiry, runQuiet, hr, expireProbe, he, hmoment, hcount]
    rfl
end

section
/-! PROOFS. An event reports flags and clears none (R177). -/

namespace Sys2Proof.Machine

/-! ## An event's flags stand (R177)

No effect clears a flag: what is reported in an event stands at its end. -/

/-- Every flag that is set in the one state is set in the other. -/
def FlagsStand (s t : State) : Prop := ∀ k, s.events.flags.getLsbD k = true → t.events.flags.getLsbD k = true

namespace FlagsStand

variable {s t u : State}

theorem refl (s : State) : FlagsStand s s := fun _ h => h
theorem of_eq (h : t.events.flags = s.events.flags) : FlagsStand s t := fun _ hk => by rwa [h]
theorem trans (h : FlagsStand s t) (h' : FlagsStand t u) : FlagsStand s u := fun k hk => h' k (h k hk)

theorem after (h' : FlagsStand t u) (h : FlagsStand s t) : FlagsStand s u := h.trans h'

theorem report (f : EventFlag) (s : State) : FlagsStand s (report f s) := fun k hk => by
  unfold Machine.report
  dsimp only
  split
  · exact hk
  · split <;> simp [hk]

theorem reportIf (c : Bool) (f : EventFlag) (s : State) : FlagsStand s (reportIf c f s) := by
  cases c
  · exact .refl s
  · exact .report f s

theorem closeEvent (s : State) : FlagsStand s (closeEvent s) := .of_eq rfl

/-! The selector and the module controller -/

theorem resetJudge (b : Bearer) (s : State) : FlagsStand s (resetJudge b s) :=
  .after (.reportIf _ _ _) (.of_eq (by simp))

theorem leaveReady (s : State) : FlagsStand s (leaveReady s) :=
  .after (.resetJudge .radio _) (.of_eq (by simp))

theorem enterReleasing (c : ReleaseCause) (s : State) : FlagsStand s (enterReleasing c s) := by
  have hleft : FlagsStand s (if s.radio.status == .ready then Machine.leaveReady s else s) := by
    split
    · exact .leaveReady s
    · exact .refl s
  exact hleft

theorem actOnLevel (s : State) : FlagsStand s (actOnLevel s) := by
  obtain he | ⟨-, he⟩ | ⟨-, -, he | ⟨-, he⟩ | ⟨-, he⟩⟩ := actOnLevel_cases s <;> rw [he]
  · exact .refl s
  · exact .of_eq (by simp)
  · exact .of_eq rfl
  · exact .of_eq rfl
  · exact .enterReleasing _ s

theorem handWanted (s : State) : FlagsStand s (handWanted s) := by
  unfold Machine.handWanted
  split
  · exact .refl s
  · exact .after (.of_eq rfl) (.after (.actOnLevel _) (.of_eq rfl))

theorem makeActive (b : Bearer) (n : Bool) (s : State) : FlagsStand s (makeActive b n s) := by
  unfold Machine.makeActive
  exact .after (.report _ _) (.after (.reportIf n _ _) (.of_eq (by simp)))

theorem switchDrain {hold : State → State} (hh : ∀ s, FlagsStand s (hold s)) (b : Bearer) (o : HandoverOutcome) (s : State) :
    FlagsStand s (switchDrain hold b o s) := by
  unfold Machine.switchDrain completeRecord
  exact .after (.handWanted _) (.after (hh _) (.after (.of_eq rfl) (.after (.makeActive _ _ _) (.of_eq rfl))))

theorem startDrain {hold : State → State} (hh : ∀ s, FlagsStand s (hold s)) (b : Bearer) (s : State) :
    FlagsStand s (startDrain hold b s) := by
  have hbegun : FlagsStand s (Machine.handWanted (enterDrain b s)) := .after (.handWanted _) (.of_eq (by simp))
  unfold Machine.startDrain
  dsimp only
  split
  · exact hbegun.trans (.switchDrain hh _ _ _)
  · exact hbegun

theorem updateHold (s : State) : FlagsStand s (updateHold s) := by
  unfold Machine.updateHold
  split
  · split
    · exact .refl s
    · split
      · exact .startDrain .refl _ _
      · exact .of_eq rfl
  · exact .of_eq rfl

/-! The ports -/

theorem discardHeads (l : Lane) (s : State) : FlagsStand s (discardHeads l s) :=
  .after (.reportIf _ _ _) (.of_eq (by simp))

theorem examineLanes (order : List Lane) (s : State) : FlagsStand s (examineLanes order s).1 := by
  induction order generalizing s with
  | nil => exact .refl s
  | cons l rest ih =>
    have hd := FlagsStand.discardHeads l s
    simp only [Machine.examineLanes]
    split
    · exact hd.trans (ih _)
    · split
      · exact hd.trans (ih _)
      · exact hd.trans (.of_eq (by simp))

theorem dispatch (b : Bearer) (s : State) : FlagsStand s (dispatch b s) := by
  have he := FlagsStand.examineLanes laneOrder s
  unfold Machine.dispatch
  split
  · next h => rwa [h] at he
  · next h =>
    rw [h] at he
    exact he.trans (.of_eq (by simp))

theorem startFrame (b : Bearer) (f : CarryFrame) (s : State) : FlagsStand s (startFrame b f s) := .of_eq (by simp)

theorem passCopy (b : Bearer) (c : Seq) (s : State) : FlagsStand s (passCopy b c s) := by
  unfold Machine.passCopy
  split
  · exact .of_eq rfl
  · next r _ =>
    have hvoided : FlagsStand s (if voidingTest s r then Machine.report .staleVoided (s.countCarry .upVoided) else s) := by
      split
      · exact .after (.report _ _) (.of_eq (by simp))
      · exact .refl s
    dsimp only
    exact .after (.startFrame _ _ _) (.after (.of_eq rfl) hvoided)

theorem nextFrame (o : Bool) (b : Bearer) (s : State) : FlagsStand s (nextFrame o b s) := by
  unfold Machine.nextFrame
  split
  · exact .of_eq (by simp)
  · split
    · exact .of_eq (by simp)
    · split
      · exact .of_eq (by simp)
      · split
        · exact .of_eq (by simp)
        · split
          · split
            · exact .passCopy _ _ _
            · split
              · exact .dispatch _ _
              · exact .refl s
          · exact .refl s

theorem serve (o : Bool) (b : Bearer) (s : State) : FlagsStand s (serve o b s) := by
  unfold Machine.serve
  split
  · refine .after (.nextFrame _ _ _) (.of_eq ?_)
    unfold endPassAt
    split <;> simp
  · exact .refl s

theorem finish (joined : Bool) (before s : State) : FlagsStand s (finish joined before s) :=
  .after (.closeEvent _) (.after (.serve _ _ _) (.serve _ _ _))

end FlagsStand

/-- A reported flag stands (R177). -/
theorem flag_report (f : EventFlag) (s : State) : (report f s).events.flags.getLsbD f.number = true := by
  have hn : f.number < 19 := by cases f <;> decide
  unfold report
  dsimp only
  split
  · next h => exact h
  · split <;> simp [EventFlag.bit, hn]

/-- A change to a bearer reports HANDOVER, which is flag 7 (R140). -/
theorem flag_makeActive (b : Bearer) (n : Bool) (s : State) : (makeActive b n s).events.flags.getLsbD 7 = true :=
  flag_report .handover _

theorem flag_switchDrain (b : Bearer) (o : HandoverOutcome) (s : State) :
    (switchDrain updateHold b o s).events.flags.getLsbD 7 = true := by
  have hrest : FlagsStand (makeActive b.other false { s with selector := { s.selector with drainTimer := none } })
      (switchDrain updateHold b o s) := .after (.handWanted _) (.after (.updateHold _) (.of_eq rfl))
  exact hrest 7 (flag_makeActive _ _ _)

end Sys2Proof.Machine
end

section
/-! PROOFS. What an ackno that is read does (R11, R47, R75, R149). -/

namespace Sys2Proof.Machine

/-! ## Acknos (R47, R75) -/

section
variable {s : State} {a : Seq}

theorem readAck_of_invalid (h : s.sender.ackValid a = false) : readAck a s = s.countCarry .upAckInvalid := by
  have happlied : applyAck a s = s.countCarry .upAckInvalid := by simp [applyAck, h]
  unfold readAck
  rw [happlied]
  cases hs : s.sender.store <;> simp [hs]

/-- The cursor stays at a record that is held, and else moves to the oldest record left (R99). -/
theorem correctedCursor_some (c : Seq) (store : List StoreRecord) : correctedCursor (some c) store =
    if c ∈ store.map StoreRecord.seq then some c else (store.map StoreRecord.seq).head? := by
  simp [correctedCursor, List.any_eq_true]

/-- The state whose records a valid ackno has released (R47). -/
def released (a : Seq) (s : State) : State := { s with sender := s.sender.release a }

theorem readAck_of_valid (h : s.sender.ackValid a = true) : readAck a s =
    if s.sender.store ≠ [] ∧ (s.sender.release a).store = [] then drainEmptied (released a s) else released a s := by
  have happlied : applyAck a s = released a s := by simp [applyAck, h, released]
  unfold readAck
  rw [happlied]
  simp [released]

theorem drainEmptied_of_not_draining (h : s.draining = false) : drainEmptied s = s := by
  unfold drainEmptied
  split
  · next hs => simp [State.draining, hs] at h
  · rfl

/-- Where the return hold cannot turn a drain back at once, working it out writes the hold timer alone (R145). -/
theorem updateHold_writes_timer (h : s.carry.returnHold ≠ 0 ∨ s.selector.status ≠ .on .radio ∨ s.selector.pin ≠ .auto) :
    ∃ t, updateHold s = { s with selector := { s.selector with holdTimer := t } } := by
  unfold updateHold
  split
  · next hw =>
    split
    · exact ⟨s.selector.holdTimer, rfl⟩
    · split
      · next h0 =>
        simp only [holdWanted, Bool.and_eq_true, beq_iff_eq] at hw
        simp_all
      · exact ⟨_, rfl⟩
  · exact ⟨none, rfl⟩

/-- A drain that switches is on its target, with the outcome in its record, where no return hold of 0 s turns it back (R149). -/
theorem switchDrain_takes {source : Bearer} {o : HandoverOutcome}
    (h : s.carry.returnHold ≠ 0 ∨ source = .radio ∨ s.selector.pin ≠ .auto) :
    let t := switchDrain updateHold source o s
    t.selector.status = .on source.other ∧ t.selector.drainTimer = none ∧ t.pause.selector = false
      ∧ t.selector.record = s.selector.record.map (fun r => { r with outcome := some o }) := by
  set x := completeRecord o (makeActive source.other false { s with selector := { s.selector with drainTimer := none } }) with hx
  have hstays : x.carry.returnHold ≠ 0 ∨ x.selector.status ≠ .on .radio ∨ x.selector.pin ≠ .auto := by
    have hc : x.carry = s.carry := by simp [hx]
    have hp : x.selector.pin = s.selector.pin := by simp [hx]
    have hs : x.selector.status = .on source.other := by simp [hx]
    rw [hc, hp, hs]
    obtain h | rfl | h := h
    · exact .inl h
    · exact .inr (.inl (by simp [Bearer.other]))
    · exact .inr (.inr h)
  obtain ⟨timer, ht⟩ := updateHold_writes_timer hstays
  have hswitch : switchDrain updateHold source o s = handWanted { x with selector := { x.selector with holdTimer := timer } } := by
    rw [← ht]
    rfl
  rw [hswitch]
  simp [hx, completeRecord]

end

/-- The end of an event keeps what the ports' service does not write. -/
@[simp] theorem finish_keeps (joined : Bool) (before s : State) :
    (finish joined before s).selector = s.selector ∧ (finish joined before s).receiver = s.receiver
      ∧ (finish joined before s).home = s.home ∧ (finish joined before s).session = s.session
      ∧ (finish joined before s).clock = s.clock ∧ (finish joined before s).pause.session = s.pause.session
      ∧ (finish joined before s).pause.selector = s.pause.selector := by simp [finish]

end Sys2Proof.Machine

open Sys2Proof.Machine in
/-- Settles O43. -/
theorem acknosReleaseRecords : Obligations.AcknosReleaseRecords := by
  intro s i b source f h oldest acked valid kept marks carry up taken
  have htaken : (s.countCarry .upReceived).setMarks b ⟨0, 0⟩ = taken := by cases b <;> rfl
  have hsender : taken.sender = s.sender := rfl
  have hdiscard : taken.receiver.discard = s.receiver.discard := by cases b <;> rfl
  have hvalid : taken.sender.ackValid f.ackno = true ↔ valid := by
    rw [hsender]
    exact decide_eq_true_iff
  rw [exec_of_receives h, takeFrame_tally, htaken]
  unfold readAckIfClear
  rw [hdiscard]
  have hstore : (taken.sender.release f.ackno).store = kept := rfl
  have hreleased : released f.ackno taken = { taken with sender := { s.sender with
      store := kept
      cursor := match s.sender.cursor with
        | none => none
        | some c => if c ∈ kept.map StoreRecord.seq then some c else (kept.map StoreRecord.seq).head? } } := by
    have hcursor : (taken.sender.release f.ackno).cursor = correctedCursor s.sender.cursor kept := rfl
    have heta : taken.sender.release f.ackno = { s.sender with
        store := kept, cursor := (taken.sender.release f.ackno).cursor } := rfl
    unfold released
    rw [heta, hcursor]
    cases s.sender.cursor with
    | none => rfl
    | some c => rw [correctedCursor_some]
  refine ⟨fun hd => ?_, fun hd hv => ?_, fun hd hv hstays => ?_, fun hd hv hs hne hk hhold => ?_⟩
  · rw [if_pos hd]
  · rw [if_neg (by simp [hd]), readAck_of_invalid (Bool.eq_false_iff.2 (mt hvalid.1 hv))]
    rfl
  · rw [if_neg (by simp [hd]), readAck_of_valid (hvalid.2 hv)]
    refine Eq.trans ?_ (congrArg (fun t => Host.Outcome.next (finish false s t)) hreleased)
    rw [hsender, hstore]
    split
    · next hempty =>
      rw [drainEmptied_of_not_draining]
      obtain hn | hn | hn := hstays
      · exact hn
      · exact absurd hn hempty.1
      · exact absurd hempty.2 hn
    · rfl
  · rw [if_neg (by simp [hd]), readAck_of_valid (hvalid.2 hv), if_pos ⟨hne, hk⟩]
    have hdrained : drainEmptied (released f.ackno taken) = switchDrain updateHold source .emptied (released f.ackno taken) := by
      unfold drainEmptied
      simp [released, taken, hs]
    obtain ⟨hon, htimer, -, hrecord⟩ := switchDrain_takes (s := released f.ackno taken) (o := .emptied) hhold
    have hsame : (released f.ackno taken).selector = s.selector ∧ (released f.ackno taken).receiver.e = s.receiver.e
        ∧ (released f.ackno taken).home = s.home := by cases b <;> exact ⟨rfl, rfl, rfl⟩
    obtain ⟨hsel, he, hhome⟩ := hsame
    rw [hsel] at hrecord
    rw [hdrained]
    exact ⟨_, rfl, by simpa using hon, by simpa using htimer, by simpa using hrecord,
      FlagsStand.finish _ _ _ 7 (flag_switchDrain _ _ _), by simpa using he, by simpa using hhome⟩
end

section
/-! PROOFS. The service of the ports while a session opens (R31, R55). -/

namespace Sys2Proof.Machine

/-! ## The ports while a session opens

Outside OPEN no DATA leaves. With no stream to start and no record to send again, the service of a port sends at most the waiting
frame that fell due first. -/

/-- Nothing but waiting frames can leave: no stream is asked for or has a mark left, the pass has no record left, and the session
holds DATA back (R31, R55). -/
structure Quiet (s : State) : Prop where
  rewind : s.sender.rewindPending = false
  announce : s.sender.announcePending = false
  cursor : s.sender.cursor = none
  session : s.pause.session = true
  stream : ∀ b, streamOn s b = none

section
variable {s : State} {b c : Bearer}

theorem endPassAt_cases (b : Bearer) (s : State) :
    endPassAt b s = s ∨ (s.active = some b ∧ endPassAt b s = abandonPass s) := by
  unfold endPassAt
  split
  · next h =>
    simp only [Bool.and_eq_true, beq_iff_eq] at h
    exact .inr ⟨h.1.1, rfl⟩
  · exact .inl rfl

@[simp] theorem waiting_endPassAt (b c : Bearer) (s : State) : (endPassAt b s).waiting c = s.waiting c := by
  obtain h | ⟨-, h⟩ := endPassAt_cases b s <;> rw [h]
  cases c <;> rfl

@[simp] theorem leaving_endPassAt (b c : Bearer) (s : State) : (endPassAt b s).leaving c = s.leaving c := by
  obtain h | ⟨-, h⟩ := endPassAt_cases b s <;> rw [h]
  cases c <;> rfl

theorem Quiet.endPassAt (h : Quiet s) (b : Bearer) : Quiet (endPassAt b s) := by
  obtain he | ⟨-, he⟩ := endPassAt_cases b s <;> rw [he]
  · exact h
  · exact ⟨h.rewind, rfl, rfl, h.session, h.stream⟩

theorem Quiet.nextFrame (h : Quiet s) (o : Bool) (b : Bearer) : nextFrame o b s =
    match s.waiting b with
    | w :: rest => startWaiting b w rest s
    | [] => s := by
  unfold Machine.nextFrame
  simp only [h.stream, h.rewind, h.announce, h.cursor, Pause.any, h.session]
  cases s.waiting b <;> simp

/-- The service of a port leaves all as it is, ends a pass, or sends the first waiting frame. -/
theorem Quiet.serve_cases (h : Quiet s) (o : Bool) (b : Bearer) :
    serve o b s = s
      ∨ (s.portFree b = true ∧ serve o b s = Machine.endPassAt b s)
      ∨ (s.portFree b = true ∧ ∃ w rest, s.waiting b = w :: rest ∧ serve o b s = startWaiting b w rest (Machine.endPassAt b s)) := by
  unfold serve
  split
  · next hf =>
    dsimp only
    rw [(h.endPassAt b).nextFrame, waiting_endPassAt]
    cases hw : s.waiting b with
    | nil => exact .inr (.inl ⟨hf, rfl⟩)
    | cons w rest => exact .inr (.inr ⟨hf, w, rest, rfl, rfl⟩)
  · exact .inl rfl

/-! What the service of a port keeps -/

theorem tallyOwed_startWaiting (w : WaitingFrame) (rest : List WaitingFrame) (h : s.sender.tallyOwed = false) :
    (startWaiting b w rest s).sender.tallyOwed = false := by
  have hs : (startFrame b (w.frame b s) (s.setWaiting b rest)).sender.tallyOwed = false := by
    unfold startFrame settleTally
    split
    · rfl
    · simpa using h
  unfold startWaiting
  dsimp only
  split
  · simpa using hs
  · exact hs

theorem portFree_eq_false_of_leaving (h : (s.leaving b).isSome = true) : s.portFree b = false := by
  cases b <;> simp_all [State.portFree, State.leaving, ← Option.not_isSome]

theorem leaving_startFrame (f : CarryFrame) :
    (startFrame b f s).leaving b = some ⟨f, wireOf b f s, false⟩ ∧ (startFrame b f s).leaving b.other = s.leaving b.other := by
  unfold startFrame settleTally
  split <;> cases b <;> exact ⟨rfl, rfl⟩

theorem leaving_startWaiting (w : WaitingFrame) (rest : List WaitingFrame) :
    (startWaiting b w rest s).leaving b
        = some ⟨w.frame b s, wireOf b (w.frame b s) (s.setWaiting b rest), false⟩
      ∧ (startWaiting b w rest s).leaving b.other = s.leaving b.other := by
  have hset : ∀ c, (s.setWaiting b rest).leaving c = s.leaving c := fun c => by cases b <;> cases c <;> rfl
  have hentry : ∀ tag n (t : State) c, (createEntry b tag n t).leaving c = t.leaving c := fun tag n t c => by
    cases c <;> simp [State.leaving]
  obtain ⟨hb, ho⟩ := leaving_startFrame (s := s.setWaiting b rest) (b := b) (w.frame b s)
  unfold startWaiting
  dsimp only
  split
  · rw [hentry, hentry, ho, hset]
    exact ⟨hb, rfl⟩
  · rw [ho, hset]
    exact ⟨hb, rfl⟩

/-- A waiting frame that is no TALLY goes on waiting when another one starts. -/
theorem mem_waiting_startWaiting {w v : WaitingFrame} {rest : List WaitingFrame} (hv : v.isTally = false)
    (hrest : v ∈ (s.setWaiting b rest).waiting c) : v ∈ (startWaiting b w rest s).waiting c := by
  have hport : ∀ (l : Leaving) (t : State), (putOnPort b l t).waiting c = t.waiting c := fun l t => by
    cases b <;> cases c <;> rfl
  have hclear : ∀ t : State, v ∈ t.waiting c → v ∈ (clearTally t).waiting c := fun t ht => by
    cases c <;> simp_all [State.waiting, clearTally, State.keepWaiting]
  have hstarted : v ∈ (startFrame b (w.frame b s) (s.setWaiting b rest)).waiting c := by
    unfold startFrame settleTally
    split
    · exact hclear _ (by rwa [hport])
    · rwa [hport]
  have hentry : ∀ tag n (t : State), (createEntry b tag n t).waiting c = t.waiting c := fun tag n t => by
    cases c <;> simp [State.waiting]
  unfold startWaiting
  dsimp only
  split
  · rwa [hentry]
  · exact hstarted

end

end Sys2Proof.Machine
end

section
/-! PROOFS. What a restart stops, and what it leaves of the part (R18, R19). -/

namespace Sys2Proof.Machine

/-! ## What a restart stops (R19, R85, R101) -/

section
variable {s t u : State} {b : Bearer}

theorem streamStops_of_none (h : s.sender.stream = none) :
    (streamStops s).sender.stream = none ∧ (streamStops s).pause.stream = false := by
  simp [streamStops, h]

theorem streamStops_of_free {m : MarkStream} (h : s.sender.stream = some m) (hl : s.leaving m.bearer = none) :
    (streamStops s).sender.stream = none ∧ (streamStops s).pause.stream = false := by
  simp [streamStops, endStreamOn, h, hl]

theorem streamStops_of_leaving {m : MarkStream} (h : s.sender.stream = some m) (hl : (s.leaving m.bearer).isSome = true) :
    (streamStops s).sender.stream = some { m with stopping := true } ∧ (streamStops s).pause.stream = s.pause.stream := by
  simp [streamStops, h, hl]

theorem streamStops_keeps (s : State) :
    (streamStops s).selector = s.selector ∧ (streamStops s).fibre = s.fibre ∧ (streamStops s).radio = s.radio
      ∧ (streamStops s).sender.pass = s.sender.pass ∧ (streamStops s).sender.cursor = s.sender.cursor
      ∧ (streamStops s).pause.pass = s.pause.pass := by
  unfold streamStops
  split
  · split <;> simp
  · simp

theorem leaving_of_ports (hf : t.fibre = s.fibre) (hr : t.radio = s.radio) (c : Bearer) : t.leaving c = s.leaving c := by
  cases c <;> simp [State.leaving, hf, hr]

/-- The stream's part of a restart is the whole of what it does to the stream. -/
theorem stopAtBoundary_stream (s : State) :
    (stopAtBoundary s).sender.stream = (streamStops s).sender.stream
      ∧ (stopAtBoundary s).pause.stream = (streamStops s).pause.stream
      ∧ (stopAtBoundary s).sender.rewindPending = false ∧ (stopAtBoundary s).sender.announcePending = false := by
  rw [stopAtBoundary_eq]
  unfold passStops
  split
  · split <;> exact ⟨rfl, rfl, rfl, rfl⟩
  · exact ⟨rfl, rfl, rfl, rfl⟩

theorem stopAtBoundary_cursor (h : s.sender.cursor = none) : (stopAtBoundary s).sender.cursor = none := by
  obtain ⟨-, -, -, -, hcursor, -⟩ := streamStops_keeps s
  rw [stopAtBoundary_eq]
  unfold passStops
  split
  · split
    · exact hcursor.trans h
    · rfl
  · rfl

theorem stopAtBoundary_of_free (h : ∀ c, s.active = some c → s.leaving c = none) :
    (stopAtBoundary s).sender.pass = .none ∧ (stopAtBoundary s).pause.pass = false := by
  obtain ⟨hsel, hf, hr, -⟩ := streamStops_keeps s
  rw [stopAtBoundary_eq]
  unfold passStops
  split
  · next a ha =>
    have hl : (requestsDropped (streamStops s)).leaving a = none :=
      (leaving_of_ports (s := s) hf hr a).trans (h a (by rw [← ha, State.active, State.active, ← hsel]; rfl))
    rw [hl]
    exact ⟨rfl, rfl⟩
  · exact ⟨rfl, rfl⟩

theorem stopAtBoundary_of_leaving {a : Bearer} (ha : s.active = some a) (hl : (s.leaving a).isSome = true)
    (hp : s.sender.pass ≠ .none) :
    (stopAtBoundary s).sender.pass = s.sender.pass ∧ (stopAtBoundary s).sender.passStopping = true
      ∧ (stopAtBoundary s).pause.pass = s.pause.pass := by
  obtain ⟨hsel, hf, hr, hpass, -, hpause⟩ := streamStops_keeps s
  have hactive : (requestsDropped (streamStops s)).active = some a := by
    rw [← ha, State.active, State.active, ← hsel]
    rfl
  have hleaving : ((requestsDropped (streamStops s)).leaving a).isSome = true := by
    exact (congrArg Option.isSome (leaving_of_ports (s := s) hf hr a)).trans hl
  have hrunning : (requestsDropped (streamStops s)).sender.pass = s.sender.pass := hpass
  rw [stopAtBoundary_eq]
  unfold passStops
  simp only [hactive, hleaving, hrunning]
  simp [hp, hpause, hpass, requestsDropped]

/-! ## The part after a restart (R18) -/

/-- What a restart leaves for good: N, the store, the receiver, the count of what was lost, and the session's new epoch. -/
def restartedView (t : State) : Seq × List StoreRecord × Receiver × Nat × SessionStatus × BitVec 16 × Lanes :=
  (t.sender.n, t.sender.store, t.receiver, t.counts.carry.lostOnRestart, t.session.status, t.session.epoch, t.lanes)

/-- The state after a restart of `s`, until the new session opens. -/
structure Restarted (s t : State) : Prop where
  view : restartedView t = (1, [], Receiver.atReset, min (s.counts.carry.lostOnRestart + s.sender.store.length) 4294967295,
    .opening, nextEpoch s.session.epoch, s.lanes)
  quiet : Quiet t
  flag : t.events.flags.getLsbD 11 = true
  tally : t.sender.tallyOwed = false

theorem Restarted.of_step (h : Restarted s t) (hv : restartedView u = restartedView t) (hq : Quiet u)
    (hf : FlagsStand t u) (ht : u.sender.tallyOwed = false) : Restarted s u :=
  ⟨hv.trans h.view, hq, hf 11 h.flag, ht⟩

theorem Restarted.status (h : Restarted s t) : t.session.status = .opening := by
  have hv := h.view
  simp only [restartedView, Prod.mk.injEq] at hv
  exact hv.2.2.2.2.1

theorem Restarted.store (h : Restarted s t) : t.sender.store = [] := by
  have hv := h.view
  simp only [restartedView, Prod.mk.injEq] at hv
  exact hv.2.1

theorem streamOn_of_none (h : s.sender.stream = none) (b : Bearer) : streamOn s b = none := by simp [streamOn, h]

theorem Quiet.of_fields (h : Quiet s) (hr : t.sender.rewindPending = s.sender.rewindPending)
    (ha : t.sender.announcePending = s.sender.announcePending) (hc : t.sender.cursor = s.sender.cursor)
    (hp : t.pause.session = s.pause.session) (hs : t.sender.stream = s.sender.stream ∨ t.sender.stream = none) : Quiet t := by
  refine ⟨hr.trans h.rewind, ha.trans h.announce, hc.trans h.cursor, hp.trans h.session, fun b => ?_⟩
  obtain hs | hs := hs
  · rw [← h.stream b, streamOn, streamOn, hs]
  · exact streamOn_of_none hs b

/-- A restart up to the OPEN: the store is empty, the receiver fresh, and nothing but waiting frames can leave. -/
theorem restartOpening_restarted (s : State) : Restarted s (restartOpening s) := by
  obtain ⟨hstream, -, hrewind, hannounce⟩ := stopAtBoundary_stream (clearTally (restartFresh s))
  refine ⟨?_, ⟨hrewind, hannounce, ?_, rfl, fun b => ?_⟩, ?_, ?_⟩
  · simp [restartedView, restartOpening, restartFresh, enterOpening, CarryCounts.upLostOnRestart, countUpBy, State.countCarry,
      Config.countMax]
  · exact stopAtBoundary_cursor (by simp [restartFresh])
  · have hs : (restartOpening s).sender.stream = (streamStops (clearTally (restartFresh s))).sender.stream := hstream
    rw [streamOn, hs]
    cases hm : (clearTally (restartFresh s)).sender.stream with
    | none => simp [streamStops_of_none hm]
    | some m =>
      cases hl : (clearTally (restartFresh s)).leaving m.bearer with
      | none => simp [streamStops_of_free hm hl]
      | some l => simp [streamStops_of_leaving hm (by simp [hl])]
  · have hf : (report .peerRestart s).events.flags.getLsbD 11 = true := flag_report .peerRestart s
    simpa [restartOpening, restartFresh, enterOpening] using hf
  · simp [restartOpening, restartFresh, enterOpening, clearTally]

end

end Sys2Proof.Machine
end

section
/-! PROOFS. The OPEN of a restart through the selector's actions (R14, R15, R152). -/

namespace Sys2Proof.Machine

/-! ## The OPEN of a restart (R14, R15) -/

section
variable {s t u : State} {b : Bearer}

/-- The OPEN of the session's epoch waits on the active bearer, and the retry timer has been started with it (R15). -/
structure OpenSent (t : State) : Prop where
  waits : ∀ a, t.active = some a → .opening t.session.epoch ∈ t.waiting a
  retry : t.session.retry = if t.active.isSome then some (t.clock + 1000000) else none

theorem OpenSent.of_fields (h : OpenSent t) (ha : u.active = t.active) (hs : u.session = t.session) (hc : u.clock = t.clock)
    (hw : ∀ a, t.active = some a → u.waiting a = t.waiting a) : OpenSent u := by
  refine ⟨fun a hu => ?_, by rw [ha, hs, hc]; exact h.retry⟩
  rw [ha] at hu
  rw [hs, hw a hu]
  exact h.waits a hu

theorem mem_waiting_sendOpen (b : Bearer) (s : State) : .opening s.session.epoch ∈ (sendOpen b s).waiting b := by
  cases b <;> simp [sendOpen, State.addWaiting, State.setWaiting, State.waiting, fallDue, WaitingFrame.isTally]

theorem openSent_sendOpen (h : s.active = some b) : OpenSent (sendOpen b s) := by
  have ha : (sendOpen b s).active = some b := by simpa [State.active] using h
  refine ⟨fun a hb => ?_, ?_⟩
  · obtain rfl : b = a := Option.some.inj (ha.symm.trans hb)
    simpa using mem_waiting_sendOpen b s
  · rw [ha]
    simp [sendOpen, Config.retryMicros]

theorem OpenSent.report (h : OpenSent t) (f : EventFlag) : OpenSent (report f t) :=
  h.of_fields (by simp [State.active]) (by simp) (by simp) fun a _ => by cases a <;> simp [State.waiting]

theorem OpenSent.reportIf (h : OpenSent t) (c : Bool) (f : EventFlag) : OpenSent (reportIf c f t) := by
  cases c
  · exact h
  · exact h.report f

/-! A restart's state through the selector's actions -/

theorem Restarted.sendOpen (h : Restarted s t) (b : Bearer) : Restarted s (sendOpen b t) :=
  h.of_step (by simp [restartedView]) (h.quiet.of_fields (by simp) (by simp) (by simp) (by simp) (by simp))
    (.of_eq (by simp)) (by simpa using h.tally)

theorem makeActive_of_opening (hs : s.session.status = .opening) (n : Bool) : makeActive b n s =
    report .handover (reportIf n .outageEnd (sendOpen b (endActive { s with
      selector := { s.selector with status := .on b }
      pause := { s.pause with selector := false } }))) := by
  simp [makeActive, sessionOn, hs]

theorem Restarted.makeActive (h : Restarted s t) (b : Bearer) (n : Bool) : Restarted s (makeActive b n t) := by
  have hended : Restarted s (endActive { t with
      selector := { t.selector with status := .on b }
      pause := { t.pause with selector := false } }) := by
    exact h.of_step rfl ⟨rfl, rfl, rfl, h.quiet.session, streamOn_of_none rfl⟩ (.of_eq rfl) rfl
  have hsent := hended.sendOpen b
  rw [makeActive_of_opening h.status]
  refine hsent.of_step ?_ ?_ (.after (.report _ _) (.reportIf _ _ _)) ?_
  · simp [restartedView]
  · exact hsent.quiet.of_fields (by simp) (by simp) (by simp) (by simp) (by simp)
  · simp

theorem openSent_makeActive (hs : s.session.status = .opening) (n : Bool) : OpenSent (makeActive b n s) := by
  rw [makeActive_of_opening hs]
  exact ((openSent_sendOpen (by simp [State.active, SelectorStatus.active])).reportIf _ _).report _

/-- The selector may write its own state while the part restarts. -/
theorem Restarted.withSelector (h : Restarted s t) (x : Selector) : Restarted s { t with selector := x } :=
  h.of_step rfl (h.quiet.of_fields rfl rfl rfl rfl (.inl rfl)) (.of_eq rfl) h.tally

theorem Restarted.withPause (h : Restarted s t) (x : Selector) (v : Bool) :
    Restarted s { t with selector := x, pause := { t.pause with selector := v } } :=
  h.of_step rfl (h.quiet.of_fields rfl rfl rfl rfl (.inl rfl)) (.of_eq rfl) h.tally

theorem stream_closePort (b : Bearer) (t : State) :
    (closePort b t).sender.stream = t.sender.stream ∨ (closePort b t).sender.stream = none := by
  have hs : (t.setWaiting b []).sender.stream = t.sender.stream := by cases b <;> rfl
  unfold closePort endStreamOn
  split
  · split
    · exact .inr rfl
    · exact .inl hs
  · exact .inl hs

/-- A release closes the module port alone: a stream there ends, and what waits on the fibre goes on waiting (R162). -/
theorem enterReleasing_ports (c : ReleaseCause) (t : State) :
    ((enterReleasing c t).sender.stream = t.sender.stream ∨ (enterReleasing c t).sender.stream = none)
      ∧ (enterReleasing c t).waiting .fibre = t.waiting .fibre := by
  have hclosed := stream_closePort .radio t
  have hwaits : (closePort .radio t).waiting .fibre = t.waiting .fibre := by
    unfold closePort endStreamOn
    split
    · split <;> rfl
    · rfl
  have hleft : (leaveReady t).sender = (closePort .radio t).sender := by simp [leaveReady, resetJudge]
  unfold enterReleasing
  split
  · rw [← hwaits]
    exact ⟨by simpa [sendCommand, hleft] using hclosed, by simp [State.waiting, sendCommand, hleft]⟩
  · exact ⟨.inl rfl, rfl⟩

/-- A level that is handed over ends at most a stream, and touches what waits on the radio only where the level is NONE. -/
theorem handWanted_ports (t : State) :
    ((handWanted t).sender.stream = t.sender.stream ∨ (handWanted t).sender.stream = none)
      ∧ (handWanted t).waiting .fibre = t.waiting .fibre
      ∧ (wantedLevel t ≠ .none → (handWanted t).waiting .radio = t.waiting .radio) := by
  unfold handWanted
  split
  · exact ⟨.inl rfl, rfl, fun _ => rfl⟩
  · set given : State := { t with
      selector := { t.selector with wanted := wantedLevel t }
      radio := { t.radio with wantedHeld := wantedLevel t } } with hg
    change ((actOnLevel given).sender.stream = given.sender.stream ∨ (actOnLevel given).sender.stream = none)
      ∧ (actOnLevel given).waiting .fibre = given.waiting .fibre
      ∧ (wantedLevel t ≠ .none → (actOnLevel given).waiting .radio = given.waiting .radio)
    obtain he | ⟨-, he⟩ | ⟨-, -, he | ⟨-, he⟩ | ⟨hw, he⟩⟩ := actOnLevel_cases given <;> rw [he]
    · exact ⟨.inl rfl, rfl, fun _ => rfl⟩
    · exact ⟨.inl rfl, rfl, fun _ => rfl⟩
    · exact ⟨.inl rfl, rfl, fun _ => rfl⟩
    · exact ⟨.inl rfl, rfl, fun _ => rfl⟩
    · obtain ⟨hs, hf⟩ := enterReleasing_ports .linger given
      exact ⟨hs, hf, fun hn => absurd hw hn⟩

theorem Restarted.handWanted (h : Restarted s t) : Restarted s (handWanted t) := by
  obtain ⟨hs, -⟩ := handWanted_ports t
  exact h.of_step (by simp [restartedView]) (h.quiet.of_fields (by simp) (by simp) (by simp) (by simp) hs) (.handWanted t)
    (by simpa using h.tally)

/-- On the radio the level is ACTIVE, so that an OPEN that waits there stays (R155). -/
theorem OpenSent.handWanted (h : OpenSent t) : OpenSent (handWanted t) := by
  obtain ⟨-, hf, hr⟩ := handWanted_ports t
  refine h.of_fields (by simp [State.active]) (by simp) (by simp) fun a ha => ?_
  cases a with
  | fibre => exact hf
  | radio =>
    refine hr ?_
    unfold wantedLevel
    cases hs : t.selector.status <;> simp_all [State.active, SelectorStatus.active]

/-- The part after a restart, with its OPEN on the way. -/
structure Reopened (s t : State) : Prop extends Restarted s t where
  sent : OpenSent t

theorem Reopened.handWanted (h : Reopened s t) : Reopened s (handWanted t) := ⟨h.toRestarted.handWanted, h.sent.handWanted⟩

theorem Reopened.withRecord (h : Reopened s t) (d k : Timer) (r : Option HandoverRecord) :
    Reopened s { t with selector := { t.selector with drainTimer := d, holdTimer := k, record := r } } :=
  ⟨h.toRestarted.withSelector _, h.sent.of_fields rfl rfl rfl fun a _ => by cases a <;> rfl⟩

theorem Restarted.switchDrain {hold : State → State} (hh : ∀ x, Reopened s x → Reopened s (hold x)) (h : Restarted s t)
    (source : Bearer) (o : HandoverOutcome) : Reopened s (switchDrain hold source o t) := by
  have hstopped := h.withSelector { t.selector with drainTimer := none }
  have hactive : Reopened s (Machine.makeActive source.other false { t with selector := { t.selector with drainTimer := none } }) :=
    ⟨hstopped.makeActive _ _, openSent_makeActive hstopped.status _⟩
  exact (hh _ (hactive.withRecord _ _ _)).handWanted

theorem Reopened.updateHold (h : Reopened s t) : Reopened s (updateHold t) := by
  unfold Machine.updateHold
  split
  · split
    · exact h
    · split
      · have hbegun : Restarted s (Machine.handWanted (enterDrain .radio t)) :=
          (h.toRestarted.withPause (enterDrain .radio t).selector true).handWanted
        unfold startDrain
        dsimp only
        rw [hbegun.store]
        exact hbegun.switchDrain (fun _ hx => hx) _ _
      · exact h.withRecord _ _ _
  · exact h.withRecord _ _ _

theorem selector_restartOpening (s : State) : (restartOpening s).selector = s.selector := by
  simp [restartOpening, restartFresh, enterOpening]

/-- A restart request taken: the part restarts, and its OPEN is on the way (R14, R18, R152). -/
theorem restartSession_reopened (s : State) : Reopened s (restartSession s) := by
  have hopening := restartOpening_restarted s
  rw [restartSession_eq]
  split
  · next source hs =>
    unfold drainEmptied
    rw [hs]
    exact hopening.switchDrain (fun _ hx => hx.updateHold) _ _
  · next b hs => exact ⟨hopening.sendOpen b, openSent_sendOpen (by simp [State.active, hs, SelectorStatus.active])⟩
  · next hd ho =>
    have ha : (restartOpening s).active = none := by
      unfold State.active
      cases hs : (restartOpening s).selector.status with
      | stopped => rfl
      | outage => rfl
      | on b => exact absurd hs (ho b)
      | draining b => exact absurd hs (hd b)
    exact ⟨hopening, by simp [ha], by rw [ha]; rfl⟩

end

end Sys2Proof.Machine
end

section
/-! PROOFS. OPENED, and a restart to the end of its event (R16, R18). -/

namespace Sys2Proof.Machine

/-! ## The end of a restart's event -/

section
variable {s t : State} {b : Bearer}

theorem Quiet.serve (h : Quiet t) (o : Bool) (b : Bearer) : Quiet (serve o b t) := by
  obtain he | ⟨-, he⟩ | ⟨-, w, rest, -, he⟩ := h.serve_cases o b <;> rw [he]
  · exact h
  · exact h.endPassAt b
  · exact (h.endPassAt b).of_fields (by simp) (by simp) (by simp) (by simp) (by simp)

theorem Restarted.serve (h : Restarted s t) (o : Bool) (b : Bearer) : Restarted s (serve o b t) := by
  have hended : restartedView (endPassAt b t) = restartedView t ∧ (endPassAt b t).events = t.events
      ∧ (endPassAt b t).sender.tallyOwed = t.sender.tallyOwed := by
    obtain he | ⟨-, he⟩ := endPassAt_cases b t <;> rw [he] <;> exact ⟨rfl, rfl, rfl⟩
  obtain ⟨hv, hevents, htally⟩ := hended
  have hq := h.quiet.serve o b
  obtain he | ⟨-, he⟩ | ⟨-, w, rest, -, he⟩ := h.quiet.serve_cases o b <;> rw [he] at hq ⊢
  · exact h
  · exact h.of_step hv hq (.of_eq (congrArg EventUnit.flags hevents)) (htally.trans h.tally)
  · refine h.of_step (Eq.trans ?_ hv) hq (.of_eq ?_) (tallyOwed_startWaiting w rest (htally.trans h.tally))
    · simp [restartedView]
    · simp

theorem Restarted.finish (h : Restarted s t) (joined : Bool) (before : State) : Restarted s (finish joined before t) := by
  have hserved := (h.serve (opportunityAfter joined before t) .fibre).serve (opportunityAfter joined before t) .radio
  exact hserved.of_step rfl (hserved.quiet.of_fields rfl rfl rfl rfl (.inl rfl)) (.of_eq rfl) hserved.tally

/-- A frame that is leaving goes on leaving while ports are served. -/
theorem Quiet.leaving_serve (h : Quiet t) (o : Bool) (b : Bearer) {c : Bearer} (hl : (t.leaving c).isSome = true) :
    (Machine.serve o b t).leaving c = t.leaving c := by
  obtain he | ⟨-, he⟩ | ⟨hfree, w, rest, -, he⟩ := h.serve_cases o b <;> rw [he]
  · exact leaving_endPassAt b c t
  · obtain rfl | rfl := eq_or_eq_other b c
    · simp [portFree_eq_false_of_leaving hl] at hfree
    · rw [(leaving_startWaiting w rest).2, leaving_endPassAt]

/-- An OPEN that is due goes on waiting, or starts to leave. -/
theorem OpenDueOn.serve {a : Bearer} (hq : Quiet t) (h : OpenDueOn a t) (o : Bool) (b : Bearer) :
    OpenDueOn a (Machine.serve o b t) := by
  have hepoch : (Machine.serve o b t).session = t.session := by simp
  unfold OpenDueOn
  rw [hepoch]
  obtain hw | ⟨l, hl, hkind⟩ := h
  · obtain he | ⟨-, he⟩ | ⟨hfree, w, rest, hwaiting, he⟩ := hq.serve_cases o b <;> rw [he]
    · exact .inl hw
    · exact .inl (by simpa using hw)
    · obtain rfl | rfl := eq_or_eq_other b a
      · rw [hwaiting, List.mem_cons] at hw
        obtain rfl | hrest := hw
        · exact .inr ⟨_, (leaving_startWaiting _ _).1, rfl, rfl⟩
        · refine .inl (mem_waiting_startWaiting rfl ?_)
          cases a <;> exact hrest
      · refine .inl (mem_waiting_startWaiting rfl ?_)
        have hother : ((Machine.endPassAt b t).setWaiting b rest).waiting b.other = (Machine.endPassAt b t).waiting b.other := by
          cases b <;> rfl
        rw [hother, waiting_endPassAt]
        exact hw
  · refine .inr ⟨l, ?_, hkind⟩
    rw [Option.mem_def] at hl ⊢
    rw [hq.leaving_serve o b (by simp [hl]), hl]

theorem Reopened.openDueOn_finish (h : Reopened s t) (joined : Bool) (before : State) {a : Bearer}
    (ha : t.active = some a) : OpenDueOn a (Machine.finish joined before t) := by
  have hdue : OpenDueOn a t := .inl (h.sent.waits a ha)
  have hf := hdue.serve h.quiet (opportunityAfter joined before t) .fibre
  have hr := hf.serve (h.toRestarted.serve _ .fibre).quiet (opportunityAfter joined before t) .radio
  obtain hw | hl := hr
  · exact .inl (by cases a <;> exact hw)
  · exact .inr (by cases a <;> exact hl)

/-! Where a restart leaves the selector -/

theorem active_switchDrain {hold : State → State} (hh : ∀ x : State, x.active.isSome = true → (hold x).active.isSome = true)
    (source : Bearer) (o : HandoverOutcome) (t : State) : (switchDrain hold source o t).active.isSome = true := by
  have hkept : ∀ x : State, (handWanted x).active = x.active := fun x => by simp [State.active]
  unfold switchDrain
  rw [hkept]
  exact hh _ (by simp [State.active, completeRecord, SelectorStatus.active])

theorem active_updateHold (h : t.active.isSome = true) : (updateHold t).active.isSome = true := by
  unfold updateHold
  split
  · split
    · exact h
    · split
      · unfold startDrain
        dsimp only
        split
        · exact active_switchDrain (fun _ hx => hx) _ _ _
        · simp [State.active, SelectorStatus.active]
      · exact h
  · exact h

/-- A restart outside a drain leaves the selector as it is; in a drain it switches the drain (R152). -/
theorem restartSession_of_draining {source : Bearer} (h : t.selector.status = .draining source) :
    restartSession t = switchDrain updateHold source .emptied (restartOpening t) := by
  have hs : (restartOpening t).selector.status = .draining source := by rw [selector_restartOpening, h]
  rw [restartSession_eq]
  simp [hs, drainEmptied]

theorem selector_restartSession (h : t.draining = false) : (restartSession t).selector = t.selector := by
  rw [restartSession_eq, ← selector_restartOpening t]
  split
  · next source hs =>
    rw [selector_restartOpening] at hs
    simp [State.draining, hs] at h
  · simp
  · rfl

theorem active_restartSession (t : State) : (restartSession t).active.isSome = t.active.isSome := by
  cases hd : t.draining with
  | false => simp [State.active, selector_restartSession hd]
  | true =>
    unfold State.draining at hd
    split at hd
    · next source hs =>
      rw [restartSession_of_draining hs, active_switchDrain fun _ hx => active_updateHold hx]
      simp [State.active, hs, SelectorStatus.active]
    · cases hd

end

end Sys2Proof.Machine

open Sys2Proof.Machine in
/-- Settles O45. -/
theorem sessionOpensAndRestarts : Obligations.SessionOpensAndRestarts := by
  intro s i b source f marks
  have hmarks : s.setMarks b ⟨0, 0⟩ = { s with receiver := marks } := by cases b <;> rfl
  refine ⟨fun h => ?_, fun h => ?_⟩
  · rw [exec_of_receives h, takeFrame_opened, hmarks]
    refine ⟨fun ho => ?_, fun ho => ?_⟩
    · simp [takeOpened, ho]
    · simp only [takeOpened, ho, if_true]
      rfl
  · rw [exec_of_receives h, takeFrame_opening, hmarks]
    set x : State := { s with receiver := marks } with hx
    have hreopened := restartSession_reopened x
    have hdone := hreopened.toRestarted.finish false s
    have hsel : (finish false s (restartSession x)).selector = (restartSession x).selector := by simp
    obtain ⟨hv, hq, hflag, htally⟩ := hdone
    simp only [restartedView, Prod.mk.injEq] at hv
    obtain ⟨hn, hstore, hrec, hlost, hstatus, hepoch, hlanes⟩ := hv
    refine ⟨_, rfl, hstore, hn, hrec, hlost, hflag, hq.session, htally, hstatus, hepoch, ?_, ?_, ?_, ?_, hlanes, by simp [hx]⟩
    · have hretry := hreopened.sent.retry
      have hactive : x.active = s.active := rfl
      have hclock : (restartSession x).clock = s.clock := by simp [hx]
      rw [active_restartSession, hactive, hclock] at hretry
      simpa using hretry
    · intro a ha
      exact hreopened.openDueOn_finish false s (by simpa [State.active] using ha)
    · intro hd
      exact hsel.trans (selector_restartSession (t := x) hd)
    · intro hs hhold
      rw [hsel, (finish_keeps false s (restartSession x)).2.2.2.2.2.2]
      rw [restartSession_of_draining (t := x) hs]
      have hcarry : (restartOpening x).carry = s.carry := by simp [hx, restartOpening, restartFresh, enterOpening]
      obtain ⟨hon, htimer, hpause, hrecord⟩ := switchDrain_takes (s := restartOpening x) (source := source) (o := .emptied)
        (by rw [selector_restartOpening, hcarry]; exact hhold)
      rw [selector_restartOpening] at hrecord
      exact ⟨hon, htimer, hpause, hrecord, FlagsStand.finish _ _ _ 7 (flag_switchDrain _ _ _)⟩
end

section
/-! PROOFS. Streams and passes that stand stopping (R19, R40). -/

namespace Sys2Proof.Machine

/-! ## What stands stopping at the end of a restart's event (R19, R40) -/

section
variable {s t : State} {b : Bearer}

theorem Quiet.stream_serve (h : Quiet t) (o : Bool) (b : Bearer) :
    (Machine.serve o b t).sender.stream = t.sender.stream ∧ (Machine.serve o b t).pause.stream = t.pause.stream := by
  have hended : (Machine.endPassAt b t).sender.stream = t.sender.stream ∧ (Machine.endPassAt b t).pause.stream = t.pause.stream := by
    obtain he | ⟨-, he⟩ := endPassAt_cases b t <;> rw [he] <;> exact ⟨rfl, rfl⟩
  obtain he | ⟨-, he⟩ | ⟨-, w, rest, -, he⟩ := h.serve_cases o b <;> rw [he]
  · exact ⟨rfl, rfl⟩
  · exact hended
  · simp

/-- No pass can end at a port: there is none, or a frame is leaving the active bearer. -/
def PassRests (t : State) : Prop := t.sender.pass = .none ∨ ∃ a, t.active = some a ∧ (t.leaving a).isSome = true

theorem PassRests.endPassAt (h : PassRests t) (hf : t.portFree b = true) : endPassAt b t = t := by
  unfold Machine.endPassAt
  obtain hp | ⟨a, ha, hl⟩ := h
  · simp [hp]
  · have hne : a ≠ b := by
      rintro rfl
      simp [portFree_eq_false_of_leaving hl] at hf
    simp [ha, hne]

theorem PassRests.serve (h : PassRests t) (hq : Quiet t) (o : Bool) (b : Bearer) :
    (serve o b t).sender.pass = t.sender.pass ∧ (serve o b t).sender.passStopping = t.sender.passStopping
      ∧ (serve o b t).pause.pass = t.pause.pass ∧ PassRests (serve o b t) := by
  have hrests : (Machine.serve o b t).sender.pass = t.sender.pass → PassRests (Machine.serve o b t) := fun hp => by
    obtain hn | ⟨a, ha, hl⟩ := h
    · exact .inl (hp.trans hn)
    · refine .inr ⟨a, by simpa [State.active] using ha, ?_⟩
      rw [hq.leaving_serve o b hl]
      exact hl
  have hkept : (Machine.serve o b t).sender.pass = t.sender.pass
      ∧ (Machine.serve o b t).sender.passStopping = t.sender.passStopping
      ∧ (Machine.serve o b t).pause.pass = t.pause.pass := by
    obtain he | ⟨hf, he⟩ | ⟨hf, w, rest, -, he⟩ := hq.serve_cases o b <;> rw [he]
    · exact ⟨rfl, rfl, rfl⟩
    · rw [h.endPassAt hf]
      exact ⟨rfl, rfl, rfl⟩
    · rw [h.endPassAt hf]
      simp
  exact ⟨hkept.1, hkept.2.1, hkept.2.2, hrests hkept.1⟩

theorem Quiet.stream_finish (h : Quiet t) (joined : Bool) (before : State) :
    (finish joined before t).sender.stream = t.sender.stream ∧ (finish joined before t).pause.stream = t.pause.stream := by
  obtain ⟨hf, hfp⟩ := h.stream_serve (opportunityAfter joined before t) .fibre
  obtain ⟨hr, hrp⟩ := (h.serve (opportunityAfter joined before t) .fibre).stream_serve (opportunityAfter joined before t) .radio
  exact ⟨hr.trans hf, hrp.trans hfp⟩

theorem PassRests.finish (h : PassRests t) (hq : Quiet t) (joined : Bool) (before : State) :
    (finish joined before t).sender.pass = t.sender.pass ∧ (finish joined before t).sender.passStopping = t.sender.passStopping
      ∧ (finish joined before t).pause.pass = t.pause.pass := by
  obtain ⟨hf, hfs, hfp, hrests⟩ := h.serve hq (opportunityAfter joined before t) .fibre
  obtain ⟨hr, hrs, hrp, -⟩ := hrests.serve (hq.serve _ .fibre) (opportunityAfter joined before t) .radio
  exact ⟨hr.trans hf, hrs.trans hfs, hrp.trans hfp⟩

/-- A restart outside a drain does to stream and pass what stops them, and no more. -/
theorem restartSession_stops (h : t.draining = false) :
    (restartSession t).pause = { (stopAtBoundary (clearTally (restartFresh t))).pause with session := true }
      ∧ (restartSession t).sender.stream = (stopAtBoundary (clearTally (restartFresh t))).sender.stream
      ∧ (restartSession t).sender.pass = (stopAtBoundary (clearTally (restartFresh t))).sender.pass
      ∧ (restartSession t).sender.passStopping = (stopAtBoundary (clearTally (restartFresh t))).sender.passStopping := by
  rw [restartSession_eq]
  split
  · next source hs =>
    rw [selector_restartOpening] at hs
    simp [State.draining, hs] at h
  · simp only [sendOpen_frame]
    exact ⟨rfl, rfl, rfl, rfl⟩
  · exact ⟨rfl, rfl, rfl, rfl⟩

theorem restartFresh_keeps (t : State) :
    (clearTally (restartFresh t)).sender.stream = t.sender.stream ∧ (clearTally (restartFresh t)).sender.pass = t.sender.pass
      ∧ (clearTally (restartFresh t)).pause = t.pause ∧ (clearTally (restartFresh t)).active = t.active
      ∧ ∀ c, (clearTally (restartFresh t)).leaving c = t.leaving c := by
  refine ⟨by simp [restartFresh], by simp [restartFresh], by simp [restartFresh], by simp [restartFresh, State.active],
    leaving_of_ports (by simp [restartFresh]) (by simp [restartFresh])⟩

/-! ## A frame boundary of what stands stopping -/

/-- The stream on a bearer ends, where there is one (R19). -/
def streamEnded (b : Bearer) (t : State) : State :=
  let ends := t.sender.stream.any fun n => n.bearer == b
  { t with
    sender := { t.sender with stream := if ends then none else t.sender.stream }
    pause := { t.pause with stream := if ends then false else t.pause.stream } }

theorem streamBoundary_of_stopping (reoffer : Bool) (h : ∀ n ∈ t.sender.stream, n.bearer = b → n.stopping = true) :
    (if reoffer && !t.sender.stream.any MarkStream.stopping then t else streamBoundary b t) = streamEnded b t := by
  have hother : (t.sender.stream.any fun n => n.bearer == b) = false → streamEnded b t = t := fun ha => by
    unfold streamEnded
    rw [ha]
    rfl
  cases hm : t.sender.stream with
  | none => simp [streamBoundary, hm, hother]
  | some m =>
    by_cases hb : m.bearer = b
    · have hs : m.stopping = true := h m hm hb
      simp [streamBoundary, streamEnded, endStreamOn, hm, hb, hs]
    · simp [streamBoundary, hm, hb, hother]

/-- A frame boundary where the stream on the bearer is stopping, if there is one: it ends without count, and so does a pass that
is stopping on the active bearer (R19, R40). -/
theorem atBoundary_of_stopping (reoffer : Bool) (h : ∀ n ∈ t.sender.stream, n.bearer = b → n.stopping = true) :
    atBoundary b reoffer t =
      let streamEnds := t.sender.stream.any fun n => n.bearer == b
      let passEnds := t.sender.passStopping && t.active == some b
      { t with
        sender := { t.sender with
          stream := if streamEnds then none else t.sender.stream
          pass := if passEnds then .none else t.sender.pass
          cursor := if passEnds then none else t.sender.cursor
          announcePending := if passEnds then false else t.sender.announcePending
          passStopping := if passEnds then false else t.sender.passStopping }
        pause := { t.pause with
          stream := if streamEnds then false else t.pause.stream
          pass := if passEnds then false else t.pause.pass } } := by
  unfold atBoundary
  rw [streamBoundary_of_stopping reoffer h]
  have hactive : (streamEnded b t).active = t.active := rfl
  have hstopping : (streamEnded b t).sender.passStopping = t.sender.passStopping := rfl
  unfold passBoundary
  rw [hactive, hstopping]
  cases t.sender.passStopping && t.active == some b <;> rfl

end

end Sys2Proof.Machine

open Sys2Proof.Machine in
/-- Settles O28. -/
theorem stoppedStreamsAndPassesEnd : Obligations.StoppedStreamsAndPassesEnd := by
  intro s i a b f l m
  refine ⟨fun h hd => ?_, ?_⟩
  · rw [exec_of_receives h, takeFrame_opening]
    set x : State := s.setMarks b ⟨0, 0⟩ with hx
    have hxs : x.sender = s.sender ∧ x.pause = s.pause ∧ x.active = s.active ∧ x.draining = s.draining
        ∧ ∀ c, x.leaving c = s.leaving c := by
      refine ⟨by simp [hx], by simp [hx], by simp [hx, State.active], by simp [hx, State.draining],
        leaving_of_ports (by simp [hx]) (by simp [hx])⟩
    obtain ⟨hxsender, hxpause, hxactive, hxdraining, hxleaving⟩ := hxs
    obtain ⟨hfstream, hfpass, hfpause, hfactive, hfleaving⟩ := restartFresh_keeps x
    obtain ⟨hpause, hstream, hpass, hstopping⟩ := restartSession_stops (t := x) (hxdraining.trans hd)
    set y : State := clearTally (restartFresh x)
    obtain ⟨hystream, hypause, -, -⟩ := stopAtBoundary_stream y
    have hquiet := (restartSession_reopened x).quiet
    obtain ⟨htstream, htpause⟩ := hquiet.stream_finish false s
    have hstreamIs : y.sender.stream = s.sender.stream := hfstream.trans (congrArg Sender.stream hxsender)
    have hpassIs : y.sender.pass = s.sender.pass := hfpass.trans (congrArg Sender.pass hxsender)
    have hpauseIs : y.pause = s.pause := hfpause.trans hxpause
    have hactiveIs : y.active = s.active := hfactive.trans hxactive
    have hleavingIs : ∀ c, y.leaving c = s.leaving c := fun c => (hfleaving c).trans (hxleaving c)
    rw [hstream, hystream] at htstream
    rw [hpause, hypause] at htpause
    refine ⟨_, rfl, fun hn => ?_, fun hm hl => ?_, fun hm hl => ?_, fun hfree => ?_, fun ha hl hp => ?_⟩
    · rw [htstream, htpause]
      exact streamStops_of_none (hstreamIs.trans hn)
    · rw [htstream, htpause]
      exact streamStops_of_free (hstreamIs.trans hm) ((hleavingIs _).trans hl)
    · rw [htstream, htpause, ← hpauseIs]
      exact streamStops_of_leaving (hstreamIs.trans hm) ((congrArg Option.isSome (hleavingIs _)).trans hl)
    · obtain ⟨hends, hlifts⟩ := stopAtBoundary_of_free (s := y) fun c hc => (hleavingIs c).trans (hfree c (hactiveIs ▸ hc))
      obtain ⟨htpass, -, htpasspause⟩ := PassRests.finish (.inl (hpass.trans hends)) hquiet false s
      rw [htpass, htpasspause, hpass, hpause]
      exact ⟨hends, hlifts⟩
    · obtain ⟨hkeeps, hstops, hreason⟩ := stopAtBoundary_of_leaving (hactiveIs.trans ha)
        ((congrArg Option.isSome (hleavingIs a)).trans hl) (by rw [hpassIs]; exact hp)
      have hrests : PassRests (restartSession x) := by
        have hactive : (restartSession x).active = s.active := by
          rw [State.active, selector_restartSession (hxdraining.trans hd)]
          exact hxactive
        have hleaves : (restartSession x).leaving a = x.leaving a := by cases a <;> simp [State.leaving]
        exact .inr ⟨a, hactive.trans ha, by rw [hleaves, hxleaving]; exact hl⟩
      obtain ⟨htpass, htstopping, htpasspause⟩ := hrests.finish hquiet false s
      rw [htpass, htstopping, htpasspause, hpass, hstopping, hpause]
      exact ⟨hkeeps.trans hpassIs, hstops, hreason.trans (congrArg Pause.pass hpauseIs)⟩
  · intro hr hl hstops hany counted streamEnds passEnds
    have hcounted : counted.sender = s.sender ∧ counted.pause = s.pause ∧ counted.active = s.active := by
      simp only [counted]
      split <;> simp [State.active]
    obtain ⟨hsender, hpause, hactive⟩ := hcounted
    have hdeparted : completeDeparture b s = atBoundary b l.reoffer counted := by
      simp only [completeDeparture, hl]
      rfl
    have hexec : exec (.frameDepartureComplete b) s = .next (finish false s (atBoundary b l.reoffer counted)) := by
      simp [exec, execFrameDepartureComplete, run, runWith, hr, hdeparted]
    rw [hexec, atBoundary_of_stopping l.reoffer (by rwa [hsender])]
    simp only [hsender, hpause, hactive]
    rfl
end

section
/-! PROOFS. Numbers in bytes, written and read. -/

namespace Sys2Proof.Machine

/-! ## Numbers in bytes, written and read

A number read where its bytes stand is the number that was written, and the bytes of a number that was read are the bytes read. -/

theorem extractLsb'_append_low {m n : Nat} (x : BitVec m) (y : BitVec n) : (x ++ y).extractLsb' 0 n = y := by
  apply BitVec.eq_of_getLsbD_eq
  intro i hi
  simp [BitVec.getLsbD_append, hi]

/-- The upper part of a number put together of two. -/
theorem extractLsb'_append_high {m n : Nat} (x : BitVec m) (y : BitVec n) (start len : Nat) :
    (x ++ y).extractLsb' (start + n) len = x.extractLsb' start len := by
  apply BitVec.eq_of_getLsbD_eq
  intro i hi
  have h : ¬ start + n + i < n := by omega
  have hsub : start + n + i - n = start + i := by omega
  simp [BitVec.getLsbD_append, hi, h, hsub]

theorem append_extractLsb' {k m n : Nat} (w : BitVec k) (start : Nat) :
    w.extractLsb' (start + n) m ++ w.extractLsb' start n = w.extractLsb' start (m + n) := by
  apply BitVec.eq_of_getLsbD_eq
  intro i hi
  simp only [BitVec.getLsbD_append, BitVec.getLsbD_extractLsb']
  by_cases h : i < n
  · simp [h, hi]
  · have hadd : start + n + (i - n) = start + i := by omega
    have hlt : i - n < m := by omega
    simp [h, hi, hadd, hlt]

theorem extractLsb'_all {n : Nat} (w : BitVec n) : w.extractLsb' 0 n = w := by
  apply BitVec.eq_of_getLsbD_eq
  intro i hi
  simp [hi]

/-- A number is its upper part before its lowest byte. -/
theorem append_byte_eq_iff {n : Nat} {x : BitVec n} {b : Byte} {w : BitVec (n + 8)} :
    x ++ b = w ↔ x = w.extractLsb' 8 n ∧ b = w.extractLsb' 0 8 := by
  constructor
  · rintro rfl
    have hx : (x ++ b).extractLsb' 8 n = x := by
      have h := extractLsb'_append_high x b 0 n
      rw [Nat.zero_add] at h
      rw [h, extractLsb'_all]
    exact ⟨hx.symm, (extractLsb'_append_low x b).symm⟩
  · rintro ⟨rfl, rfl⟩
    have h := append_extractLsb' (m := n) (n := 8) w 0
    rw [Nat.zero_add] at h
    rw [h, extractLsb'_all]

theorem extractLsb'_extractLsb' {k m : Nat} (w : BitVec k) {start i len : Nat} (h : i + len ≤ m) :
    (w.extractLsb' start m).extractLsb' i len = w.extractLsb' (start + i) len := by
  apply BitVec.eq_of_getLsbD_eq
  intro j hj
  have hlt : i + j < m := by omega
  simp [hj, hlt, Nat.add_assoc]

section
variable (bs : List Byte) (i : Nat)

theorem word16At_eq_iff (w : BitVec 16) : word16At bs i = w ↔
    byteAt bs i = w.extractLsb' 8 8 ∧ byteAt bs (i + 1) = w.extractLsb' 0 8 := append_byte_eq_iff

theorem word32At_eq_iff (w : BitVec 32) : word32At bs i = w ↔
    byteAt bs i = w.extractLsb' 24 8 ∧ byteAt bs (i + 1) = w.extractLsb' 16 8 ∧ byteAt bs (i + 2) = w.extractLsb' 8 8
      ∧ byteAt bs (i + 3) = w.extractLsb' 0 8 := by
  unfold word32At
  rw [append_byte_eq_iff (n := 24), append_byte_eq_iff (n := 16), append_byte_eq_iff (n := 8)]
  simp [extractLsb'_extractLsb', and_assoc]

/-- The check's bytes stand in the order of R6. -/
theorem checkAt_eq_iff (w : BitVec 32) : checkAt bs i = w ↔
    [byteAt bs i, byteAt bs (i + 1), byteAt bs (i + 2), byteAt bs (i + 3)] = bytesOfCheck w := by
  unfold checkAt bytesOfCheck
  rw [append_byte_eq_iff (n := 24), append_byte_eq_iff (n := 16), append_byte_eq_iff (n := 8)]
  simp only [List.cons.injEq, and_true, extractLsb'_extractLsb', Nat.reduceLeDiff, Nat.reduceAdd]
  tauto

theorem addressAt_eq_iff (a : Address) : addressAt bs i = a ↔
    byteAt bs i = a.extractLsb' 40 8 ∧ byteAt bs (i + 1) = a.extractLsb' 32 8 ∧ byteAt bs (i + 2) = a.extractLsb' 24 8
      ∧ byteAt bs (i + 3) = a.extractLsb' 16 8 ∧ byteAt bs (i + 4) = a.extractLsb' 8 8
      ∧ byteAt bs (i + 5) = a.extractLsb' 0 8 := by
  unfold addressAt
  rw [append_byte_eq_iff (n := 40), append_byte_eq_iff (n := 32), append_byte_eq_iff (n := 24), append_byte_eq_iff (n := 16),
    append_byte_eq_iff (n := 8)]
  simp [extractLsb'_extractLsb', and_assoc]

end

/-! Bytes within longer runs of bytes -/

theorem byteAt_append_right (a b : List Byte) (i : Nat) : byteAt (a ++ b) (a.length + i) = byteAt b i := by
  simp [byteAt, List.getD_eq_getElem?_getD, List.getElem?_append_right]

theorem byteAt_take {a : List Byte} {n i : Nat} (h : i < n) : byteAt (a.take n) i = byteAt a i := by
  simp [byteAt, List.getD_eq_getElem?_getD, h]

end Sys2Proof.Machine
end

section
/-! PROOFS. The carry frame, written and read (R6, R7, R20). -/

namespace Sys2Proof.Machine

/-! ## The header of a carry frame, read (R20) -/

theorem word16At_bytesOf16 (w : BitVec 16) (a b : List Byte) : word16At (a ++ bytesOf16 w ++ b) a.length = w := by
  rw [word16At_eq_iff, List.append_assoc, byteAt_append_right, ← Nat.add_zero a.length, byteAt_append_right]
  exact ⟨rfl, rfl⟩

section
variable (f : CarryFrame) (x : List Byte)

theorem header_length : f.header.length = 12 := rfl

theorem header_length_field : word16At (f.header ++ x) 10 = f.length :=
  word16At_bytesOf16 f.length ([f.version, f.kind, f.flagByte, f.tag] ++ bytesOf16 f.epoch ++ bytesOf16 f.seq ++ bytesOf16 f.ackno) x

theorem header_epoch : word16At (f.header ++ x) 4 = f.epoch :=
  word16At_bytesOf16 f.epoch [f.version, f.kind, f.flagByte, f.tag] _

theorem header_seq : word16At (f.header ++ x) 6 = f.seq :=
  word16At_bytesOf16 f.seq ([f.version, f.kind, f.flagByte, f.tag] ++ bytesOf16 f.epoch) _

theorem header_ackno : word16At (f.header ++ x) 8 = f.ackno :=
  word16At_bytesOf16 f.ackno ([f.version, f.kind, f.flagByte, f.tag] ++ bytesOf16 f.epoch ++ bytesOf16 f.seq) _

/-- The fields of byte 2 stand where R20 puts them. -/
theorem flagByte_fields : f.flagByte.extractLsb' 6 2 = f.lane ∧ f.flagByte.getLsbD 5 = f.seqFlag
    ∧ f.flagByte.getLsbD 4 = f.resent ∧ f.flagByte.getLsbD 3 = f.void ∧ f.flagByte.extractLsb' 0 2 = f.bearer := by
  unfold CarryFrame.flagByte
  generalize f.lane = l
  generalize f.bearer = b
  cases f.seqFlag <;> cases f.resent <;> cases f.void <;> revert l b <;> decide

end

/-! ## The carry frame, read back (R6, R7, R20) -/

section
variable {f : CarryFrame} {exact : Bool} {received padding x : List Byte} {size : Nat}

theorem encodeCarry_eq (f : CarryFrame) :
    encodeCarry f = f.header ++ (f.payload ++ bytesOfCheck (checkOf (f.header ++ f.payload))) := List.append_assoc _ _ _

theorem encodeCarry_length (f : CarryFrame) : (encodeCarry f).length = 16 + f.payload.length := by
  simp [encodeCarry, header_length, bytesOfCheck]
  omega

/-- A frame that is too long by its length field, or whose size does not fit its length field, fails (R7). -/
theorem readCarry_of_wrong_size
    (h : 1522 < f.length.toNat ∨ 12 + x.length < 16 + f.length.toNat ∨ exact = true ∧ 12 + x.length ≠ 16 + f.length.toNat) :
    readCarry exact (f.header ++ x) = none := by
  unfold readCarry
  simp only [header_length_field, List.length_append, header_length]
  refine if_pos ?_
  rcases h with h | h | ⟨rfl, h⟩ <;> simp [h]

/-- Four bytes where a check stands are read as the check that they are sent as. -/
theorem checkAt_append_eq_iff {a r : List Byte} (hr : r.length = 4) (w : BitVec 32) :
    checkAt (a ++ (r ++ x)) a.length = w ↔ r = bytesOfCheck w := by
  obtain ⟨b0, b1, b2, b3, rfl⟩ : ∃ b0 b1 b2 b3, r = [b0, b1, b2, b3] := by
    match r, hr with
    | [b0, b1, b2, b3], _ => exact ⟨b0, b1, b2, b3, rfl⟩
  have h0 := byteAt_append_right a ([b0, b1, b2, b3] ++ x) 0
  rw [Nat.add_zero] at h0
  rw [checkAt_eq_iff, h0, byteAt_append_right, byteAt_append_right, byteAt_append_right]
  rfl

/-- A frame of the right size is read back when the four bytes after its payload are its check, and fails else. -/
theorem readCarry_of_right_size (hlen : f.length.toNat = f.payload.length) (hmax : f.payload.length ≤ 1522)
    (hr : received.length = 4) (hpad : exact = true → padding = []) :
    readCarry exact (f.header ++ (f.payload ++ (received ++ padding)))
      = if received = bytesOfCheck (checkOf (f.header ++ f.payload)) then some f else none := by
  obtain ⟨hlane, hseq, hresent, hvoid, hbearer⟩ := flagByte_fields f
  have hsize : ¬((decide ((f.header ++ (f.payload ++ (received ++ padding))).length < 16) || decide (1522 < f.payload.length)
      || decide ((f.header ++ (f.payload ++ (received ++ padding))).length < 16 + f.payload.length)
      || (exact && decide ((f.header ++ (f.payload ++ (received ++ padding))).length ≠ 16 + f.payload.length))) = true) := by
    have hfit : exact = true → padding.length = 0 := fun h => by rw [hpad h]; rfl
    simp only [List.length_append, header_length, hr, Bool.or_eq_true, Bool.and_eq_true, decide_eq_true_eq]
    rintro (((h | h) | h) | ⟨he, h⟩)
    · omega
    · omega
    · omega
    · have := hfit he
      omega
  have htake : (f.header ++ (f.payload ++ (received ++ padding))).take (12 + f.payload.length) = f.header ++ f.payload := by
    rw [← List.append_assoc]
    exact List.take_left' (by simp [header_length])
  have hdrop : ((f.header ++ (f.payload ++ (received ++ padding))).drop 12).take f.payload.length = f.payload := by
    rw [List.drop_left' (header_length f)]
    exact List.take_left
  have hcheck : checkAt (f.header ++ (f.payload ++ (received ++ padding))) (12 + f.payload.length)
      = checkOf (f.header ++ f.payload) ↔ received = bytesOfCheck (checkOf (f.header ++ f.payload)) := by
    have h := checkAt_append_eq_iff (x := padding) (a := f.header ++ f.payload) hr (checkOf (f.header ++ f.payload))
    rwa [List.length_append, header_length, List.append_assoc] at h
  have hbyte : byteAt (f.header ++ (f.payload ++ (received ++ padding))) 2 = f.flagByte := rfl
  unfold readCarry
  simp only [header_length_field, header_epoch, header_seq, header_ackno, hlen, htake, hdrop]
  rw [if_neg hsize]
  simp only [eq_comm (a := checkOf (f.header ++ f.payload)), hcheck, hbyte, hlane, hseq, hresent, hvoid, hbearer]
  rfl

theorem readCarry_encodeCarry (exact : Bool) (hlen : f.length.toNat = f.payload.length) (hmax : f.payload.length ≤ 1522) :
    readCarry exact (encodeCarry f) = some f := by
  have h := readCarry_of_right_size (exact := exact) (padding := []) (received := bytesOfCheck (checkOf (f.header ++ f.payload)))
    hlen hmax rfl fun _ => rfl
  rwa [List.append_nil, if_pos rfl, ← encodeCarry_eq] at h

/-- On the fibre port what follows the check is padding (R7). -/
theorem readCarry_encodeCarry_padded (padding : List Byte) (hlen : f.length.toNat = f.payload.length)
    (hmax : f.payload.length ≤ 1522) : readCarry false (encodeCarry f ++ padding) = some f := by
  have h := readCarry_of_right_size (exact := false) (padding := padding)
    (received := bytesOfCheck (checkOf (f.header ++ f.payload))) hlen hmax rfl nofun
  rw [if_pos rfl] at h
  simpa [encodeCarry_eq] using h

/-- A frame that ends before its check does fails. -/
theorem readCarry_take (hlen : f.length.toNat = f.payload.length) (hsize : size < 16 + f.payload.length) :
    readCarry exact ((encodeCarry f).take size) = none := by
  have hl : ((encodeCarry f).take size).length = size := by
    rw [List.length_take, encodeCarry_length]
    omega
  by_cases h16 : size < 16
  · unfold readCarry
    simp [hl, h16]
  · have ht : (encodeCarry f).take size
        = f.header ++ (f.payload ++ bytesOfCheck (checkOf (f.header ++ f.payload))).take (size - 12) := by
      rw [encodeCarry_eq, List.take_append, header_length, List.take_of_length_le (by rw [header_length]; omega)]
    rw [ht, List.length_append, header_length] at hl
    rw [ht]
    exact readCarry_of_wrong_size (Or.inr (Or.inl (by omega)))

end

end Sys2Proof.Machine

open Sys2Proof.Machine in
/-- Settles O38. -/
theorem carryFramesRoundTrip : Obligations.CarryFramesRoundTrip := by
  intro f padding received exact size checked check sent
  refine ⟨rfl, by simp [checkOf, checkByte, checkBit], fun hlong => ?_, fun hlen hmax => ⟨readCarry_encodeCarry exact hlen hmax,
    readCarry_encodeCarry_padded padding hlen hmax, fun hr hne => ⟨?_, ?_⟩, fun hpad => ?_, readCarry_take hlen⟩⟩
  · have h := readCarry_of_wrong_size (exact := exact) (x := f.payload ++ (received ++ padding)) (Or.inl hlong)
    simpa [checked] using h
  · have h := readCarry_of_right_size (exact := exact) (padding := []) hlen hmax hr fun _ => rfl
    rw [if_neg (show received ≠ bytesOfCheck (checkOf (f.header ++ f.payload)) from hne)] at h
    simpa [checked] using h
  · have h := readCarry_of_right_size (exact := false) (padding := padding) hlen hmax hr nofun
    rw [if_neg (show received ≠ bytesOfCheck (checkOf (f.header ++ f.payload)) from hne)] at h
    simpa [checked] using h
  · have hp := List.length_pos_iff.2 hpad
    have h := readCarry_of_wrong_size (f := f) (exact := true)
      (x := f.payload ++ (bytesOfCheck (checkOf (f.header ++ f.payload)) ++ padding))
      (Or.inr (Or.inr ⟨rfl, by simp [hlen, bytesOfCheck]; omega⟩))
    simpa [encodeCarry_eq] using h
end

section
/-! PROOFS. The Ethernet frame and the data ports (R21, R64, R170). -/

namespace Sys2Proof.Machine

/-! ## The Ethernet frame of a carry frame (R21) -/

/-- A frame with its own frame check holds itself. -/
theorem ethernetBody_withFrameCheck (x : List Byte) : ethernetBody (withFrameCheck x) = some x := by
  have hl : (withFrameCheck x).length = x.length + 4 := by simp [withFrameCheck, bytesOfCheck]
  have ht : (withFrameCheck x).take x.length = x := List.take_left
  have hc : checkOf x = checkAt (withFrameCheck x) x.length := by
    have h := (checkAt_append_eq_iff (x := []) (a := x) (r := bytesOfCheck (checkOf x)) rfl (checkOf x)).2 rfl
    rw [List.append_nil] at h
    exact h.symm
  unfold ethernetBody
  rw [hl, Nat.add_sub_cancel, ht, if_neg (by omega), if_pos hc]

section
variable (destination source : Address) (frameType : BitVec 16) (payload : List Byte)

/-- What an Ethernet frame holds before its frame check. -/
def ethernetHeld : List Byte := bytesOfAddress destination ++ bytesOfAddress source ++ bytesOf16 frameType ++ padTo46 payload

theorem ethernetBody_ethernetOf :
    ethernetBody (ethernetOf destination source frameType payload) = some (ethernetHeld destination source frameType payload) :=
  ethernetBody_withFrameCheck _

theorem ethernetHeld_type : word16At (ethernetHeld destination source frameType payload) 12 = frameType :=
  word16At_bytesOf16 frameType (bytesOfAddress destination ++ bytesOfAddress source) _

theorem ethernetHeld_source : addressAt (ethernetHeld destination source frameType payload) 6 = source := by
  rw [addressAt_eq_iff]
  exact ⟨rfl, rfl, rfl, rfl, rfl, rfl⟩

theorem ethernetHeld_payload : (ethernetHeld destination source frameType payload).drop 14 = padTo46 payload :=
  List.drop_left' rfl

theorem ethernetHeld_length :
    (ethernetHeld destination source frameType payload).length = 14 + payload.length + (46 - payload.length) := by
  simp [ethernetHeld, bytesOfAddress, bytesOf16, padTo46]
  omega

theorem ethernetOf_length : (ethernetOf destination source frameType payload).length
    = 18 + payload.length + (46 - payload.length) := by
  have h := ethernetHeld_length destination source frameType payload
  have hw : (ethernetOf destination source frameType payload).length
      = (ethernetHeld destination source frameType payload).length + 4 := by
    simp only [ethernetOf, ethernetHeld, withFrameCheck, List.length_append]
    rfl
  omega

end

/-! ## What the ports discard (R21, R64) -/

section
variable {s : State} {bytes body : List Byte}

theorem exec_fibreFrameArrival (hr : s.resetHeld = false) :
    exec (.fibreFrameArrival bytes) s = .next (finish false s (fibreArrival bytes s)) := by
  simp [exec, execFibreFrameArrival, run, runWith, hr]

theorem exec_moduleUnitArrival (hr : s.resetHeld = false) :
    exec (.moduleUnitArrival bytes) s = .next (finish false s (unitArrival bytes s)) := by
  simp [exec, execModuleUnitArrival, run, runWith, hr]

theorem fibreArrival_discarded (h : s.fibre.linkUp = false ∨ 1600 < bytes.length ∨ ethernetBody bytes = none) :
    fibreArrival bytes s = s := by
  unfold fibreArrival
  split
  · rfl
  · next hopen =>
    have hbody : ethernetBody bytes = none := by tauto
    rw [hbody]

/-- A frame of a foreign type or source is counted (R21). -/
theorem fibreArrival_foreign (hup : s.fibre.linkUp = true) (hlen : bytes.length ≤ 1600) (hbody : ethernetBody bytes = some body)
    (h : body.length < 14 ∨ word16At body 12 ≠ s.carry.frameType
      ∨ (s.carry.address ≠ 0xFFFFFFFFFFFF#48 ∧ addressAt body 6 ≠ s.carry.address)) :
    fibreArrival bytes s = s.countCarry .upStaleEpoch := by
  unfold fibreArrival
  rw [if_neg (by simp [hup, hlen]), hbody]
  refine if_neg ?_
  rintro ⟨h14, htype, hsource⟩
  rcases h with h | h | ⟨hany, hforeign⟩
  · omega
  · exact h htype
  · exact hsource.elim hany hforeign

end

/-- An open fibre port hands over the carry frame in the concentrator's Ethernet frame. -/
theorem handsOver_ethernetOf {s : State} {f : CarryFrame} (destination : Address) (hlen : f.length.toNat = f.payload.length)
    (hmax : f.payload.length ≤ 1522) (hup : s.fibre.linkUp = true) :
    handsOver (.fibreFrameArrival (ethernetOf destination s.carry.address s.carry.frameType (encodeCarry f))) s
      = some (.fibre, some f) := by
  have hsize := ethernetOf_length destination s.carry.address s.carry.frameType (encodeCarry f)
  have hheld := ethernetHeld_length destination s.carry.address s.carry.frameType (encodeCarry f)
  rw [encodeCarry_length] at hsize hheld
  have hopen : (ethernetOf destination s.carry.address s.carry.frameType (encodeCarry f)).length ≤ 1600 := by omega
  unfold handsOver
  dsimp only
  rw [if_pos ⟨hup, hopen⟩, ethernetBody_ethernetOf]
  dsimp only
  rw [if_pos ⟨by omega, ethernetHeld_type _ _ _ _, Or.inr (ethernetHeld_source _ _ _ _)⟩, ethernetHeld_payload, padTo46,
    readCarry_encodeCarry_padded _ hlen hmax]

end Sys2Proof.Machine

open Sys2Proof.Machine in
/-- Settles O39. -/
theorem portsHandFramesOver : Obligations.PortsHandFramesOver := by
  intro s f destination bytes body
  refine ⟨fun hlen hmax => ⟨handsOver_ethernetOf destination hlen hmax, fun hready => ?_⟩, fun hr => ⟨fun h => ?_,
    fun hup hlen hbody h => ?_, fun h => ?_⟩⟩
  · unfold handsOver
    dsimp only
    rw [if_pos hready, readCarry_encodeCarry true hlen hmax]
  · rw [exec_fibreFrameArrival hr, fibreArrival_discarded h]
  · rw [exec_fibreFrameArrival hr, fibreArrival_foreign hup hlen hbody h]
    rfl
  · rw [exec_moduleUnitArrival hr, unitArrival, if_neg h]
end

section
/-! PROOFS. The control message envelope (R22, R172). -/

namespace Sys2Proof.Machine

/-! ## A message read from its envelope (R22, R172) -/

/-- What the CRC-16 of a message covers: its length field, kind, tag and body (R22). -/
def Request.inner (r : Request) : List Byte := bytesOf16 (BitVec.ofNat 16 r.body.length) ++ [r.kind, r.tag] ++ r.body

section
variable (r : Request) (rest : List Byte)

theorem envelopeOf_eq : envelopeOf r.kind r.tag r.body = 0xA5#8 :: (r.inner ++ bytesOf16 (crc16Of r.inner)) := rfl

theorem inner_length : r.inner.length = r.body.length + 4 := by
  simp [Request.inner, bytesOf16]

theorem inner_length_field : word16At (r.inner ++ rest) 0 = BitVec.ofNat 16 r.body.length := by
  rw [word16At_eq_iff]
  exact ⟨rfl, rfl⟩

/-- The parser reads a well-formed message from its bytes and leaves what follows them. -/
theorem parseMessage_inner (hkind : r.kind.toNat < 128) (hbody : r.body.length ≤ 512) :
    parseMessage (r.inner ++ bytesOf16 (crc16Of r.inner) ++ rest) = .request r rest := by
  have hl := inner_length r
  have hcrc : (bytesOf16 (crc16Of r.inner)).length = 2 := rfl
  have hlen : (word16At (r.inner ++ bytesOf16 (crc16Of r.inner) ++ rest) 0).toNat = r.body.length := by
    rw [List.append_assoc, inner_length_field, BitVec.toNat_ofNat]
    omega
  have htotal : (r.inner ++ bytesOf16 (crc16Of r.inner) ++ rest).length = r.body.length + 6 + rest.length := by
    simp only [List.length_append, hl, hcrc]
  have htake : (r.inner ++ bytesOf16 (crc16Of r.inner) ++ rest).take (r.body.length + 4) = r.inner := by
    rw [List.append_assoc, List.take_left' hl]
  have hcheck : word16At (r.inner ++ bytesOf16 (crc16Of r.inner) ++ rest) (r.body.length + 4) = crc16Of r.inner := by
    rw [← hl]
    exact word16At_bytesOf16 _ _ _
  have hrest : (r.inner ++ bytesOf16 (crc16Of r.inner) ++ rest).drop (r.body.length + 6) = rest :=
    List.drop_left' (by simp only [List.length_append, hl, hcrc])
  have hheld : ((r.inner ++ bytesOf16 (crc16Of r.inner) ++ rest).drop 4).take r.body.length = r.body := by
    rw [List.append_assoc]
    exact List.take_left
  have hkindAt : byteAt (r.inner ++ bytesOf16 (crc16Of r.inner) ++ rest) 2 = r.kind := rfl
  have htagAt : byteAt (r.inner ++ bytesOf16 (crc16Of r.inner) ++ rest) 3 = r.tag := rfl
  unfold parseMessage
  simp only [hlen, htotal, htake, hcheck, hrest, hheld, hkindAt, htagAt]
  rw [if_neg (by omega), if_neg (by omega), if_neg (by omega), if_pos (by simp [hkind])]

end

end Sys2Proof.Machine

open Sys2Proof.Machine in
/-- Settles O6, by induction on the messages: the parser takes the first message and hunts on behind it. -/
theorem envelopesRoundTrip : Obligations.EnvelopesRoundTrip := by
  intro rs
  induction rs with
  | nil =>
    intro fuel _ _
    cases fuel <;> rfl
  | cons r rs ih =>
    intro fuel hok hfuel
    obtain ⟨hkind, hbody⟩ := hok r List.mem_cons_self
    rw [List.flatMap_cons, envelopeOf_eq] at hfuel ⊢
    cases fuel with
    | zero => simp at hfuel
    | succ fuel =>
      have hrest : (rs.flatMap fun r => envelopeOf r.kind r.tag r.body).length ≤ fuel := by
        rw [List.length_append, List.length_cons] at hfuel
        omega
      have htail := ih fuel (fun q hq => hok q (List.mem_cons_of_mem r hq)) hrest
      rw [List.cons_append, huntMessages, if_pos rfl, parseMessage_inner r _ hkind hbody]
      simp [htail]
end

section
/-! PROOFS. The bodies of the settings requests (R174, R175). -/

namespace Sys2Proof.Machine

/-! ## Codes, read and written (R175)

Each reader answers a value exactly for the code that is written for it. -/

@[simp] theorem flagOfCode_eq_iff {c : Byte} {v : Bool} : flagOfCode c = some v ↔ c = codeOfFlag v := by
  cases v <;> grind [flagOfCode, codeOfFlag]

@[simp] theorem laneOfCode_eq_iff {c : Byte} {l : Lane} : laneOfCode c = some l ↔ c = codeOfLane l := by
  cases l <;> grind [laneOfCode, codeOfLane, Lane.frameCode]

@[simp] theorem bearerOfCode_eq_iff {c : Byte} {b : Bearer} : bearerOfCode c = some b ↔ c = codeOfBearer (some b) := by
  cases b <;> grind [bearerOfCode, codeOfBearer, bearerFrameCode]

@[simp] theorem policyOfCode_eq_iff {c : Byte} {p : OverflowPolicy} : policyOfCode c = some p ↔ c = codeOfPolicy p := by
  cases p <;> grind [policyOfCode, codeOfPolicy]

@[simp] theorem standbyOfCode_eq_iff {c : Byte} {v : Standby} : standbyOfCode c = some v ↔ c = v.code := by
  cases v <;> grind [standbyOfCode, Standby.code]

@[simp] theorem modeOfCode_eq_iff {c : Byte} {v : HandshakeMode} : modeOfCode c = some v ↔ c = v.code := by
  cases v <;> grind [modeOfCode, HandshakeMode.code]

@[simp] theorem tagKeyOfCode_eq_iff {w : BitVec 16} {k : TagKey} : tagKeyOfCode w = some k ↔ w = codeOfTagKey k := by
  constructor
  · unfold tagKeyOfCode
    intro h
    repeat' split at h
    all_goals cases h
    · assumption
    · assumption
    · change w = (w.setWidth 12).setWidth 16
      bv_omega
  · rintro rfl
    cases k with
    | any => rfl
    | untagged => rfl
    | tag n =>
      have hn := n.isLt
      have hw : (n.setWidth 16).toNat = n.toNat := by simp; omega
      have hback : (n.setWidth 16).setWidth 12 = n := by bv_omega
      change tagKeyOfCode (n.setWidth 16) = _
      unfold tagKeyOfCode
      rw [if_neg (by bv_omega), if_neg (by bv_omega), if_pos (by omega), hback]

@[simp] theorem priorityKeyOfCode_eq_iff {c : Byte} {k : PriorityKey} : priorityKeyOfCode c = some k ↔ c = codeOfPriorityKey k := by
  constructor
  · unfold priorityKeyOfCode
    intro h
    repeat' split at h
    all_goals cases h
    · assumption
    · change c = (c.setWidth 3).setWidth 8
      bv_omega
  · rintro rfl
    cases k with
    | any => rfl
    | level n => revert n; decide

@[simp] theorem levelOfMagnitude_eq_iff {c : Byte} {level : Int} :
    levelOfMagnitude c = some level ↔ (-140 ≤ level ∧ level ≤ -44) ∧ c = magnitudeOf level := by
  unfold levelOfMagnitude magnitudeOf
  constructor
  · intro h
    split at h
    · next hrange =>
      cases h
      refine ⟨by omega, ?_⟩
      simp
    · cases h
  · rintro ⟨hrange, rfl⟩
    have hn : (BitVec.ofNat 8 level.natAbs).toNat = level.natAbs := by
      rw [BitVec.toNat_ofNat]
      omega
    rw [hn, if_pos (by omega)]
    congr 1
    omega

/-- The address fields that SET_CARRY takes are individual addresses and all ones (R21). -/
@[simp] theorem concentratorAddress_eq_iff {a v : Address} :
    concentratorAddress a = some v ↔ (v = 0xFFFFFFFFFFFF#48 ∨ v.getLsbD 40 = false) ∧ a = v := by
  unfold concentratorAddress
  constructor
  · intro h
    split at h
    · next hv =>
      cases h
      exact ⟨hv, rfl⟩
    · cases h
  · rintro ⟨hv, rfl⟩
    exact if_pos hv

/-! ## Numbers with a range -/

theorem inRange_eq_iff {low high n m : Nat} : inRange low high n = some m ↔ (low ≤ m ∧ m ≤ high) ∧ n = m := by
  unfold inRange
  constructor
  · intro h
    split at h
    · next hrange =>
      cases h
      exact ⟨hrange, rfl⟩
    · cases h
  · rintro ⟨hrange, rfl⟩
    exact if_pos hrange

theorem toNat_eq_iff {k n : Nat} {w : BitVec k} (h : n < 2 ^ k) : w.toNat = n ↔ w = BitVec.ofNat k n := by
  rw [← BitVec.toNat_inj, BitVec.toNat_ofNat, Nat.mod_eq_of_lt h]

section
variable {low high n : Nat} (bs : List Byte) (i : Nat)

@[simp] theorem inRange_num8_iff (h : high < 256) : inRange low high (num8 bs i) = some n ↔
    (low ≤ n ∧ n ≤ high) ∧ [byteAt bs i] = out8 n := by
  rw [inRange_eq_iff]
  refine and_congr_right fun hr => ?_
  rw [num8, toNat_eq_iff (by omega)]
  simp [out8]

@[simp] theorem inRange_num16_iff (h : high < 65536) : inRange low high (num16 bs i) = some n ↔
    (low ≤ n ∧ n ≤ high) ∧ [byteAt bs i, byteAt bs (i + 1)] = out16 n := by
  rw [inRange_eq_iff]
  refine and_congr_right fun hr => ?_
  rw [num16, toNat_eq_iff (by omega), word16At_eq_iff]
  simp [out16, bytesOf16]

@[simp] theorem inRange_num32_iff (h : high < 4294967296) : inRange low high (num32 bs i) = some n ↔
    (low ≤ n ∧ n ≤ high) ∧ [byteAt bs i, byteAt bs (i + 1), byteAt bs (i + 2), byteAt bs (i + 3)] = out32 n := by
  rw [inRange_eq_iff]
  refine and_congr_right fun hr => ?_
  rw [num32, toNat_eq_iff (by omega), word32At_eq_iff]
  simp [out32, bytesOf32]

end

/-! ## Bodies, byte by byte (R175)

A body and what its fields write are compared byte by byte, and the reader asks of the same bytes the same codes and numbers, each
within its range. -/

/-- Some bytes are others when the places up to their number hold those. -/
theorem eq_iff_bytes {body x : List Byte} {n : Nat} (h : body.length = n) :
    body = x ↔ (List.range' 0 n).map (byteAt body) = x := by
  subst h
  have hb : (List.range' 0 body.length).map (byteAt body) = body := by
    refine List.ext_getElem (by simp) fun i hi hi' => ?_
    simp [byteAt, List.getD_eq_getElem?_getD, hi']
  rw [hb]

/-- The index of a class entry is read from one byte. -/
theorem readIndex_eq_iff (bs : List Byte) (i : Nat) (n : Fin 16) :
    (if h : num8 bs i < 16 then some (⟨num8 bs i, h⟩ : Fin 16) else none) = some n ↔ [byteAt bs i] = out8 n.val := by
  have hn := n.isLt
  have hbyte : [byteAt bs i] = out8 n.val ↔ num8 bs i = n.val := by
    rw [num8, toNat_eq_iff (by omega)]
    simp [out8]
  rw [hbyte]
  split
  · simp [Fin.ext_iff]
  · simp
    omega

theorem readClassBody_eq_iff {body : List Byte} {i : Fin 16} {e : ClassEntry} (hl : body.length = 6) :
    readClassBody body = some (i, e) ↔ body = classResult i e := by
  rw [eq_iff_bytes hl]
  obtain ⟨used, tagKey, priorityKey, lane⟩ := e
  simp [readClassBody, Option.bind_eq_some_iff, readIndex_eq_iff, -Option.dite_none_right_eq_some, -Bool.exists_bool, classResult,
    List.range'_succ, out8, bytesOf16, word16At_eq_iff, and_assoc]

theorem readLaneBody_eq_iff {body : List Byte} {l : Lane} {p : LaneProfile} (hl : body.length = 9) :
    readLaneBody body = some (l, p) ↔ body = laneBody l p ∧ 1 ≤ p.limit ∧ p.limit ≤ 512 ∧ p.maxAge ≤ 60000 := by
  rw [eq_iff_bytes hl]
  obtain ⟨replay, limit, policy, maxAge, radioBar, batteryBar⟩ := p
  simp [readLaneBody, Option.bind_eq_some_iff, laneBody, List.range'_succ, out16, bytesOf16, -Bool.exists_bool]
  tauto

theorem readDampingBody_eq_iff {body : List Byte} {b : Bearer} {d : Damping} (hl : body.length = 12) :
    readDampingBody body = some (b, d) ↔ body = dampingBody b d ∧ d.step ≤ 8000 ∧ 1000 ≤ d.ceiling ∧ d.ceiling ≤ 20000
      ∧ 1 ≤ d.suppress ∧ d.suppress ≤ d.ceiling ∧ d.reuse < d.suppress ∧ 1 ≤ d.factor ∧ d.factor ≤ 255 ∧ 1 ≤ d.period
      ∧ d.period ≤ 600 := by
  rw [eq_iff_bytes hl]
  obtain ⟨step, ceiling, suppress, reuse, factor, period⟩ := d
  simp [readDampingBody, Option.bind_eq_some_iff, dampingBody, List.range'_succ, out8, out16, bytesOf16, Option.ite_none_right_eq_some]
  grind

/-- A number that is tested and read elsewhere again. -/
theorem inRange_bind_const {α : Type} (low high n : Nat) (o : Option α) :
    ((inRange low high n).bind fun _ => o) = if low ≤ n ∧ n ≤ high then o else none := by
  unfold inRange
  split <;> rfl

theorem readCarryBody_eq_iff {body : List Byte} {w : CarrySettings} (hl : body.length = 19) :
    readCarryBody body = some w ↔ body = carryBody w ∧ (w.address = 0xFFFFFFFFFFFF#48 ∨ w.address.getLsbD 40 = false)
      ∧ 0x0600 ≤ w.frameType.toNat ∧ 1 ≤ w.nTx ∧ w.nTx ≤ 63 ∧ 1 ≤ w.mRx ∧ w.mRx ≤ 31 ∧ 1 ≤ w.rewindLimit
      ∧ w.rewindLimit ≤ 15 ∧ 1 ≤ w.resendLimit ∧ w.resendLimit ≤ 255 ∧ 1 ≤ w.tallyDelay ∧ w.tallyDelay ≤ 100
      ∧ w.rewindMargin ≤ 1000 ∧ w.drainMargin ≤ 5000 ∧ w.returnHold ≤ 3600 := by
  rw [eq_iff_bytes hl]
  obtain ⟨address, frameType, nTx, mRx, rewindLimit, resendLimit, tallyDelay, rewindMargin, drainMargin, returnHold⟩ := w
  simp [readCarryBody, inRange_bind_const, Option.ite_none_right_eq_some, Option.bind_eq_some_iff, carryBody, List.range'_succ,
    out8, out16, bytesOf16, bytesOfAddress, addressAt_eq_iff, word16At_eq_iff]
  have htype := word16At_eq_iff body 6 frameType
  have hmax := frameType.isLt
  grind [num16]

theorem readJudgeBody_radio_eq_iff {body : List Byte} {old : Bearer → JudgeSettings} {v : JudgeSettings} (hl : body.length = 10) :
    readJudgeBody old body = some (.radio, v) ↔ body = judgeResult .radio v ∧ 200 ≤ v.interval ∧ v.interval ≤ 5000
      ∧ 1 ≤ v.window ∧ v.window ≤ 64 ∧ v.tolerance ≤ v.window ∧ v.riseWindows ≤ 255 ∧ 1 ≤ v.riseRun ∧ v.riseRun ≤ 1000
      ∧ 1 ≤ v.fallRun ∧ v.fallRun ≤ 255 ∧ -140 ≤ v.floor ∧ v.floor ≤ -44 := by
  rw [eq_iff_bytes hl]
  obtain ⟨interval, window, tolerance, riseWindows, riseRun, fallRun, floor⟩ := v
  have htolerance := @inRange_num8_iff 0 window tolerance body 4
  simp [readJudgeBody, Option.bind_eq_some_iff, judgeResult, List.range'_succ, out8, out16, bytesOf16] at htolerance ⊢
  grind

theorem readJudgeBody_fibre_eq_iff {body : List Byte} {old : Bearer → JudgeSettings} {v : JudgeSettings} (hl : body.length = 10) :
    readJudgeBody old body = some (.fibre, v) ↔ body.take 9 = (judgeResult .fibre v).take 9 ∧ 10 ≤ v.interval
      ∧ v.interval ≤ 1000 ∧ 1 ≤ v.window ∧ v.window ≤ 64 ∧ v.tolerance ≤ v.window ∧ v.riseWindows ≤ 255 ∧ 1 ≤ v.riseRun
      ∧ v.riseRun ≤ 1000 ∧ 1 ≤ v.fallRun ∧ v.fallRun ≤ 255 ∧ v.floor = (old .fibre).floor := by
  have hl9 : (body.take 9).length = 9 := by simp [hl]
  rw [eq_iff_bytes hl9]
  obtain ⟨interval, window, tolerance, riseWindows, riseRun, fallRun, floor⟩ := v
  have htolerance := @inRange_num8_iff 0 window tolerance body 4
  simp [readJudgeBody, Option.bind_eq_some_iff, judgeResult, List.range'_succ, out8, out16, bytesOf16, byteAt_take] at htolerance ⊢
  grind

theorem readModuleBody_eq_iff {body : List Byte} {m : ModuleSettings} (hl : body.length = 17) :
    readModuleBody body = some m ↔ body = moduleBody m ∧ 2 ≤ m.wakeLimit ∧ m.wakeLimit ≤ 60 ∧ 5 ≤ m.searchRound
      ∧ m.searchRound ≤ 120 ∧ 1 ≤ m.searchRounds ∧ m.searchRounds ≤ 15 ∧ 10 ≤ m.rest ∧ m.rest ≤ 3600 ∧ m.linger ≤ 3600
      ∧ m.pollStart ≤ 1000 ∧ 1 ≤ m.readyLimit ∧ m.readyLimit ≤ 200 ∧ 1 ≤ m.stallLimit ∧ m.stallLimit ≤ 15
      ∧ 64 ≤ m.paceRate ∧ m.paceRate ≤ 100000 := by
  rw [eq_iff_bytes hl]
  obtain ⟨standby, wakeLimit, searchRound, searchRounds, rest, linger, mode, pollStart, readyLimit, stallLimit, paceRate⟩ := m
  simp [readModuleBody, Option.bind_eq_some_iff, moduleBody, List.range'_succ, out8, out16, out32, bytesOf16, bytesOf32]
  tauto

end Sys2Proof.Machine

open Sys2Proof.Machine in
/-- Settles O11. -/
theorem settingsBodiesRoundTrip : Obligations.SettingsBodiesRoundTrip := fun _ _ _ _ _ _ _ _ _ _ _ =>
  ⟨readLaneBody_eq_iff, readClassBody_eq_iff, fun hl => ⟨readJudgeBody_radio_eq_iff hl, readJudgeBody_fibre_eq_iff hl⟩,
    readDampingBody_eq_iff, readCarryBody_eq_iff, readModuleBody_eq_iff⟩
end

section
/-! PROOFS. A message leaves, and the soft reset (R176, R178, R185). -/

namespace Sys2Proof.Machine

/-! ## Notices that are lost (R176, R178) -/

/-- The notices that a report offers: one when it is made, its flag is clear and the flag is unmasked (R177). -/
def noticesOffered (c : Bool) (f : EventFlag) (s : State) : Nat :=
  if c = true ∧ holdsFlag s.events.flags f = false ∧ holdsFlag s.events.mask f = false then 1 else 0

/-- The notices that find the outbound queue full, of some offered to a queue of some length. -/
def noticesLost (offered length : Nat) : Nat := offered - (8 - length)

/-- LINK notice-lost after some notices more are lost. -/
def noticeLostAfter (lost count : Nat) : Nat := if lost = 0 then count else min (count + lost) 4294967295

theorem noticeLostAfter_add (m n count : Nat) : noticeLostAfter n (noticeLostAfter m count) = noticeLostAfter (m + n) count := by
  unfold noticeLostAfter
  split_ifs <;> omega

/-- What two reports lose in turn is what they lose together. -/
theorem noticesLost_add (m n length : Nat) :
    noticesLost m length + noticesLost n (length + (m - noticesLost m length)) = noticesLost (m + n) length := by
  unfold noticesLost
  omega

section
variable (c : Bool) (f : EventFlag) (s : State)

theorem reportIf_of_not_offered (h : noticesOffered c f s = 0) :
    (reportIf c f s).counts = s.counts ∧ (reportIf c f s).link = s.link := by
  unfold reportIf
  split
  · next hc =>
    unfold report
    split
    · exact ⟨rfl, rfl⟩
    · next hflag =>
      have hmask : holdsFlag s.events.mask f = true := by
        by_contra hmask
        simp [noticesOffered, hc, hflag, hmask] at h
      dsimp only
      rw [if_pos hmask]
      exact ⟨rfl, rfl⟩
  · exact ⟨rfl, rfl⟩

theorem noticesOffered_eq_one (h : noticesOffered c f s ≠ 0) : noticesOffered c f s = 1 := by
  unfold noticesOffered at h ⊢
  split_ifs at h ⊢
  · rfl
  · exact absurd rfl h

theorem reportIf_of_offered (h : noticesOffered c f s ≠ 0) :
    reportIf c f s = offerNotice f { s with events := { s.events with flags := s.events.flags ||| f.bit } } := by
  obtain ⟨hc, hflag, hmask⟩ : c = true ∧ holdsFlag s.events.flags f = false ∧ holdsFlag s.events.mask f = false := by
    by_contra hno
    exact h (if_neg hno)
  simp [reportIf, report, hc, hflag, hmask]

/-- A report costs the LINK group the notice that it loses. -/
theorem reportIf_link : (reportIf c f s).counts.link = { s.counts.link with
    noticeLost := noticeLostAfter (noticesLost (noticesOffered c f s) s.link.outbound.length) s.counts.link.noticeLost } := by
  by_cases h : noticesOffered c f s = 0
  · simp [(reportIf_of_not_offered c f s h).1, h, noticesLost, noticeLostAfter]
  · rw [noticesOffered_eq_one c f s h, reportIf_of_offered c f s h]
    unfold offerNotice noticesLost noticeLostAfter
    dsimp only
    split
    · next hplace =>
      have hplace : s.link.outbound.length < 8 := hplace
      rw [if_pos (by omega)]
    · next hfull =>
      have hfull : ¬s.link.outbound.length < 8 := hfull
      rw [if_neg (by omega)]
      have hone : 1 - (8 - s.link.outbound.length) = 1 := by omega
      rw [hone]
      rfl

/-- The queue takes what it does not lose. -/
theorem reportIf_outbound_length : (reportIf c f s).link.outbound.length
    = s.link.outbound.length + (noticesOffered c f s - noticesLost (noticesOffered c f s) s.link.outbound.length) := by
  by_cases h : noticesOffered c f s = 0
  · simp [(reportIf_of_not_offered c f s h).2, h]
  · rw [noticesOffered_eq_one c f s h, reportIf_of_offered c f s h]
    unfold offerNotice noticesLost
    dsimp only
    split
    · next hplace =>
      have hplace : s.link.outbound.length < 8 := hplace
      simp
      omega
    · next hfull =>
      have hfull : ¬s.link.outbound.length < 8 := hfull
      simp only [State.countLink]
      omega

/-- A report leaves the other flags as they are. -/
theorem reportIf_other_flag {g : EventFlag} (h : g.number ≠ f.number) :
    holdsFlag (reportIf c f s).events.flags g = holdsFlag s.events.flags g := by
  have hbit : f.bit.getLsbD g.number = false := by simp [EventFlag.bit, BitVec.getLsbD_twoPow, Ne.symm h]
  unfold reportIf report
  dsimp only
  repeat' split
  all_goals simp [holdsFlag, hbit]

end

/-! ## The part after a start (R184, R185) -/

section
variable (epoch : BitVec 16) (link : LinkCounts) (s : State)

/-- A start reports STARTED as notice 0. -/
theorem startUp_eq : startUp epoch link s = { blankPart epoch link s with
      link := ⟨[], none, [], [.notice 0 .started 0 none], false, s.link.sent⟩
      events := ⟨1, 0, .latch, 1, false⟩ } := by
  have hflag : holdsFlag 0#19 .started = false := by decide
  have hbit : EventFlag.started.bit = 1#19 := by decide
  simp [startUp, report, blankPart, hflag, hbit, offerNotice, Config.outboundPlaces, State.ms, State.reset]

theorem conditions_startUp : conditions (startUp epoch link s) = 0b000011 := by
  rw [startUp_eq]
  have h : BitVec.ofBool (ModuleStatus.off == .resting) ++ BitVec.ofBool false
    ++ BitVec.ofBool (SelectorStatus.stopped == .outage) ++ BitVec.ofBool false
    ++ BitVec.ofBool (Verdict.down == .down) ++ BitVec.ofBool (Verdict.down == .down) = 3#6 := by decide
  exact h

theorem attnWanted_startUp : attnWanted (startUp epoch link s) = true := by
  simp [startUp_eq, attnWanted, blankPart, State.reset]

/-- At the end of the event the notice has read the conditions 0 and 1, and ATTN is asserted. -/
theorem closeEvent_startUp : closeEvent (startUp epoch link s) = { State.reset with
    pending := s.pending
    ties := s.ties
    home := ⟨s.home.linkUp, [], s.home.sent⟩
    fibre := ⟨s.fibre.linkUp, none⟩
    session := ⟨.closed, epoch, none⟩
    link := { State.reset.link with sent := s.link.sent }
    counts := { Counts.zero with link := link } } := by
  have hattn : ∀ o, attnWanted { startUp epoch link s with link := o } = true := fun _ => attnWanted_startUp epoch link s
  simp only [closeEvent, conditions_startUp, hattn]
  rw [startUp_eq]
  rfl

end

/-! ## The soft reset (R185) -/

theorem softReset_link (s : State) :
    (judgeResetReport .radio (judgeResetReport .fibre s)).counts.link = { s.counts.link with
      noticeLost := noticeLostAfter (noticesLost (noticesOffered (s.fibreJudge.verdict == .up) .fibreDown s
        + noticesOffered (s.radioJudge.verdict == .up) .radioDown s) s.link.outbound.length) s.counts.link.noticeLost } := by
  have hfibre : judgeResetReport .fibre s = reportIf (s.fibreJudge.verdict == .up) .fibreDown s := rfl
  have hradio : ∀ u : State, judgeResetReport .radio u = reportIf (u.radioJudge.verdict == .up) .radioDown u := fun _ => rfl
  have hverdict : (judgeResetReport .fibre s).radioJudge = s.radioJudge := by simp [hfibre]
  have hoffered : noticesOffered (s.radioJudge.verdict == .up) .radioDown (judgeResetReport .fibre s)
      = noticesOffered (s.radioJudge.verdict == .up) .radioDown s := by
    rw [hfibre]
    have hmask : (reportIf (s.fibreJudge.verdict == .up) .fibreDown s).events.mask = s.events.mask := by simp
    unfold noticesOffered
    rw [reportIf_other_flag _ _ _ (by decide), hmask]
  rw [hradio, reportIf_link, hverdict, hoffered, hfibre, reportIf_link, reportIf_outbound_length]
  dsimp only
  rw [noticeLostAfter_add, noticesLost_add]

end Sys2Proof.Machine

/-! ## MESSAGE_SENT (R176) -/

namespace Sys2Proof.Machine
section
variable {s : State} {m : OutMessage} {rest : List OutMessage}

theorem exec_messageSent (hr : s.resetHeld = false) : exec .messageSent s = .next (closeEvent (headSent s)) := by
  simp [exec, execMessageSent, runQuiet, hr]

theorem headSent_of_empty (h : s.link.outbound = []) : headSent s = s := by
  unfold headSent
  rw [h]

theorem headSent_of_kept (h : s.link.outbound = m :: rest) (hkept : s.link.resetTaken = false ∨ m.answersReset = false) :
    headSent s = { s with link := { s.link with outbound := rest, sent := m.envelope } } := by
  unfold headSent
  rw [h]
  rcases hkept with hkept | hkept <;> simp [hkept]

theorem headSent_of_reset (h : s.link.outbound = m :: rest) (htaken : s.link.resetTaken = true) (hm : m.answersReset = true) :
    headSent s = softReset { s with link := { s.link with outbound := rest, sent := m.envelope } } := by
  unfold headSent
  rw [h]
  simp [htaken, hm]

end
end Sys2Proof.Machine

open Sys2Proof.Machine in
/-- Settles O5. -/
theorem messageSent : Obligations.MessageSent := by
  intro s m rest tag envelope bytes offers lost noticeLost hr
  refine ⟨fun h => ?_, fun h hm hkept => ?_, fun h htaken => ?_⟩
  · rw [exec_messageSent hr, headSent_of_empty h]
  · rw [exec_messageSent hr, headSent_of_kept h hkept]
    cases m <;> rfl
  · rw [exec_messageSent hr, headSent_of_reset h htaken rfl]
    have hfibre : noticesOffered (s.fibreJudge.verdict == .up) .fibreDown s = offers s.fibreJudge 2 := by
      simp [noticesOffered, offers, holdsFlag, EventFlag.number]
    have hradio : noticesOffered (s.radioJudge.verdict == .up) .radioDown s = offers s.radioJudge 4 := by
      simp [noticesOffered, offers, holdsFlag, EventFlag.number]
    have hlost : noticeLostAfter (noticesLost (noticesOffered (s.fibreJudge.verdict == .up) .fibreDown s
        + noticesOffered (s.radioJudge.verdict == .up) .radioDown s) rest.length) s.counts.link.noticeLost = noticeLost := by
      rw [hfibre, hradio]
      rfl
    unfold softReset
    rw [closeEvent_startUp, softReset_link, ← hlost]
    rfl
end

section
/-! PROOFS. The bounds of queues, lanes and counts under the small writers of the state (R27, R28, R36, R110, R173, R176, R182). -/

namespace Sys2Proof.Machine

/-! ## Counts that rise (R182) -/

/-- A count rises or stays, and does not pass its bound (R182). -/
def CountRises (n m : Nat) : Prop := n ≤ 4294967295 → n ≤ m ∧ m ≤ 4294967295

/-- Every count of a group rises or stays. -/
abbrev CountsRise (before after : List Nat) : Prop := List.Forall₂ CountRises before after

@[simp] theorem countRises_refl (n : Nat) : CountRises n n := fun h => ⟨le_refl n, h⟩

@[simp] theorem countRises_countUp (n : Nat) : CountRises n (countUp n) := fun h => by
  simp only [countUp, Config.countMax]
  omega

@[simp] theorem countRises_countUpBy (k n : Nat) : CountRises n (countUpBy k n) := fun h => by
  simp only [countUpBy, Config.countMax]
  omega

@[simp] theorem countsRise_refl (ns : List Nat) : CountsRise ns ns := List.forall₂_same.2 fun n _ => countRises_refl n

theorem CountsRise.trans {ns ms ks : List Nat} (h : CountsRise ns ms) (h' : CountsRise ms ks) : CountsRise ns ks := by
  induction h generalizing ks with
  | nil => exact h'
  | cons hn _ ih =>
    cases h' with
    | cons hm ht =>
      refine .cons (fun hb => ?_) (ih ht)
      obtain ⟨hle, hb'⟩ := hn hb
      obtain ⟨hle', hb''⟩ := hm hb'
      exact ⟨hle.trans hle', hb''⟩

theorem CountsRise.bounded {ns ms : List Nat} (h : CountsRise ns ms) (hb : ∀ n ∈ ns, n ≤ 4294967295) :
    ∀ m ∈ ms, m ≤ 4294967295 := by
  induction h with
  | nil => simp
  | cons hn _ ih =>
    simp only [List.mem_cons, forall_eq_or_imp] at hb ⊢
    exact ⟨(hn hb.1).2, ih hb.2⟩

/-! The writers of each group raise its counts. -/

@[simp] theorem laneCounts_rise (c : LaneCounts) :
    CountsRise c.inOrder c.upAccepted.inOrder ∧ CountsRise c.inOrder c.upSent.inOrder
      ∧ (∀ k, CountsRise c.inOrder (c.upBarred k).inOrder) ∧ (∀ k, CountsRise c.inOrder (c.upOverflow k).inOrder)
      ∧ (∀ k, CountsRise c.inOrder (c.upAged k).inOrder) ∧ CountsRise c.inOrder c.upDelivered.inOrder := by
  simp [LaneCounts.inOrder, LaneCounts.upAccepted, LaneCounts.upSent, LaneCounts.upBarred, LaneCounts.upOverflow,
    LaneCounts.upAged, LaneCounts.upDelivered]

@[simp] theorem carryCounts_rise (c : CarryCounts) :
    CountsRise c.inOrder c.upSent.inOrder ∧ CountsRise c.inOrder c.upResent.inOrder
      ∧ CountsRise c.inOrder c.upVoided.inOrder ∧ CountsRise c.inOrder c.upTally.inOrder
      ∧ CountsRise c.inOrder c.upReceived.inOrder ∧ CountsRise c.inOrder c.upCheckFailActive.inOrder
      ∧ CountsRise c.inOrder c.upCheckFailOther.inOrder ∧ CountsRise c.inOrder c.upDuplicate.inOrder
      ∧ CountsRise c.inOrder c.upGap.inOrder ∧ CountsRise c.inOrder c.upDiscarded.inOrder
      ∧ CountsRise c.inOrder c.upStaleEpoch.inOrder ∧ CountsRise c.inOrder c.upAckInvalid.inOrder
      ∧ CountsRise c.inOrder c.upRewindStreams.inOrder ∧ CountsRise c.inOrder c.upReplayPasses.inOrder
      ∧ CountsRise c.inOrder c.upRewindFailures.inOrder ∧ (∀ k, CountsRise c.inOrder (c.upLostOnRestart k).inOrder)
      ∧ CountsRise c.inOrder c.upHomeOverflow.inOrder ∧ CountsRise c.inOrder c.upStoppedDrop.inOrder := by
  simp [CarryCounts.inOrder, CarryCounts.upSent, CarryCounts.upResent, CarryCounts.upVoided, CarryCounts.upTally,
    CarryCounts.upReceived, CarryCounts.upCheckFailActive, CarryCounts.upCheckFailOther, CarryCounts.upDuplicate,
    CarryCounts.upGap, CarryCounts.upDiscarded, CarryCounts.upStaleEpoch, CarryCounts.upAckInvalid,
    CarryCounts.upRewindStreams, CarryCounts.upReplayPasses, CarryCounts.upRewindFailures, CarryCounts.upLostOnRestart,
    CarryCounts.upHomeOverflow, CarryCounts.upStoppedDrop]

@[simp] theorem probeCounts_rise (c : ProbeCounts) :
    CountsRise c.inOrder c.upSent.inOrder ∧ CountsRise c.inOrder c.upAnswered.inOrder
      ∧ CountsRise c.inOrder c.upLate.inOrder ∧ CountsRise c.inOrder c.upStray.inOrder
      ∧ CountsRise c.inOrder c.upLost.inOrder := by
  simp [ProbeCounts.inOrder, ProbeCounts.upSent, ProbeCounts.upAnswered, ProbeCounts.upLate, ProbeCounts.upStray,
    ProbeCounts.upLost]

@[simp] theorem moduleCounts_rise (c : ModuleCounts) :
    CountsRise c.inOrder c.upStalls.inOrder ∧ CountsRise c.inOrder c.upTimeouts.inOrder
      ∧ CountsRise c.inOrder c.upSearchRounds.inOrder ∧ CountsRise c.inOrder c.upFaults.inOrder := by
  simp [ModuleCounts.inOrder, ModuleCounts.upStalls, ModuleCounts.upTimeouts, ModuleCounts.upSearchRounds,
    ModuleCounts.upFaults]

@[simp] theorem linkCounts_rise (c : LinkCounts) :
    CountsRise c.inOrder c.upBad.inOrder ∧ CountsRise c.inOrder c.upRequestLost.inOrder
      ∧ CountsRise c.inOrder c.upNoticeLost.inOrder := by
  simp [LinkCounts.inOrder, LinkCounts.upBad, LinkCounts.upRequestLost, LinkCounts.upNoticeLost]

/-! ## What a change keeps within its bounds -/

/-- From the one state to the other no queue, probe table or lane runs over, and no count falls or runs over. -/
structure Contained (s t : State) : Prop where
  queues : QueuesBounded s → QueuesBounded t
  lanes : LanesBounded s.lanes → LanesBounded t.lanes
  counts : ∀ g, CountsRise (s.counts.inOrder g) (t.counts.inOrder g)

/-- What the bounds read of a state. -/
def boundView (s : State) : List Request × List OutMessage × List Delivery × List ProbeEntry × List ProbeEntry × Lanes × Counts :=
  (s.link.inbound, s.link.outbound, s.home.delivery, s.fibreJudge.table, s.radioJudge.table, s.lanes, s.counts)

namespace Contained

variable {s t u : State}

theorem refl (s : State) : Contained s s := ⟨id, id, fun _ => countsRise_refl _⟩

theorem trans (h : Contained s t) (h' : Contained t u) : Contained s u :=
  ⟨h'.queues ∘ h.queues, h'.lanes ∘ h.lanes, fun g => (h.counts g).trans (h'.counts g)⟩

theorem after (h' : Contained t u) (h : Contained s t) : Contained s u := h.trans h'

/-- A change of what the bounds do not read. -/
theorem same (h : boundView t = boundView s) : Contained s t := by
  simp only [boundView, Prod.mk.injEq] at h
  obtain ⟨hin, hout, hdel, hf, hr, hl, hc⟩ := h
  refine ⟨fun hq => ?_, fun hb => ?_, fun g => ?_⟩
  · simpa only [QueuesBounded, hin, hout, hdel, hf, hr] using hq
  · rwa [hl]
  · rw [hc]
    exact countsRise_refl _

theorem bounded_counts (h : Contained s t) (hb : CountsBounded s.counts) : CountsBounded t.counts := by
  obtain ⟨hl, hc, hp, hm, hk⟩ := hb
  exact ⟨(h.counts _).bounded hl, (h.counts _).bounded hc, (h.counts _).bounded hp, (h.counts _).bounded hm,
    (h.counts _).bounded hk⟩

/-! A state whose queues and lanes stay, and whose counts rise. -/

theorem countLane (l : Lane) {f : LaneCounts → LaneCounts} (hf : ∀ c, CountsRise c.inOrder (f c).inOrder) (s : State) :
    Contained s (s.countLane l f) := by
  have hk : ∀ k, CountsRise (s.counts.lane.get k).inOrder ((s.countLane l f).counts.lane.get k).inOrder := fun k => by
    cases l <;> cases k <;> simp [State.countLane, LaneGroup.get, LaneGroup.set, hf]
  refine ⟨id, id, fun g => ?_⟩
  cases g with
  | lane => exact List.rel_append (List.rel_append (List.rel_append (hk .voice) (hk .signal)) (hk .priority)) (hk .bulk)
  | _ => exact countsRise_refl _

theorem countCarry {f : CarryCounts → CarryCounts} (hf : ∀ c, CountsRise c.inOrder (f c).inOrder) (s : State) :
    Contained s (s.countCarry f) := by
  refine ⟨id, id, fun g => ?_⟩
  cases g with
  | carry => exact hf _
  | _ => exact countsRise_refl _

theorem countProbe (b : Bearer) {f : ProbeCounts → ProbeCounts} (hf : ∀ c, CountsRise c.inOrder (f c).inOrder) (s : State) :
    Contained s (s.countProbe b f) := by
  cases b <;>
  · refine ⟨id, id, fun g => ?_⟩
    cases g with
    | probe => exact List.rel_append (by simp [State.countProbe, hf]) (by simp [State.countProbe, hf])
    | _ => exact countsRise_refl _

theorem countModule {f : ModuleCounts → ModuleCounts} (hf : ∀ c, CountsRise c.inOrder (f c).inOrder) (s : State) :
    Contained s (s.countModule f) := by
  refine ⟨id, id, fun g => ?_⟩
  cases g with
  | module => exact hf _
  | _ => exact countsRise_refl _

theorem countLink {f : LinkCounts → LinkCounts} (hf : ∀ c, CountsRise c.inOrder (f c).inOrder) (s : State) :
    Contained s (s.countLink f) := by
  refine ⟨id, id, fun g => ?_⟩
  cases g with
  | link => exact hf _
  | _ => exact countsRise_refl _

/-! The queues of the control link. -/

/-- Only the control link's queues are other ones, and they have their places (R173, R176). -/
theorem ofLink (hin : s.link.inbound.length ≤ 4 → t.link.inbound.length ≤ 4)
    (hout : s.link.outbound.length ≤ 8 → t.link.outbound.length ≤ 8)
    (hrest : boundView { t with link := s.link } = boundView s) : Contained s t := by
  obtain ⟨hq, hl, hc⟩ := same hrest
  refine ⟨fun hb => ?_, hl, hc⟩
  obtain ⟨-, -, hd, hf, hr⟩ := hq hb
  exact ⟨hin hb.1, hout hb.2.1, hd, hf, hr⟩

theorem offerNotice (f : EventFlag) (s : State) : Contained s (offerNotice f s) := by
  unfold Machine.offerNotice
  dsimp only
  split
  · next hplace =>
    refine .ofLink id (fun _ => ?_) rfl
    rw [List.length_append]
    exact hplace
  · exact .after (.countLink (by simp) _) (.same rfl)

theorem report (f : EventFlag) (s : State) : Contained s (report f s) := by
  unfold Machine.report
  dsimp only
  split
  · exact .refl s
  · split
    · exact .same rfl
    · exact .after (.offerNotice _ _) (.same rfl)

theorem reportIf (c : Bool) (f : EventFlag) (s : State) : Contained s (reportIf c f s) := by
  cases c
  · exact .refl s
  · exact .report f s

theorem closeEvent (s : State) : Contained s (closeEvent s) :=
  ⟨fun ⟨hi, ho, hd, hf, hr⟩ => ⟨hi, by simpa [Machine.closeEvent] using ho, hd, hf, hr⟩, id, fun _ => countsRise_refl _⟩

/-! The probe tables and the delivery queue. -/

theorem mapJudge (b : Bearer) {f : Judge → Judge} (s : State)
    (h : (s.judge b).table.length ≤ 4 → (f (s.judge b)).table.length ≤ 4) : Contained s (s.mapJudge b f) := by
  cases b
  · exact ⟨fun ⟨hi, ho, hd, hf, hr⟩ => ⟨hi, ho, hd, h hf, hr⟩, id, fun _ => countsRise_refl _⟩
  · exact ⟨fun ⟨hi, ho, hd, hf, hr⟩ => ⟨hi, ho, hd, hf, h hr⟩, id, fun _ => countsRise_refl _⟩

theorem withDelivery {x : Home} (h : s.home.delivery.length ≤ 64 → x.delivery.length ≤ 64) :
    Contained s { s with home := x } :=
  ⟨fun ⟨hi, ho, hd, hf, hr⟩ => ⟨hi, ho, h hd, hf, hr⟩, id, fun _ => countsRise_refl _⟩

/-! The lanes. -/

/-- A queue of no more frames than before, or than the lane's limit, takes a lane's place (R27). -/
theorem setQueue (l : Lane) {q : List QueuedFrame} (s : State)
    (h : (s.lanes.get l).Bounded → q.length ≤ (s.lanes.get l).profile.limit) : Contained s (s.setQueue l q) := by
  refine ⟨id, fun ⟨hv, hs, hp, hb, hsum⟩ => ?_, fun _ => countsRise_refl _⟩
  cases l
  · exact ⟨⟨hv.1, h hv⟩, hs, hp, hb, hsum⟩
  · exact ⟨hv, ⟨hs.1, h hs⟩, hp, hb, hsum⟩
  · exact ⟨hv, hs, ⟨hp.1, h hp⟩, hb, hsum⟩
  · exact ⟨hv, hs, hp, ⟨hb.1, h hb⟩, hsum⟩

end Contained

end Sys2Proof.Machine
end

section
/-! PROOFS. The bounds under the module controller, the path selector and the judges. -/

namespace Sys2Proof.Machine

namespace Contained

variable {s : State}

/-! The module controller. -/

theorem resetJudge (b : Bearer) (s : State) : Contained s (resetJudge b s) :=
  .after (.reportIf _ _ _) (.mapJudge b s fun _ => Nat.zero_le 4)

theorem leaveReady (s : State) : Contained s (leaveReady s) :=
  .after (.resetJudge .radio _) (.same (by simp [boundView]))

theorem enterReleasing (c : ReleaseCause) (s : State) : Contained s (enterReleasing c s) := by
  have hleft : Contained s (if s.radio.status == .ready then Machine.leaveReady s else s) := by
    split
    · exact .leaveReady s
    · exact .refl s
  exact hleft.trans (.same rfl)

theorem startLinger (s : State) : Contained s (startLinger s) := by
  unfold Machine.startLinger
  split
  · exact .enterReleasing _ s
  · exact .same rfl

theorem actOnLevel (s : State) : Contained s (actOnLevel s) := by
  obtain he | ⟨-, he⟩ | ⟨-, -, he | ⟨-, he⟩ | ⟨-, he⟩⟩ := actOnLevel_cases s <;> rw [he]
  · exact .refl s
  · exact .same (by simp [boundView])
  · exact .same rfl
  · exact .same rfl
  · exact .enterReleasing _ s

theorem searchRound (n : Nat) (s : State) : Contained s (searchRound n s) :=
  .after (.countModule (by simp) _) (.same rfl)

theorem enterOff (s : State) : Contained s (enterOff s) := .after (.actOnLevel _) (.same rfl)

theorem startInterval (b : Bearer) (m : Nat) (together : Bool) (s : State) : Contained s (startInterval b m together s) :=
  .same (by simp [boundView])

theorem beginJudging (b : Bearer) (s : State) : Contained s (beginJudging b s) :=
  .after (.startInterval b _ _ _) (.mapJudge b s fun _ => Nat.zero_le 4)

theorem enterReady (s : State) : Contained s (enterReady s) := by
  have hjudged : Contained s (if s.selector.status == .stopped then readyEntered s
      else Machine.beginJudging .radio (readyEntered s)) := by
    split
    · exact .same rfl
    · exact .after (.beginJudging _ _) (.same rfl)
  rw [enterReady_eq]
  dsimp only
  split
  · exact hjudged.trans (.startLinger _)
  · exact hjudged

/-! The path selector. -/

theorem handWanted (s : State) : Contained s (handWanted s) := by
  unfold Machine.handWanted
  split
  · exact .refl s
  · exact .after (.mapJudge .radio _ id) (.after (.actOnLevel _) (.same rfl))

theorem writeRecord (source : Option Bearer) (b : Bearer) (k : HandoverKind) (o : Option HandoverOutcome) (s : State) :
    Contained s (writeRecord source b k o s) := .same rfl

theorem completeRecord (o : HandoverOutcome) (s : State) : Contained s (completeRecord o s) := .same rfl

theorem makeActive (b : Bearer) (n : Bool) (s : State) : Contained s (makeActive b n s) :=
  .after (.report _ _) (.after (.reportIf n _ _) (.same (by simp [boundView])))

theorem enterOutage (s : State) : Contained s (enterOutage s) := by
  rw [enterOutage_eq]
  exact .after (.handWanted _) (.after (.report _ _) (.same (by simp [boundView, outageEntered])))

theorem switchDrain {hold : State → State} (hh : ∀ s, Contained s (hold s)) (b : Bearer) (o : HandoverOutcome) (s : State) :
    Contained s (switchDrain hold b o s) := by
  unfold Machine.switchDrain
  exact .after (.handWanted _) (.after (hh _) (.after (.completeRecord _ _) (.after (.makeActive _ _ _) (.same rfl))))

theorem startDrain {hold : State → State} (hh : ∀ s, Contained s (hold s)) (b : Bearer) (s : State) :
    Contained s (startDrain hold b s) := by
  have hbegun : Contained s (Machine.handWanted (enterDrain b s)) := .after (.handWanted _) (.same rfl)
  unfold Machine.startDrain
  dsimp only
  split
  · exact hbegun.trans (.switchDrain hh _ _ _)
  · exact hbegun

theorem updateHold (s : State) : Contained s (updateHold s) := by
  unfold Machine.updateHold
  split
  · split
    · exact .refl s
    · split
      · exact .startDrain .refl _ _
      · exact .same rfl
  · exact .same rfl

theorem forceTo (source : Option Bearer) (b : Bearer) (s : State) : Contained s (forceTo source b s) :=
  .after (.handWanted _) (.after (.updateHold _) (.after (.writeRecord _ _ _ _ _) (.makeActive _ _ _)))

theorem loseActive (b : Bearer) (s : State) : Contained s (loseActive b s) := by
  unfold Machine.loseActive
  dsimp only
  split
  · exact .after (.forceTo _ _ _) (.same rfl)
  · exact .after (.enterOutage _) (.same rfl)

theorem abandonDrain (source : Bearer) (o : HandoverOutcome) (s : State) : Contained s (abandonDrain source o s) := by
  unfold Machine.abandonDrain
  dsimp only
  split
  · exact .after (.handWanted _) (.after (.updateHold _) (.same rfl))
  · exact .after (.enterOutage _) (.same rfl)

theorem onEligibility (b : Bearer) (s : State) : Contained s (onEligibility b s) := by
  unfold Machine.onEligibility
  split
  · exact .refl s
  · split
    · exact .forceTo _ _ _
    · exact .refl s
  · split
    · split
      · exact .refl s
      · exact .loseActive _ _
    · split
      · exact .updateHold _
      · exact .refl s
  · split
    · exact .refl s
    · split
      · exact .switchDrain .updateHold _ _ _
      · exact .abandonDrain _ _ _

theorem rework (b : Bearer) (s : State) : Contained s (rework b s) := by
  rw [rework_eq]
  split
  · exact .refl s
  · exact .after (.onEligibility _ _) (.mapJudge b s id)

theorem drainEmptied (s : State) : Contained s (drainEmptied s) := by
  unfold Machine.drainEmptied
  split
  · exact .switchDrain .updateHold _ _ _
  · exact .refl s

theorem takeFromOutage (s : State) : Contained s (takeFromOutage s) := by
  unfold Machine.takeFromOutage
  split
  · exact .forceTo _ _ _
  · split
    · exact .forceTo _ _ _
    · exact .refl s

/-! The judges. -/

theorem setSuppressed (b : Bearer) (v : Bool) (s : State) : Contained s (setSuppressed b v s) := by
  have hchanged : Contained s (s.mapJudge b (fun j => { j with suppressed := v })) := .mapJudge b s id
  cases b
  · exact hchanged.trans (.report _ _)
  · exact hchanged

theorem flapStep (b : Bearer) (s : State) : Contained s (flapStep b s) := by
  have hstepped : Contained s (s.mapJudge b (fun j => { j with penalty := j.damping.stepped j.penalty })) := .mapJudge b s id
  unfold Machine.flapStep
  dsimp only
  split
  · exact hstepped.trans (.setSuppressed _ _ _)
  · exact hstepped

theorem decayBy (b : Bearer) (s : State) : Contained s (decayBy b s) := by
  have hticked : Contained s (s.mapJudge b (fun j => { j with penalty := j.damping.decayed j.penalty })) := .mapJudge b s id
  unfold Machine.decayBy
  dsimp only
  split
  · exact .refl s
  · split
    · exact hticked.trans (.after (.rework _ _) (.setSuppressed _ _ _))
    · exact hticked

theorem fall (b : Bearer) (s : State) : Contained s (fall b s) :=
  .after (.rework _ _) (.after (.flapStep _ _) (.after (.report _ _) (.mapJudge b s id)))

theorem rise (b : Bearer) (s : State) : Contained s (rise b s) :=
  .after (.rework _ _) (.after (.report _ _) (.mapJudge b s id))

theorem hardFail (b : Bearer) (s : State) : Contained s (hardFail b s) := by
  have hzeroed : Contained s (s.mapJudge b Judge.hardFailed) := .mapJudge b s id
  unfold Machine.hardFail
  dsimp only
  split
  · split
    · exact hzeroed.trans (.fall _ _)
    · exact hzeroed
  · exact .refl s

theorem verdictTest (b : Bearer) (s : State) : Contained s (verdictTest b s) := by
  unfold Machine.verdictTest
  dsimp only
  split
  · split
    · exact .rise _ _
    · exact .refl s
  · split
    · exact .after (.fall _ _) (.mapJudge b s id)
    · exact .refl s

theorem endInterval (b : Bearer) (s : State) : Contained s (endInterval b s) := by
  have htable : ∀ (good : Bool) (j : Judge), ((j.counted good).windowed).table = j.table := fun good j => by
    unfold Judge.windowed Judge.counted
    (repeat' split) <;> rfl
  unfold Machine.endInterval
  split
  · exact .refl s
  · next moment _ =>
    have htested : Contained s (Machine.verdictTest b ((s.advanceTo moment).mapJudge b
        (fun j => (j.counted ((s.judge b).intervalGood b)).windowed))) :=
      .after (.verdictTest _ _) (.after (.mapJudge b _ fun h => by rwa [htable]) (.same rfl))
    dsimp only
    split
    · exact htested.trans (.startInterval _ _ _ _)
    · exact htested

theorem matchEcho (b : Bearer) (f : CarryFrame) (s : State) : Contained s (matchEcho b f s) := by
  have hremoved : Contained s (s.mapJudge b (fun j => { j with table := j.table.filter (fun x => x.tag != f.tag) })) :=
    .mapJudge b s (List.length_filter_le _ _).trans
  unfold Machine.matchEcho
  split
  · exact .countProbe b (by simp) s
  · split
    · exact .countProbe b (by simp) s
    · dsimp only
      split
      · exact hremoved.trans (.after (.countProbe b (by simp) _) (.mapJudge b _ id))
      · exact hremoved.trans (.countProbe b (by simp) _)

theorem expireProbe (b : Bearer) (tag : Byte) (s : State) : Contained s (expireProbe b tag s) := by
  unfold Machine.expireProbe
  split
  · exact .refl s
  · exact .after (.countProbe b (by simp) _) (.after (.mapJudge b _ (List.length_filter_le _ _).trans) (.same rfl))

theorem tick (b : Bearer) (s : State) : Contained s (tick b s) := by
  unfold Machine.tick
  split
  · exact .refl s
  · exact .after (.decayBy _ _) (.after (.mapJudge b _ id) (.same rfl))

/-- A new entry finds a place, or takes the oldest one's (R110). -/
theorem createEntry (b : Bearer) (tag : Byte) (n : Nat) (s : State) : Contained s (createEntry b tag n s) := by
  unfold Machine.createEntry
  dsimp only
  split
  · next hplace =>
    refine .mapJudge b s fun _ => ?_
    have hplace : (s.judge b).table.length < 4 := hplace
    simp
    omega
  · refine .after (.countProbe b (by simp) _) (.mapJudge b s fun hfull => ?_)
    simp
    omega

theorem retestSuppression (b : Bearer) (s : State) : Contained s (retestSuppression b s) := by
  unfold Machine.retestSuppression
  dsimp only
  split
  · exact .after (.rework _ _) (.setSuppressed _ _ _)
  · split
    · exact .after (.rework _ _) (.setSuppressed _ _ _)
    · exact .refl s

theorem restartDecay (b : Bearer) (old new : Nat) (s : State) : Contained s (restartDecay b old new s) :=
  .same (by simp [boundView])

theorem setDamping (b : Bearer) (d : Damping) (s : State) : Contained s (setDamping b d s) := by
  unfold Machine.setDamping
  exact .after (.restartDecay _ _ _ _) (.after (.retestSuppression _ _) (.mapJudge b s id))

end Contained

end Sys2Proof.Machine
end

section
/-! PROOFS. The bounds under the lanes, the ports and the receiver. -/

namespace Sys2Proof.Machine

/-- The heads that age out leave a queue no longer (R33). -/
theorem ageDiscard_length_le (s : State) (maxAge : Nat) (queue : List QueuedFrame) :
    (ageDiscard s maxAge queue).2.length ≤ queue.length := by
  induction queue with
  | nil => exact le_refl _
  | cons f rest ih =>
    unfold ageDiscard
    split
    · exact ih.trans (by simp)
    · exact le_refl _

/-- A trim leaves a queue within the new limit (R28). -/
theorem trimQueue_length_le (limit : Nat) (policy : OverflowPolicy) (queue : List QueuedFrame) :
    (trimQueue limit policy queue).length ≤ limit := by
  cases policy
  · exact List.length_take_le _ _
  · simp only [trimQueue, List.length_drop]
    omega

namespace Contained

variable {s : State}

/-! The lanes and the home port. -/

theorem laneArrival (l : Lane) (frame : QueuedFrame) (s : State) : Contained s (laneArrival l frame s).1 := by
  unfold Machine.laneArrival
  dsimp only
  split
  · exact .countCarry (by simp) s
  · split
    · exact .countLane l (by simp) s
    · split
      · next hplace =>
        refine .after (.countLane l (by simp) _) (.setQueue l s fun _ => ?_)
        simpa using hplace
      · next hfull =>
        split
        · exact .after (.report _ _) (.countLane l (by simp) s)
        · refine .after (.report _ _) (.after (.countLane l (by simp) _) (.after (.countLane l (by simp) _)
            (.setQueue l s fun hb => ?_)))
          obtain ⟨hone, hlen⟩ := hb
          simp
          omega

theorem homeArrival (bytes : List Byte) (s : State) : Contained s (homeArrival bytes s).1 := by
  unfold Machine.homeArrival
  split
  · split
    · exact .refl s
    · split
      · exact .laneArrival _ _ _
      · exact .refl s
  · exact .refl s

theorem discardHeads (l : Lane) (s : State) : Contained s (discardHeads l s) := by
  refine .after (.reportIf _ _ _) (.after (.countLane l (by simp) _) (.after (.countLane l (by simp) _)
    (.setQueue l s fun hb => ?_)))
  split
  · exact Nat.zero_le _
  · exact (ageDiscard_length_le _ _ _).trans hb.2

theorem examineLanes (order : List Lane) (s : State) : Contained s (examineLanes order s).1 := by
  induction order generalizing s with
  | nil => exact .refl s
  | cons l rest ih =>
    have hd := Contained.discardHeads l s
    simp only [Machine.examineLanes]
    split
    · exact hd.trans (ih _)
    · next head tail hq =>
      split
      · exact hd.trans (ih _)
      · refine hd.trans (.after (.countLane l (by simp) _) (.setQueue l _ fun hb => ?_))
        obtain ⟨-, hlen⟩ := hb
        rw [hq, List.length_cons] at hlen
        omega

theorem handOver (l : Lane) (payload : List Byte) (s : State) : Contained s (handOver l payload s) := by
  unfold Machine.handOver
  split
  · next hplace =>
    refine .after (.countLane l (by simp) _) (.withDelivery fun _ => ?_)
    rw [List.length_append]
    exact hplace
  · exact .countCarry (by simp) s

theorem deliverHead (s : State) : Contained s (deliverHead s) := by
  unfold Machine.deliverHead
  split
  · next head rest _ hq =>
    refine .withDelivery fun hb => ?_
    rw [hq, List.length_cons] at hb
    exact (Nat.le_succ _).trans hb
  · exact .refl s

/-- A profile whose limit fits within the slots, with its lane trimmed to it (R28). -/
theorem setProfile (l : Lane) (p : LaneProfile) (hlimit : 1 ≤ p.limit) (hsum : limitSum s.lanes l p.limit ≤ 512) :
    Contained s (setProfile l p s) := by
  have hlanes : Contained s { s with lanes := s.lanes.set l ⟨p, trimQueue p.limit p.policy (s.lanes.get l).queue⟩ } := by
    refine ⟨id, fun ⟨hv, hs, hp, hb, _⟩ => ?_, fun _ => countsRise_refl _⟩
    have htrim := trimQueue_length_le p.limit p.policy (s.lanes.get l).queue
    cases l
    · exact ⟨⟨hlimit, htrim⟩, hs, hp, hb, hsum⟩
    · exact ⟨hv, ⟨hlimit, htrim⟩, hp, hb, hsum⟩
    · exact ⟨hv, hs, ⟨hlimit, htrim⟩, hb, hsum⟩
    · exact ⟨hv, hs, hp, ⟨hlimit, htrim⟩, hsum⟩
  exact .after (.reportIf _ _ _) (hlanes.trans (.countLane l (by simp) _))

/-! What starts to leave the ports. -/

theorem startFrame (b : Bearer) (f : CarryFrame) (s : State) : Contained s (startFrame b f s) :=
  .same (by simp [boundView])

theorem startWaiting (b : Bearer) (w : WaitingFrame) (rest : List WaitingFrame) (s : State) :
    Contained s (startWaiting b w rest s) := by
  have hstarted : Contained s (Machine.startFrame b (w.frame b s) (s.setWaiting b rest)) :=
    .after (.startFrame _ _ _) (.same (by simp [boundView]))
  cases w with
  | probe tag epoch interval => exact hstarted.trans (.createEntry _ _ _ _)
  | _ => exact hstarted

theorem passCopy (b : Bearer) (c : Seq) (s : State) : Contained s (passCopy b c s) := by
  unfold Machine.passCopy
  split
  · exact .same rfl
  · next r _ =>
    have hvoided : Contained s (if voidingTest s r then Machine.report .staleVoided (s.countCarry .upVoided) else s) := by
      split
      · exact .after (.report _ _) (.countCarry (by simp) s)
      · exact .refl s
    dsimp only
    exact .after (.startFrame _ _ _) (hvoided.trans (.same rfl))

theorem dispatch (b : Bearer) (s : State) : Contained s (dispatch b s) := by
  have he := Contained.examineLanes laneOrder s
  unfold Machine.dispatch
  split
  · next h => rwa [h] at he
  · next h =>
    rw [h] at he
    exact he.trans (.same (by simp [boundView]))

theorem nextFrame (o : Bool) (b : Bearer) (s : State) : Contained s (nextFrame o b s) := by
  unfold Machine.nextFrame
  split
  · exact .startFrame _ _ _
  · split
    · exact .same (by simp [boundView])
    · split
      · exact .same (by simp [boundView])
      · split
        · exact .startWaiting _ _ _ _
        · split
          · split
            · exact .passCopy _ _ _
            · split
              · exact .dispatch _ _
              · exact .refl s
          · exact .refl s

theorem serve (o : Bool) (b : Bearer) (s : State) : Contained s (serve o b s) := by
  unfold Machine.serve
  split
  · exact .after (.nextFrame _ _ _) (.same (by simp [boundView]))
  · exact .refl s

theorem finish (joined : Bool) (before s : State) : Contained s (finish joined before s) :=
  .after (.closeEvent _) (.after (.serve _ _ _) (.serve _ _ _))

/-! What a completion at a port does. -/

theorem countDeparture (b : Bearer) (f : CarryFrame) (s : State) : Contained s (countDeparture b f s) := by
  unfold Machine.countDeparture
  split
  · split
    · exact .countCarry (by simp) s
    · exact .countCarry (by simp) s
  · exact .countCarry (by simp) s
  · exact .countProbe b (by simp) s
  · exact .refl s

theorem startResending (s : State) : Contained s (startResending s) := .same (by simp [boundView])

theorem endStream (k : MarkKind) (s : State) : Contained s (endStream k s) := by
  have hended : ∀ f : CarryCounts → CarryCounts, (∀ c, CountsRise c.inOrder (f c).inOrder) → Contained s (State.countCarry f
      { s with sender := { s.sender with stream := none }, pause := { s.pause with stream := false } }) := fun f hf =>
    .after (.countCarry hf _) (.same rfl)
  unfold Machine.endStream
  dsimp only
  split
  · exact hended _ (by simp)
  · split
    · exact .after (.startResending _) (hended _ (by simp))
    · exact hended _ (by simp)

theorem streamBoundary (b : Bearer) (s : State) : Contained s (streamBoundary b s) := by
  unfold Machine.streamBoundary
  split
  · exact .refl s
  · split
    · split
      · exact .same (by simp [boundView])
      · split
        · exact .endStream _ _
        · exact .same rfl
    · exact .refl s

theorem atBoundary (b : Bearer) (reoffer : Bool) (s : State) : Contained s (atBoundary b reoffer s) := by
  refine .after (t := if reoffer && !s.sender.stream.any MarkStream.stopping then s else Machine.streamBoundary b s)
    (.same (by simp [boundView, Machine.atBoundary])) ?_
  split
  · exact .refl s
  · exact .streamBoundary b s

theorem completeDeparture (b : Bearer) (s : State) : Contained s (completeDeparture b s) := by
  unfold Machine.completeDeparture
  split
  · exact .same (by simp [boundView])
  · next l _ =>
    have hcleared : Contained s (clearPort b l s) := .same (by simp [boundView])
    refine .after (.atBoundary _ _ _) ?_
    split
    · exact hcleared
    · exact hcleared.trans (.countDeparture _ _ _)

theorem offerAgain (s : State) : Contained s (offerAgain s) := .same (by simp [boundView])

/-! What the receiver takes. -/

theorem readAck (a : Seq) (s : State) : Contained s (readAck a s) := by
  have happlied : Contained s (applyAck a s) := by
    unfold applyAck
    split
    · exact .same rfl
    · exact .countCarry (by simp) s
  unfold Machine.readAck
  dsimp only
  split
  · exact happlied.trans (.drainEmptied _)
  · exact happlied

theorem readAckIfClear (a : Seq) (s : State) : Contained s (readAckIfClear a s) := by
  unfold Machine.readAckIfClear
  split
  · exact .refl s
  · exact .readAck _ _

theorem readProbeAck (f : CarryFrame) (s : State) : Contained s (readProbeAck f s) := by
  unfold Machine.readProbeAck
  split
  · exact .readAckIfClear _ _
  · exact .refl s

theorem setMarks (b : Bearer) (m : MarkCounters) (s : State) : Contained s (s.setMarks b m) := .same (by simp [boundView])

theorem receiveError (b : Bearer) (s : State) : Contained s (receiveError b s) := by
  have hcleared : Contained s ((Machine.report .receiveError
      { s with receiver := { s.receiver with discard := true } }).setMarks b ⟨0, 0⟩) :=
    .after (.setMarks _ _ _) (.after (.report _ _) (.same rfl))
  unfold Machine.receiveError
  dsimp only
  split
  · exact hcleared.trans (.same (by simp [boundView]))
  · exact hcleared.trans (.same rfl)

theorem checkFailure (b : Bearer) (s : State) : Contained s (checkFailure b s) := by
  have hbroken : ∀ f : CarryCounts → CarryCounts, (∀ c, CountsRise c.inOrder (f c).inOrder) →
      Contained s ((s.setMarks b ⟨0, 0⟩).countCarry f) := fun f hf => .after (.countCarry hf _) (.setMarks _ _ _)
  unfold Machine.checkFailure
  dsimp only
  split
  · split
    · exact (hbroken _ (by simp)).trans (.receiveError _ _)
    · exact hbroken _ (by simp)
  · exact hbroken _ (by simp)

theorem takeRewind (b : Bearer) (f : CarryFrame) (s : State) : Contained s (takeRewind b f s) := by
  have hmarked := Contained.setMarks b ((s.marks b).mark .rewind s.carry.mRx).1 s
  have hacked : Contained s (if ((s.marks b).mark .rewind s.carry.mRx).2 || !s.receiver.discard
      then Machine.readAck f.ackno (s.setMarks b ((s.marks b).mark .rewind s.carry.mRx).1)
      else s.setMarks b ((s.marks b).mark .rewind s.carry.mRx).1) := by
    split
    · exact hmarked.trans (.readAck _ _)
    · exact hmarked
  unfold Machine.takeRewind
  dsimp only
  split
  · exact hacked.trans (.same (by simp [boundView]))
  · exact hacked

theorem takeReplay (b : Bearer) (f : CarryFrame) (s : State) : Contained s (takeReplay b f s) := by
  have hmarked := Contained.setMarks b ((s.marks b).mark .replay s.carry.mRx).1 s
  unfold Machine.takeReplay
  dsimp only
  split
  · split
    · exact hmarked.trans (.after (.readAck _ _) (.same rfl))
    · exact hmarked
  · exact hmarked.trans (.readAck _ _)

theorem acceptData (f : CarryFrame) (s : State) : Contained s (acceptData f s) := by
  have hhanded : Contained s (if f.void then s else Machine.handOver (laneOfFrameCode f.lane) f.payload s) := by
    split
    · exact .refl s
    · exact .handOver _ _ _
  exact .after (.readAck _ _) (hhanded.trans (.same (by simp [boundView])))

theorem takeData (b : Bearer) (f : CarryFrame) (s : State) : Contained s (takeData b f s) := by
  unfold Machine.takeData
  split
  · exact .after (.readAckIfClear _ _) (.handOver _ _ _)
  · split
    · exact .countCarry (by simp) s
    · split
      · exact .acceptData _ _
      · exact .after (.readAck _ _) (.countCarry (by simp) s)
      · exact .after (.receiveError _ _) (.countCarry (by simp) s)

theorem enterOpen (s : State) : Contained s (enterOpen s) := .after (.report _ _) (.same rfl)

theorem takeOpened (s : State) : Contained s (takeOpened s) := by
  unfold Machine.takeOpened
  split
  · exact .enterOpen s
  · exact .refl s

theorem restartFresh (s : State) : Contained s (restartFresh s) := by
  have hcounted : Contained s ((Machine.report .peerRestart s).countCarry (.upLostOnRestart s.sender.store.length)) :=
    .after (.countCarry (by simp) _) (.report _ _)
  exact hcounted.trans (.same rfl)

theorem restartOpening (s : State) : Contained s (restartOpening s) :=
  (Contained.restartFresh s).trans (.same (by simp [boundView, Machine.restartOpening]))

theorem restartSession (s : State) : Contained s (restartSession s) := by
  rw [restartSession_eq]
  split
  · exact (Contained.restartOpening s).trans (.drainEmptied _)
  · exact (Contained.restartOpening s).trans (.same (by simp [boundView]))
  · exact .restartOpening s

theorem takeFrame (b : Bearer) (k : FrameKind) (f : CarryFrame) (s : State) : Contained s (takeFrame b k f s) := by
  have hcounted : Contained s (if k.countsReceived then s.countCarry .upReceived else s) := by
    split
    · exact .countCarry (by simp) s
    · exact .refl s
  have hcleared := hcounted.trans (.setMarks b ⟨0, 0⟩ _)
  cases k with
  | rewind => exact hcounted.trans (.takeRewind _ _ _)
  | replay => exact hcounted.trans (.takeReplay _ _ _)
  | data => exact hcleared.trans (.takeData _ _ _)
  | tally => exact hcleared.trans (.readAckIfClear _ _)
  | probe => exact hcleared.trans (.after (.readProbeAck _ _) (.same (by simp [boundView])))
  | echo => exact hcleared.trans (.after (.readProbeAck _ _) (.matchEcho _ _ _))
  | opened => exact hcleared.trans (.takeOpened _)
  | opening => exact hcleared.trans (.restartSession _)

theorem receive (b : Bearer) (o : Option CarryFrame) (s : State) : Contained s (receive b o s) := by
  unfold Machine.receive
  split
  · exact .checkFailure _ _
  · split
    · split
      · exact .countCarry (by simp) s
      · split
        · exact .takeFrame _ _ _ _
        · exact .countCarry (by simp) s
    · exact .countCarry (by simp) s

theorem fibreArrival (bytes : List Byte) (s : State) : Contained s (fibreArrival bytes s) := by
  unfold Machine.fibreArrival
  split
  · exact .refl s
  · split
    · exact .refl s
    · split
      · exact .receive _ _ _
      · exact .countCarry (by simp) s

theorem unitArrival (bytes : List Byte) (s : State) : Contained s (unitArrival bytes s) := by
  unfold Machine.unitArrival
  split
  · exact .receive _ _ _
  · exact .refl s

end Contained

end Sys2Proof.Machine
end

section
/-! PROOFS. The bounds under the commands' effects. -/

namespace Sys2Proof.Machine

namespace Contained

variable {s : State}

/-! The envelope parser. -/

theorem offerRequest (r : Request) (s : State) : Contained s (offerRequest r s) := by
  unfold Machine.offerRequest
  split
  · next hplace =>
    refine .ofLink (fun _ => ?_) id rfl
    rw [List.length_append]
    exact hplace
  · exact .after (.report _ _) (.countLink (by simp) s)

theorem takeParsed (found : List (Option Request)) (s : State) : Contained s (takeParsed found s) := by
  induction found generalizing s with
  | nil => exact .refl s
  | cons r rest ih =>
    cases r with
    | none => exact .after (ih _) (.countLink (by simp) s)
    | some r => exact .after (ih _) (.offerRequest r s)

theorem parseBytes (bytes : List Byte) (late : Nat) (s : State) : Contained s (parseBytes bytes late s) :=
  (Contained.takeParsed _ s).trans (.same rfl)

theorem messageBytes (bytes : List Byte) (s : State) : Contained s (messageBytes bytes s) := by
  unfold Machine.messageBytes
  split
  · exact .refl s
  · exact .parseBytes _ _ _

theorem advanceTo (m : Nat) (s : State) : Contained s (s.advanceTo m) := .same rfl

theorem abandonMessage (s : State) : Contained s (abandonMessage s) := by
  unfold Machine.abandonMessage
  split
  · exact .refl s
  · exact .after (.parseBytes _ _ _) (.after (.countLink (by simp) _) (.advanceTo _ s))

/-! The lines and the carry timers. -/

theorem fibreLinkLost (s : State) : Contained s (fibreLinkLost s) := by
  have hdown : Contained s ((s.setFibreLink false).mapJudge .fibre (fun j => { j with linkHeld := false })) := .same rfl
  unfold Machine.fibreLinkLost
  split
  · exact .after (.hardFail _ _) (hdown.trans (.same (by simp [boundView])))
  · exact .refl s

theorem rewindExhausted (s : State) : Contained s (rewindExhausted s) := by
  have hfailed : Contained s ((Machine.report .rewindFailed (stopRewindTimer s)).countCarry .upRewindFailures) :=
    .after (.countCarry (by simp) _) (.after (.report _ _) (.same rfl))
  unfold Machine.rewindExhausted
  dsimp only
  split
  · exact hfailed.trans (.hardFail _ _)
  · exact hfailed

theorem rewindExpires (s : State) : Contained s (rewindExpires s) := by
  unfold Machine.rewindExpires
  split
  · exact .refl s
  · dsimp only
    split
    · exact .same rfl
    · split
      · exact .same (by simp [boundView])
      · exact .after (.rewindExhausted _) (.advanceTo _ s)

/-! The selector's timers. -/

theorem holdExpires (s : State) : Contained s (holdExpires s) := by
  unfold Machine.holdExpires
  split
  · exact .refl s
  · dsimp only
    split
    · exact .after (.startDrain .updateHold _ _) (.same rfl)
    · exact .same rfl

theorem drainExpires (s : State) : Contained s (drainExpires s) := by
  unfold Machine.drainExpires
  split
  · exact .refl s
  · dsimp only
    split
    · exact .after (.switchDrain .updateHold _ _ _) (.advanceTo _ s)
    · exact .same rfl

/-! The module's responses and timers. -/

theorem answered (s : State) : Contained s s.answered := .same rfl

theorem poweredTaken (s : State) : Contained s (poweredTaken s) := by
  unfold Machine.poweredTaken
  split
  · exact .searchRound _ _
  · exact .refl s

theorem attachedTaken (s : State) : Contained s (attachedTaken s) := by
  unfold Machine.attachedTaken
  split
  · exact .enterReady s
  · exact .refl s

theorem roundFails (s : State) : Contained s (roundFails s) := by
  unfold Machine.roundFails
  split
  · exact .searchRound _ _
  · exact .after (.enterReleasing _ _) (.after (.report _ _) (.answered s))

theorem attachFailedTaken (s : State) : Contained s (attachFailedTaken s) := by
  unfold Machine.attachFailedTaken
  split
  · exact .roundFails s
  · exact .refl s

theorem roundEnds (s : State) : Contained s (roundEnds s) := by
  unfold Machine.roundEnds
  split
  · exact .refl s
  · split
    · exact .after (.roundFails _) (.advanceTo _ s)
    · exact .refl s

theorem releaseFrom (c : ReleaseCause) (s : State) : Contained s (releaseFrom c s) :=
  .after (.rework _ _) (.enterReleasing _ _)

theorem takeReading (level : Option Int) (s : State) : Contained s (takeReading level s) := by
  have hhanded : ∀ v, Contained s (handReading v s) := fun v => by
    unfold handReading
    split
    · exact .mapJudge .radio s id
    · exact .refl s
  unfold Machine.takeReading
  split
  · split
    · exact (hhanded _).trans (.same rfl)
    · exact .refl s
  · exact .refl s

theorem afterSignal (s : State) : Contained s (afterSignal s) := by
  unfold Machine.afterSignal
  dsimp only
  split
  · split
    · exact .after (.releaseFrom _ _) (.same rfl)
    · exact .same rfl
  · exact .after (.rework _ _) (.actOnLevel s)

theorem signalTaken (level : Option Int) (s : State) : Contained s (signalTaken level s) := by
  unfold Machine.signalTaken
  split
  · exact .after (.afterSignal _) (.after (.takeReading _ _) (.answered s))
  · exact .refl s

theorem cellLost (s : State) : Contained s (cellLost s) := by
  have hleft : Contained s (Machine.rework .radio (cellLeft s)) :=
    .after (.rework _ _) (.after (.leaveReady _) ((Contained.hardFail .radio s).trans (.same rfl)))
  rw [cellLost_eq]
  dsimp only
  split
  · exact hleft.trans (.enterReleasing _ _)
  · exact hleft.trans (.searchRound _ _)

theorem detachedTaken (s : State) : Contained s (detachedTaken s) := by
  unfold Machine.detachedTaken
  split
  · exact .cellLost s
  · split
    · exact .same rfl
    · exact .refl s
  · exact .refl s

theorem offTaken (s : State) : Contained s (offTaken s) := by
  unfold Machine.offTaken
  split
  · split
    · exact .same rfl
    · exact .same rfl
    · exact .enterOff s
  · exact .refl s

theorem commandTimesOut (s : State) : Contained s (commandTimesOut s) := by
  have hfailed : Contained s (Machine.hardFail .radio (Machine.report .moduleFault
      ((s.answered.countModule .upTimeouts).countModule .upFaults))) :=
    .after (.hardFail _ _) (.after (.report _ _) (.after (.countModule (by simp) _)
      (.after (.countModule (by simp) _) (.answered s))))
  unfold Machine.commandTimesOut
  dsimp only
  split
  · exact hfailed.trans (.same rfl)
  · exact hfailed.trans (.releaseFrom _ _)
  · exact hfailed.trans (.releaseFrom _ _)
  · exact hfailed

theorem responseLate (s : State) : Contained s (responseLate s) := by
  unfold Machine.responseLate
  split
  · exact .refl s
  · split
    · exact .refl s
    · exact .after (.commandTimesOut _) (.advanceTo _ s)

theorem lingerExpires (s : State) : Contained s (lingerExpires s) := by
  unfold Machine.lingerExpires
  split
  · exact .refl s
  · dsimp only
    split
    · split
      · exact .same rfl
      · exact .after (.releaseFrom _ _) (.same rfl)
    · exact .same rfl

theorem restExpires (s : State) : Contained s (restExpires s) := by
  unfold Machine.restExpires
  split
  · exact .refl s
  · dsimp only
    split
    · exact .after (.enterOff _) (.advanceTo _ s)
    · exact .same rfl

theorem unitStalls (s : State) : Contained s (unitStalls s) := by
  have hstalled : Contained s { s.countModule .upStalls with radio := { s.radio with stallCount := s.radio.stallCount + 1 } } :=
    (Contained.countModule (by simp) s).trans (.same rfl)
  unfold Machine.unitStalls
  dsimp only
  split
  · exact hstalled.trans (.same rfl)
  · exact .after (.releaseFrom _ _) (.after (.hardFail _ _) (.after (.report _ _) (.after (.countModule (by simp) _) hstalled)))

theorem readyLate (s : State) : Contained s (readyLate s) := by
  unfold Machine.readyLate
  split
  · split
    · exact .after (.unitStalls _) (.advanceTo _ s)
    · exact .refl s
  · split
    · exact .after (.offerAgain _) (.advanceTo _ s)
    · exact .refl s
  · exact .refl s

/-! The requests' effects. -/

theorem startCarrying (s : State) : Contained s (startCarrying s) := by
  have hfibre : Contained s (Machine.beginJudging .fibre { s with selector := { s.selector with status := .outage } }) :=
    .after (.beginJudging _ _) (.same rfl)
  have hjudging : Contained s (startedJudging s) := by
    unfold startedJudging
    dsimp only
    split
    · exact hfibre.trans (.beginJudging _ _)
    · exact hfibre
  rw [startCarrying_eq]
  exact .after (.handWanted _) (.after (.report _ _) (hjudging.trans (.same rfl)))

theorem halt {cut : State → State} (hcut : HaltCut cut) (s : State) : Contained s (halt cut s) := by
  have hended : ∀ b (t : State), Contained t (endJudging b t) := fun b t => .after (.rework _ _) (.resetJudge _ _)
  have hhalted : Contained s (haltedCarrying cut s) := by
    obtain rfl | rfl := hcut <;> exact .same (by simp [boundView, haltedCarrying, haltCarrying])
  unfold Machine.halt
  split
  · exact .refl s
  · exact .after (.handWanted _) (.after (hended _ _) (.after (hended _ _) hhalted))

theorem pinAction (p : PinValue) (s : State) : Contained s (pinAction p s) := by
  unfold Machine.pinAction
  split
  · exact .refl s
  · exact .takeFromOutage s
  · split
    · exact .updateHold s
    · unfold leaveBearer
      split
      · exact .startDrain .updateHold _ _
      · exact .enterOutage s
  · exact .refl s

theorem takePin (p : PinValue) (s : State) : Contained s (takePin p s) := by
  have hpinned : Contained s (setPin p s) := .same rfl
  unfold Machine.takePin
  split
  · split
    · exact .after (.handWanted _) (.after (.rework _ _) (.after (.abandonDrain _ _ _) hpinned))
    · exact .after (.handWanted _) (.after (.rework _ _) hpinned)
  · exact .after (.handWanted _) (.after (.pinAction _ _) (.after (.rework _ _) hpinned))

end Contained

/-! ## Requests (R173) -/

/-- A taken request finds a place for its reply (R173). -/
theorem Contained.placeReply {s : State} {r : Request} (a : Answer) (h : headRequest s = some r) :
    Contained s (placeReply r a s) := by
  have hplace : s.link.outbound.length < 8 := by
    unfold headRequest at h
    split at h
    · next hp => exact hp.1
    · cases h
  refine .ofLink (fun hin => ?_) (fun _ => ?_) rfl
  · exact (List.length_drop.trans_le (Nat.sub_le _ _)).trans hin
  · exact List.length_append.trans_le hplace

/-- What a request's row can do: nothing, or the reply and the answer's effect (R173, R174). -/
theorem takeRequest_cases (kind : Byte) (only : List Byte → Bool) (length : Nat) (answer : List Byte → State → Answer)
    (s : State) :
    (takeRequest kind only length answer s).1 = s
      ∨ ∃ r a, headRequest s = some r ∧ (a = answer r.body s ∨ a = .refuse .badLength)
        ∧ (takeRequest kind only length answer s).1 = a.effect (placeReply r a s) := by
  unfold takeRequest
  split
  · exact .inl rfl
  · next r hr =>
    split
    · refine .inr ⟨r, _, hr, ?_, rfl⟩
      unfold lengthChecked
      split
      · exact .inl rfl
      · exact .inr rfl
    · exact .inl rfl

/-- An answer's effect keeps the bounds in every state with the lanes of the one it was worked out in. -/
def EffectContained (a : Answer) (s : State) : Prop := ∀ t, t.lanes = s.lanes → Contained t (a.effect t)

namespace EffectContained

variable {s : State}

theorem refuse (r : ReplyStatus) : EffectContained (.refuse r) s := fun t _ => .refl t
theorem returns (results : List Byte) : EffectContained (.return results) s := fun t _ => .refl t
theorem apply {effect : State → State} (h : ∀ t, Contained t (effect t)) : EffectContained (.apply effect) s := fun t _ => h t

theorem withBody {α : Type} {answer : α → Answer} {body : Option α} (h : ∀ v, body = some v → EffectContained (answer v) s) :
    EffectContained (.withBody body answer) s := by
  cases body with
  | none => exact refuse _
  | some v => exact h v rfl

end EffectContained

theorem Contained.takeRequest {s : State} {answer : List Byte → State → Answer} (kind : Byte) (only : List Byte → Bool)
    (length : Nat) (ha : ∀ body, EffectContained (answer body s) s) :
    Contained s (takeRequest kind only length answer s).1 := by
  obtain he | ⟨r, a, hr, hkind, he⟩ := takeRequest_cases kind only length answer s <;> rw [he]
  · exact .refl s
  · refine (Contained.placeReply a hr).trans ?_
    obtain rfl | rfl := hkind
    · exact ha _ _ rfl
    · exact .refl _

theorem Contained.unknownTaken (s : State) : Contained s (unknownTaken s) := by
  unfold Machine.unknownTaken
  split
  · exact .refl s
  · next r hr =>
    split
    · exact .refl s
    · exact .placeReply _ hr

section
variable (s : State) (body : List Byte)

theorem effectContained_getLane : EffectContained (answerGetLane body s) s := .withBody fun _ _ => .returns _
theorem effectContained_getClass : EffectContained (answerGetClass body s) s := .withBody fun _ _ => .returns _
theorem effectContained_getJudge : EffectContained (answerGetJudge body s) s := .withBody fun _ _ => .returns _
theorem effectContained_setClass : EffectContained (answerSetClass body s) s :=
  .withBody fun _ _ => .apply fun _ => .same rfl
theorem effectContained_clearEvents : EffectContained (answerClearEvents body s) s := .apply fun _ => .same rfl
theorem effectContained_setAlert : EffectContained (answerSetAlert body s) s :=
  .withBody fun _ _ => .apply fun _ => .same rfl
theorem effectContained_reset : EffectContained (answerReset body s) s := .apply fun _ => .same rfl
theorem effectContained_setSupply : EffectContained (answerSetSupply body s) s :=
  .withBody fun _ _ => .apply fun _ => .after (.handWanted _) ⟨id, id, fun _ => countsRise_refl _⟩

/-- The limit of a readable body is at least 1 (R27). -/
theorem limit_of_readLaneBody {l : Lane} {p : LaneProfile} (h : readLaneBody body = some (l, p)) : 1 ≤ p.limit := by
  simp only [readLaneBody, Option.bind_eq_bind, Option.bind_eq_some_iff, Option.pure_def, Option.some.injEq, Prod.mk.injEq] at h
  obtain ⟨_, _, _, _, limit, hlimit, _, _, _, _, _, _, _, _, -, rfl⟩ := h
  exact (inRange_eq_iff.1 hlimit).1.1

theorem effectContained_setLane : EffectContained (answerSetLane body s) s := by
  unfold answerSetLane
  split
  · exact .refuse _
  · refine .withBody fun v hv => ?_
    split
    · exact .refuse _
    · next hsum =>
      intro t ht
      have hfits : ¬512 < limitSum s.lanes v.1 v.2.limit := hsum
      exact .setProfile _ _ (limit_of_readLaneBody body hv) (by rw [ht]; omega)

theorem effectContained_setJudge : EffectContained (answerSetJudge body s) s := by
  unfold answerSetJudge
  split
  · exact .refuse _
  · refine .withBody fun v _ => .apply fun t => .mapJudge _ t fun h => ?_
    unfold Judge.withSettings
    split <;> exact h

theorem effectContained_setDamping : EffectContained (answerSetDamping body s) s := by
  unfold answerSetDamping
  split
  · exact .refuse _
  · exact .withBody fun v _ => .apply (.setDamping v.1 v.2)

theorem effectContained_setCarry : EffectContained (answerSetCarry body s) s := by
  unfold answerSetCarry
  split
  · exact .withBody fun v _ => .apply fun _ => .same rfl
  · exact .refuse _

theorem effectContained_setModule : EffectContained (answerSetModule body s) s := by
  unfold answerSetModule
  split
  · exact .withBody fun v _ => .apply fun _ => .same rfl
  · exact .refuse _

theorem effectContained_start : EffectContained (answerStart body s) s := by
  unfold answerStart
  split
  · exact .apply .startCarrying
  · exact .refuse _

theorem effectContained_halt : EffectContained (answerHalt body s) s := by
  unfold answerHalt
  split
  · exact .apply (.halt (.inl rfl))
  · split
    · exact .apply (.halt (.inr rfl))
    · exact .refuse _

theorem effectContained_pin : EffectContained (answerPin body s) s := by
  refine .withBody fun p _ => ?_
  split
  · exact .refuse _
  · exact .apply (.takePin p)

theorem effectContained_handoverNow : EffectContained (answerHandoverNow body s) s := by
  unfold answerHandoverNow
  split
  · exact .refuse _
  · split
    · exact .apply (.startDrain .updateHold _)
    · exact .refuse _
  · exact .refuse _

end

end Sys2Proof.Machine
end

section
/-! PROOFS. The bounds under every command, and the notices that wait. -/

namespace Sys2Proof.Machine

/-! ## Notices that wait (R178) -/

/-- At the end of an event every notice has its conditions. -/
theorem noticesRead_closeEvent (s : State) : NoticesRead (closeEvent s) := by
  intro m hm
  obtain ⟨m', -, rfl⟩ := List.mem_map.1 hm
  cases m' with
  | reply kind tag body => rfl
  | notice number flag ms conds => cases conds <;> rfl

/-! ## The commands that clear no count -/

/-- A command's outcome keeps the bounds, its counts rise or stay, and the notices that wait have their conditions. -/
def OutcomeContained (s : State) (o : Host.Outcome State Fault Refusal) : Prop :=
  ∀ t, o = .next t → Contained s t ∧ (NoticesRead s → NoticesRead t)

section
variable {s t : State}

theorem outcomeContained_next (h : Contained s t) (hn : NoticesRead s → NoticesRead t) : OutcomeContained s (.next t) := by
  rintro _ ⟨⟩
  exact ⟨h, hn⟩

theorem OutcomeContained.runWith {effect : State → State × Bool} (h : Contained s (effect s).1) :
    OutcomeContained s (runWith s effect) := by
  unfold Machine.runWith
  split
  · exact outcomeContained_next (.refl s) id
  · exact outcomeContained_next (h.trans (.finish _ _ _)) fun _ => noticesRead_closeEvent _

theorem OutcomeContained.run {effect : State → State} (h : Contained s (effect s)) : OutcomeContained s (run s effect) := .runWith h

theorem OutcomeContained.runQuiet {effect : State → State} (h : Contained s (effect s)) : OutcomeContained s (runQuiet s effect) := by
  unfold Machine.runQuiet
  split
  · exact outcomeContained_next (.refl s) id
  · exact outcomeContained_next (h.trans (.closeEvent _)) fun _ => noticesRead_closeEvent _

theorem OutcomeContained.runRequest {answer : List Byte → State → Answer} (kind : Byte) (length : Nat)
    (ha : ∀ body, EffectContained (answer body s) s) : OutcomeContained s (runRequest kind length answer s) :=
  .runQuiet (effect := fun t => (Machine.takeRequest kind anyBody length answer t).1) (.takeRequest kind anyBody length ha)

theorem OutcomeContained.runActing {answer : List Byte → State → Answer} (kind : Byte) (only : List Byte → Bool) (length : Nat)
    (ha : ∀ body, EffectContained (answer body s) s) : OutcomeContained s (runActing kind only length answer s) :=
  .runWith (.takeRequest kind only length ha)

/-- The line's level is set while RESET_N is held, and its change is an event otherwise (R113, R119). -/
theorem OutcomeContained.fibreLink {level : State} {effect : State → State} (hlevel : boundView level = boundView s)
    (h : Contained s (effect s)) :
    OutcomeContained s (if s.resetHeld then .next level else Machine.run s effect) := by
  have hl : level.link.outbound = s.link.outbound := congrArg (fun v => v.2.1) hlevel
  split
  · exact outcomeContained_next (.same hlevel) fun hn => by rwa [NoticesRead, hl]
  · exact .run h

/-- The commands that may clear counts: power-on, the soft reset, and READ_COUNTS (R182, R184, R185). -/
def clearsCounts : Instr → Bool
  | .powerOn | .messageSent | .readCounts => true
  | _ => false

/-- Every command that clears no count keeps the bounds. -/
theorem outcomeContained_exec (s : State) (i : Instr) (h : clearsCounts i = false) : OutcomeContained s (exec i s) := by
  cases i with
  | powerOn => cases h
  | messageSent => cases h
  | readCounts => cases h
  | controlMessageReceived bytes => exact .runQuiet (.messageBytes bytes s)
  | interByteTimeout => exact .runQuiet (.abandonMessage s)
  | unknownRequest => exact .runQuiet (.unknownTaken s)
  | identify => exact .runRequest _ _ fun _ => .returns _
  | getStatus => exact .runRequest _ _ fun _ => .returns _
  | setLane => exact .runActing _ _ _ (effectContained_setLane s)
  | getLane => exact .runRequest _ _ (effectContained_getLane s)
  | setClass => exact .runRequest _ _ (effectContained_setClass s)
  | getClass => exact .runRequest _ _ (effectContained_getClass s)
  | setJudge => exact .runRequest _ _ (effectContained_setJudge s)
  | getJudge => exact .runRequest _ _ (effectContained_getJudge s)
  | setDamping => exact .runActing _ _ _ (effectContained_setDamping s)
  | setCarry => exact .runRequest _ _ (effectContained_setCarry s)
  | setModule => exact .runRequest _ _ (effectContained_setModule s)
  | setSupply => exact .runActing _ _ _ (effectContained_setSupply s)
  | start => exact .runActing _ _ _ (effectContained_start s)
  | haltImmediate => exact .runActing _ _ _ (effectContained_halt s)
  | haltAtBoundary => exact .runActing _ _ _ (effectContained_halt s)
  | pin => exact .runActing _ _ _ (effectContained_pin s)
  | handoverNow => exact .runActing _ _ _ (effectContained_handoverNow s)
  | readEvents => exact .runRequest _ _ fun _ => .returns _
  | clearEvents => exact .runRequest _ _ (effectContained_clearEvents s)
  | setAlert => exact .runRequest _ _ (effectContained_setAlert s)
  | reset => exact .runRequest _ _ (effectContained_reset s)
  | homeFrameArrival bytes => exact .runWith (.homeArrival bytes s)
  | homeLinkChange up => exact outcomeContained_next (.same rfl) id
  | deliveryComplete => exact .runQuiet (.deliverHead s)
  | frameDepartureComplete bearer => exact .run (.completeDeparture bearer s)
  | fibreFrameArrival bytes => exact .run (.fibreArrival bytes s)
  | moduleUnitArrival bytes => exact .run (.unitArrival bytes s)
  | fibreLinkDown => exact .fibreLink rfl (.fibreLinkLost s)
  | fibreLinkUp => exact .fibreLink rfl (.same rfl)
  | tallyTimerExpiry => exact .run (.same (by simp [boundView]))
  | openRetryTimerExpiry => exact .run (.same (by simp [boundView]))
  | rewindTimerExpiry => exact .run (.rewindExpires s)
  | intervalEnd bearer => exact .run (.endInterval bearer s)
  | probeEntryExpiry bearer tag => exact .runQuiet (.expireProbe bearer tag s)
  | decayTick bearer => exact .run (.tick bearer s)
  | returnHoldExpiry => exact .run (.holdExpires s)
  | drainTimerExpiry => exact .run (.drainExpires s)
  | powered => exact .run (.poweredTaken s)
  | attached => exact .run (.attachedTaken s)
  | attachFailed => exact .run (.attachFailedTaken s)
  | searchRoundEnd => exact .run (.roundEnds s)
  | signalAnswer level => exact .run (.signalTaken level s)
  | detached => exact .run (.detachedTaken s)
  | offAnswer => exact .run (.offTaken s)
  | responseTimeout => exact .run (.responseLate s)
  | lingerExpiry => exact .run (.lingerExpires s)
  | restTimerExpiry => exact .run (.restExpires s)
  | pollStartPasses => exact .run (.same (by simp [boundView]))
  | modReadySeen => exact .run (.same (by simp [boundView]))
  | readyLimitPasses => exact .run (.readyLate s)
  | pacingGapEnd => exact .run (.same (by simp [boundView]))
  | resetNAsserted => exact outcomeContained_next (.same rfl) id

end

/-! ## The commands that may clear counts -/

/-- From the one state to the other each of the bounds is kept. -/
structure BoundsKept (s t : State) : Prop where
  queues : QueuesBounded s → QueuesBounded t
  lanes : LanesBounded s.lanes → LanesBounded t.lanes
  counts : CountsBounded s.counts → CountsBounded t.counts
  notices : NoticesRead s → NoticesRead t

section
variable {s t : State}

theorem Contained.boundsKept (h : Contained s t) (hn : NoticesRead s → NoticesRead t) : BoundsKept s t :=
  ⟨h.queues, h.lanes, h.bounded_counts, hn⟩

theorem BoundsKept.refl (s : State) : BoundsKept s s := ⟨id, id, id, id⟩

theorem groupBounded_zero (g : CountGroup) : GroupBounded Counts.zero g := by cases g <;> decide

/-- A count that is cleared is within its bound (R182). -/
theorem CountsBounded.cleared {c : Counts} (h : CountsBounded c) (g : CountGroup) : CountsBounded (c.cleared g) := by
  obtain ⟨hl, hc, hp, hm, hk⟩ := h
  cases g with
  | lane => exact ⟨groupBounded_zero .lane, hc, hp, hm, hk⟩
  | carry => exact ⟨hl, groupBounded_zero .carry, hp, hm, hk⟩
  | probe => exact ⟨hl, hc, groupBounded_zero .probe, hm, hk⟩
  | module => exact ⟨hl, hc, hp, groupBounded_zero .module, hk⟩
  | link => exact ⟨hl, hc, hp, hm, groupBounded_zero .link⟩

/-- READ_COUNTS clears a group or none (R182). -/
theorem boundsKept_readCounts (h : exec .readCounts s = .next t) : BoundsKept s t := by
  change runQuiet s (fun u => (takeRequest 0x14 anyBody 2 answerReadCounts u).1) = .next t at h
  unfold runQuiet at h
  split at h
  · cases h
    exact .refl s
  · cases h
    dsimp only
    obtain he | ⟨r, a, hr, ha, he⟩ := takeRequest_cases 0x14 anyBody 2 answerReadCounts s
    · rw [he]
      exact (Contained.closeEvent s).boundsKept fun _ => noticesRead_closeEvent s
    · have hplaced := Contained.placeReply a hr
      have heffect : a.effect (placeReply r a s) = placeReply r a s
          ∨ ∃ g, a.effect (placeReply r a s) = { placeReply r a s with counts := s.counts.cleared g } := by
        obtain rfl | rfl := ha
        · unfold answerReadCounts Answer.withBody
          split
          · exact .inl rfl
          · next v _ =>
            dsimp only
            split
            · exact .inr ⟨v.1, rfl⟩
            · exact .inl rfl
        · exact .inl rfl
      rw [he]
      obtain he | ⟨g, he⟩ := heffect <;> rw [he]
      · exact (hplaced.trans (.closeEvent _)).boundsKept fun _ => noticesRead_closeEvent _
      · have hclosed := Contained.closeEvent { placeReply r a s with counts := s.counts.cleared g }
        exact ⟨hclosed.queues ∘ hplaced.queues, hclosed.lanes ∘ hplaced.lanes, fun hb => hclosed.bounded_counts (hb.cleared g),
          fun _ => noticesRead_closeEvent _⟩

/-- A start leaves empty queues and lanes but for its notice, and no counts but the LINK counts (R184, R185). -/
theorem boundsKept_startUp (epoch : BitVec 16) (link : LinkCounts)
    (hlink : CountsBounded s.counts → ∀ n ∈ link.inOrder, n ≤ 4294967295) :
    BoundsKept s (closeEvent (startUp epoch link t)) := by
  refine ⟨fun _ => ?_, fun _ => ?_, fun hb => ?_, fun _ => noticesRead_closeEvent _⟩
  · rw [closeEvent_startUp]
    exact ⟨Nat.zero_le 4, (by decide : 1 ≤ 8), Nat.zero_le 64, Nat.zero_le 4, Nat.zero_le 4⟩
  · rw [closeEvent_startUp]
    exact (by decide : LanesBounded Lanes.atReset)
  · rw [closeEvent_startUp]
    exact ⟨groupBounded_zero .lane, groupBounded_zero .carry, groupBounded_zero .probe, groupBounded_zero .module, hlink hb⟩

theorem Contained.judgeResetReport (b : Bearer) (s : State) : Contained s (judgeResetReport b s) := .reportIf _ _ _

/-- MESSAGE_SENT takes the head off the outbound queue, and may be the soft reset (R176, R185). -/
theorem boundsKept_messageSent (h : exec .messageSent s = .next t) : BoundsKept s t := by
  cases hr : s.resetHeld with
  | true =>
    simp only [exec, execMessageSent, runQuiet, hr, if_true, Host.Outcome.next.injEq] at h
    exact h ▸ .refl s
  | false =>
    rw [exec_messageSent hr, Host.Outcome.next.injEq] at h
    subst h
    cases hq : s.link.outbound with
    | nil =>
      rw [headSent_of_empty hq]
      exact (Contained.closeEvent s).boundsKept fun _ => noticesRead_closeEvent s
    | cons m rest =>
      have hleft : Contained s { s with link := { s.link with outbound := rest, sent := m.envelope } } := by
        refine .ofLink id (fun hb => ?_) rfl
        rw [hq, List.length_cons] at hb
        exact (Nat.le_succ _).trans hb
      by_cases hkept : s.link.resetTaken = false ∨ m.answersReset = false
      · rw [headSent_of_kept hq hkept]
        exact (hleft.trans (.closeEvent _)).boundsKept fun _ => noticesRead_closeEvent _
      · obtain ⟨htaken, hm⟩ : s.link.resetTaken = true ∧ m.answersReset = true := by simpa using hkept
        rw [headSent_of_reset hq htaken hm]
        refine boundsKept_startUp _ _ fun hb => ?_
        have hreports := hleft.trans ((Contained.judgeResetReport .fibre _).trans (.judgeResetReport .radio _))
        obtain ⟨-, -, -, -, hlink⟩ := hreports.bounded_counts hb
        exact hlink

/-- Every command keeps the bounds. -/
theorem boundsKept_exec (i : Instr) (h : exec i s = .next t) : BoundsKept s t := by
  cases hi : clearsCounts i with
  | false =>
    obtain ⟨hc, hn⟩ := outcomeContained_exec s i hi t h
    exact hc.boundsKept hn
  | true =>
    unfold clearsCounts at hi
    split at hi
    · cases h
      exact boundsKept_startUp _ _ fun _ => by decide
    · exact boundsKept_messageSent h
    · exact boundsKept_readCounts h
    · cases hi

end

end Sys2Proof.Machine

open Sys2Proof.Machine in
/-- Settles O56. Every effect is followed in the relation `Contained`, in which counts only rise; the three commands that may clear
counts are taken by themselves. -/
theorem everyStepKeepsTheBounds : Obligations.EveryStepKeepsTheBounds := by
  intro s t h
  have hkept : BoundsKept s t := by
    unfold step at h
    split at h
    · cases h
      unfold idle
      split <;> exact ⟨id, id, id, id⟩
    · next c rest _ =>
      obtain ⟨hq, hl, hc, hn⟩ := boundsKept_exec c h
      exact ⟨hq, hl, hc, hn⟩
  exact ⟨hkept.queues, hkept.lanes, hkept.counts, hkept.notices⟩
end

section
/-! PROOFS. A request that can be taken, and what it is answered with (R173, R174). -/

namespace Sys2Proof.Machine

/-! ## A request of the right length is taken -/

section
variable {s : State} {kind tag : Byte} {body : List Byte} {length : Nat} {answer : List Byte → State → Answer} {a : Answer}
  {only : List Byte → Bool}

theorem headRequest_of_takes (h : Takes s kind tag body) : headRequest s = some ⟨kind, tag, body⟩ := by
  obtain ⟨-, htaken, hplace, hhead⟩ := h
  rw [headRequest, if_pos ⟨hplace, htaken⟩, hhead]

/-- The reply takes its place, and the effect follows (R173; log entry 9). -/
theorem takeRequest_of_takes (h : Takes s kind tag body) (hl : body.length = length) (ho : only body = true)
    (ha : answer body s = a) :
    takeRequest kind only length answer s = (a.effect (s.replied kind tag a.body), a.opportunity) := by
  unfold takeRequest
  rw [headRequest_of_takes h]
  dsimp only
  rw [if_pos ⟨rfl, ho⟩, lengthChecked, if_pos hl, ha]
  rfl

theorem runRequest_of_takes (h : Takes s kind tag body) (hl : body.length = length) (ha : answer body s = a) :
    runRequest kind length answer s = .next (closeEvent (a.effect (s.replied kind tag a.body))) := by
  have hr := h.1
  simp [runRequest, runQuiet, hr, takeRequest_of_takes h hl (only := anyBody) rfl ha]

theorem runActing_of_takes (h : Takes s kind tag body) (hl : body.length = length) (ho : only body = true)
    (ha : answer body s = a) :
    runActing kind only length answer s = .next (finish a.opportunity s (a.effect (s.replied kind tag a.body))) := by
  have hr := h.1
  simp [runActing, runWith, hr, takeRequest_of_takes h hl ho ha]

end

section
variable {α : Type} {v : α} {body : Option α} {answer : α → Answer}

theorem withBody_of_some (h : body = some v) : Answer.withBody body answer = answer v := by rw [h, Answer.withBody]

theorem withBody_of_none (h : body = none) : Answer.withBody body answer = .refuse .badValue := by rw [h, Answer.withBody]

end

/-! ## Codes outside their range (R174, R175) -/

section
variable {c : Byte}

theorem laneOfCode_of_large (h : 4 ≤ c.toNat) : laneOfCode c = none := by
  unfold laneOfCode
  rw [if_neg (by bv_omega), if_neg (by bv_omega), if_neg (by bv_omega), if_neg (by bv_omega)]

theorem bearerOfCode_of_other (h1 : c ≠ 1) (h2 : c ≠ 2) : bearerOfCode c = none := by
  rw [bearerOfCode, if_neg h1, if_neg h2]

theorem groupOfCode_of_large (h : 5 ≤ c.toNat) : groupOfCode c = none := by
  unfold groupOfCode
  rw [if_neg (by bv_omega), if_neg (by bv_omega), if_neg (by bv_omega), if_neg (by bv_omega), if_neg (by bv_omega)]

theorem flagOfCode_of_large (h : 2 ≤ c.toNat) : flagOfCode c = none := by
  rw [flagOfCode, if_neg (by bv_omega), if_neg (by bv_omega)]

theorem attentionOfCode_of_large (h : 2 ≤ c.toNat) : attentionOfCode c = none := by
  rw [attentionOfCode, if_neg (by bv_omega), if_neg (by bv_omega)]

theorem supplyOfCode_of_large (h : 2 ≤ c.toNat) : supplyOfCode c = none := by
  rw [supplyOfCode, if_neg (by bv_omega), if_neg (by bv_omega)]

/-- A code of two values is 0 or 1. -/
theorem eq_zero_or_one_of_small (h : c.toNat ≤ 1) : c = 0 ∨ c = 1 := by bv_omega

theorem attentionOfCode_of_small (h : c.toNat ≤ 1) : attentionOfCode c = some (if c = 0 then .latch else .follow) := by
  obtain rfl | rfl := eq_zero_or_one_of_small h <;> rfl

theorem supplyOfCode_of_small (h : c.toNat ≤ 1) : supplyOfCode c = some (if c = 0 then .mains else .battery) := by
  obtain rfl | rfl := eq_zero_or_one_of_small h <;> rfl

end

/-- READ_COUNTS with a code outside its range cannot be read. -/
theorem readCountsBody_of_large {code clear : Byte} (h : 5 ≤ code.toNat ∨ 2 ≤ clear.toNat) :
    readCountsBody [code, clear] = none := by
  change ((groupOfCode code).bind fun g => (flagOfCode clear).bind fun f => some (g, f)) = none
  rcases h with h | h
  · rw [groupOfCode_of_large h, Option.bind_none]
  · rw [flagOfCode_of_large h]
    cases groupOfCode code <;> rfl

/-- A group's code (R175, R182). -/
def CountGroup.code : CountGroup → Byte
  | .lane => 0
  | .carry => 1
  | .probe => 2
  | .module => 3
  | .link => 4

theorem readCountsBody_code (g : CountGroup) (clear : Bool) :
    readCountsBody [g.code, codeOfFlag clear] = some (g, clear) := by
  cases g <;> cases clear <;> rfl

end Sys2Proof.Machine
end

section
/-! PROOFS. The requests that read (R175, R182). -/

namespace Sys2Proof.Machine

section
variable {s : State} {tag c code clear : Byte}

theorem answerGetLane_of_code (l : Lane) : answerGetLane [codeOfLane l] s = .return (laneResult (s.lanes.get l)) :=
  withBody_of_some (laneOfCode_eq_iff.2 rfl)

theorem answerGetLane_of_large (h : 4 ≤ c.toNat) : answerGetLane [c] s = .refuse .badValue :=
  withBody_of_none (laneOfCode_of_large h)

theorem answerGetClass_of_index (i : Fin 16) :
    answerGetClass [BitVec.ofNat 8 i.val] s = .return (classResult i (s.classMap.get i)) :=
  withBody_of_some ((readIndex_eq_iff _ _ i).2 rfl)

theorem answerGetClass_of_large (h : 16 ≤ c.toNat) : answerGetClass [c] s = .refuse .badValue :=
  withBody_of_none (dif_neg (Nat.not_lt.2 h))

theorem answerGetJudge_of_code (b : Bearer) :
    answerGetJudge [codeOfBearer (some b)] s = .return (judgeResult b (s.judge b).settings) :=
  withBody_of_some (bearerOfCode_eq_iff.2 rfl)

theorem answerGetJudge_of_other (h1 : c ≠ 1) (h2 : c ≠ 2) : answerGetJudge [c] s = .refuse .badValue :=
  withBody_of_none (bearerOfCode_of_other h1 h2)

theorem answerReadCounts_of_code (g : CountGroup) (clear : Bool) : answerReadCounts [g.code, codeOfFlag clear] s =
    { status := .ok, results := countsResult s.counts g
      effect := fun t => if clear then { t with counts := t.counts.cleared g } else t } :=
  withBody_of_some (readCountsBody_code g clear)

theorem answerReadCounts_of_large (h : 5 ≤ code.toNat ∨ 2 ≤ clear.toNat) :
    answerReadCounts [code, clear] s = .refuse .badValue := withBody_of_none (readCountsBody_of_large h)

/-- READ_COUNTS answers with a group's counts, and with clear YES the group becomes 0 (R182). -/
theorem exec_readCounts {g : CountGroup} (clear : Bool) (h : Takes s 0x14 tag [g.code, codeOfFlag clear]) :
    exec .readCounts s = .next (closeEvent { s.replied 0x14 tag (0 :: countsResult s.counts g) with
      counts := if clear then s.counts.cleared g else s.counts }) := by
  cases clear <;> exact runRequest_of_takes h rfl (answerReadCounts_of_code g _)

end

end Sys2Proof.Machine

open Sys2Proof.Machine in
/-- Settles O9: each request's answer, where its body can be read and where it cannot. -/
theorem readingRequestsAnswer : Obligations.ReadingRequestsAnswer := by
  intro s tag c code clear l i b g
  refine ⟨fun h => runRequest_of_takes h rfl rfl, fun h => runRequest_of_takes h rfl rfl,
    fun h => runRequest_of_takes h rfl (answerGetLane_of_code l),
    fun h hc => runRequest_of_takes h rfl (answerGetLane_of_large hc),
    fun h => runRequest_of_takes h rfl (answerGetClass_of_index i),
    fun h hc => runRequest_of_takes h rfl (answerGetClass_of_large hc),
    fun h => runRequest_of_takes h rfl (answerGetJudge_of_code b),
    fun h h1 h2 => runRequest_of_takes h rfl (answerGetJudge_of_other h1 h2),
    fun h => runRequest_of_takes h rfl rfl,
    fun h => ⟨fun hcode hclear => ?_, fun hbad => runRequest_of_takes h rfl (answerReadCounts_of_large hbad)⟩⟩
  obtain rfl : code = g.code := hcode.trans (by cases g <;> rfl)
  obtain rfl | rfl := hclear
  · exact exec_readCounts false h
  · rw [exec_readCounts true h]
    cases g <;> rfl
end

section
/-! PROOFS. The requests that write settings, flags and the attention (R26, R51, R90, R122, R171, R180, R185). -/

namespace Sys2Proof.Machine

section
variable {s : State} {body : List Byte} {mode x y z : Byte}

theorem answerSetClass_of_some {i : Fin 16} {e : ClassEntry} (h : readClassBody body = some (i, e)) :
    answerSetClass body s = .apply fun t => { t with classMap := t.classMap.set i e } := withBody_of_some h

theorem answerSetClass_of_none (h : readClassBody body = none) : answerSetClass body s = .refuse .badValue :=
  withBody_of_none h

theorem answerSetJudge_of_draining (h : s.draining = true) : answerSetJudge body s = .refuse .busy := if_pos h

theorem answerSetJudge_of_some (hd : s.draining = false) {b : Bearer} {j : JudgeSettings}
    (h : readJudgeBody (fun b => (s.judge b).settings) body = some (b, j)) :
    answerSetJudge body s = .apply fun t => t.mapJudge b (Judge.withSettings j) := by
  rw [answerSetJudge, hd]
  exact withBody_of_some h

theorem answerSetJudge_of_none (hd : s.draining = false) (h : readJudgeBody (fun b => (s.judge b).settings) body = none) :
    answerSetJudge body s = .refuse .badValue := by
  rw [answerSetJudge, hd]
  exact withBody_of_none h

theorem answerSetCarry_of_carrying (h : s.selector.status ≠ .stopped) : answerSetCarry body s = .refuse .wrongState := if_neg h

theorem answerSetCarry_of_some (hs : s.selector.status = .stopped) {v : CarrySettings} (h : readCarryBody body = some v) :
    answerSetCarry body s = .apply (setCarry v) :=
  (if_pos hs).trans (withBody_of_some h)

theorem answerSetCarry_of_none (hs : s.selector.status = .stopped) (h : readCarryBody body = none) :
    answerSetCarry body s = .refuse .badValue := (if_pos hs).trans (withBody_of_none h)

theorem answerSetModule_of_carrying (h : s.selector.status ≠ .stopped) : answerSetModule body s = .refuse .wrongState :=
  if_neg h

theorem answerSetModule_of_some (hs : s.selector.status = .stopped) {m : ModuleSettings} (h : readModuleBody body = some m) :
    answerSetModule body s = .apply fun t => { t with radio := { t.radio with settings := m } } :=
  (if_pos hs).trans (withBody_of_some h)

theorem answerSetModule_of_none (hs : s.selector.status = .stopped) (h : readModuleBody body = none) :
    answerSetModule body s = .refuse .badValue := (if_pos hs).trans (withBody_of_none h)

/-- A set of flags is the lower 19 bits of its three bytes (R175). -/
theorem flagSetAt_three (rest : List Byte) : flagSetAt (x :: y :: z :: rest) 0 = (x ++ y ++ z).extractLsb' 0 19 :=
  BitVec.setWidth_eq_extractLsb' (by decide)

theorem answerClearEvents_three : answerClearEvents [x, y, z] s = .apply fun t =>
    { t with events := { t.events with flags := t.events.flags &&& ~~~((x ++ y ++ z).extractLsb' 0 19) } } := by
  rw [answerClearEvents, flagSetAt_three]

theorem answerSetAlert_of_small (h : mode.toNat ≤ 1) : answerSetAlert [x, y, z, mode] s = .apply fun t =>
    { t with events := { t.events with
      mask := (x ++ y ++ z).extractLsb' 0 19
      mode := if mode = 0 then .latch else .follow } } := by
  rw [answerSetAlert, flagSetAt_three]
  exact withBody_of_some (attentionOfCode_of_small h)

theorem answerSetAlert_of_large (h : 2 ≤ mode.toNat) : answerSetAlert [x, y, z, mode] s = .refuse .badValue :=
  withBody_of_none (attentionOfCode_of_large h)

end

end Sys2Proof.Machine

open Sys2Proof.Machine in
/-- Settles O13: each request's answer, refused and accepted. -/
theorem settingsAndEventRequestsWrite : Obligations.SettingsAndEventRequestsWrite := by
  intro s tag x y z mode body i e b j v m
  refine ⟨fun h hl => ⟨fun hb => ?_, fun hb => ?_⟩, fun h hl => ⟨fun hd => ?_, fun hd hb => ?_, fun hd hb => ?_⟩,
    fun h hl => ⟨fun hs => ?_, fun hs hb => ?_, fun hs hb => ?_⟩,
    fun h hl => ⟨fun hs => ?_, fun hs hb => ?_, fun hs hb => ?_⟩, fun h => ?_, fun h => ⟨fun hm => ?_, fun hm => ?_⟩, fun h => ?_⟩
  · exact runRequest_of_takes h hl (answerSetClass_of_none hb)
  · exact runRequest_of_takes h hl (answerSetClass_of_some hb)
  · exact runRequest_of_takes h hl (answerSetJudge_of_draining hd)
  · exact runRequest_of_takes h hl (answerSetJudge_of_none hd hb)
  · exact runRequest_of_takes h hl (answerSetJudge_of_some hd hb)
  · exact runRequest_of_takes h hl (answerSetCarry_of_carrying hs)
  · exact runRequest_of_takes h hl (answerSetCarry_of_none hs hb)
  · exact runRequest_of_takes h hl (answerSetCarry_of_some hs hb)
  · exact runRequest_of_takes h hl (answerSetModule_of_carrying hs)
  · exact runRequest_of_takes h hl (answerSetModule_of_none hs hb)
  · exact runRequest_of_takes h hl (answerSetModule_of_some hs hb)
  · exact runRequest_of_takes h rfl answerClearEvents_three
  · exact runRequest_of_takes h rfl (answerSetAlert_of_large hm)
  · exact runRequest_of_takes h rfl (answerSetAlert_of_small hm)
  · exact runRequest_of_takes h rfl rfl
end

section
/-! PROOFS. SET_LANE (R28). -/

namespace Sys2Proof.Machine

section
variable {s : State} {body : List Byte} {l : Lane} {p : LaneProfile}

theorem answerSetLane_of_draining (h : s.draining = true) : answerSetLane body s = .refuse .busy := if_pos h

theorem answerSetLane_of_none (hd : s.draining = false) (h : readLaneBody body = none) :
    answerSetLane body s = .refuse .badValue := by
  rw [answerSetLane, hd]
  exact withBody_of_none h

theorem answerSetLane_of_large (hd : s.draining = false) (h : readLaneBody body = some (l, p))
    (hsum : 512 < limitSum s.lanes l p.limit) : answerSetLane body s = .refuse .limit := by
  rw [answerSetLane, hd]
  exact (withBody_of_some h).trans (if_pos hsum)

theorem answerSetLane_of_fits (hd : s.draining = false) (h : readLaneBody body = some (l, p))
    (hsum : limitSum s.lanes l p.limit ≤ 512) :
    answerSetLane body s = { status := .ok, effect := setProfile l p, opportunity := true } := by
  rw [answerSetLane, hd]
  exact (withBody_of_some h).trans (if_neg (Nat.not_lt.2 hsum))

theorem exec_setLane_of_takes {tag : Byte} {a : Answer} (h : Takes s 0x03 tag body) (hl : body.length = 9)
    (ha : answerSetLane body s = a) :
    exec .setLane s = .next (finish a.opportunity s (a.effect (s.replied 0x03 tag a.body))) :=
  runActing_of_takes h hl rfl ha

/-- A lane takes a profile: its queue is trimmed, the frames given up are counted, and LANE_DROP is reported for them (R28). -/
theorem setProfile_eq (l : Lane) (p : LaneProfile) (s : State) : setProfile l p s =
    let given := (s.lanes.get l).queue.length - p.limit
    let written := State.countLane l (fun c => { c with overflow := min (c.overflow + given) 4294967295 })
      { s with lanes := s.lanes.set l ⟨p, trimQueue p.limit p.policy (s.lanes.get l).queue⟩ }
    if given = 0 then written else report .laneDrop written := by
  dsimp only
  unfold setProfile reportIf
  simp only [decide_eq_true_eq, Nat.pos_iff_ne_zero, ite_not]
  rfl

/-- The four limits with one of them replaced (R28). -/
theorem limitSum_eq (u : Lanes) (l : Lane) (n : Nat) : limitSum u l n = (match l with
    | .voice => u.signal.profile.limit + u.priority.profile.limit + u.bulk.profile.limit
    | .signal => u.voice.profile.limit + u.priority.profile.limit + u.bulk.profile.limit
    | .priority => u.voice.profile.limit + u.signal.profile.limit + u.bulk.profile.limit
    | .bulk => u.voice.profile.limit + u.signal.profile.limit + u.priority.profile.limit) + n := by
  cases l <;> simp only [limitSum, Lanes.set, Lanes.get] <;> omega

end

end Sys2Proof.Machine

open Sys2Proof.Machine in
/-- Settles O12: SET_LANE's four answers, and the effect of the last. -/
theorem setLaneWritesAndTrims : Obligations.SetLaneWritesAndTrims := by
  intro s tag body l p h hl
  refine ⟨fun hd => ?_, fun hd hb => ?_, fun hd hb => ?_⟩
  · rw [exec_setLane_of_takes h hl (answerSetLane_of_draining hd)]
    rfl
  · rw [exec_setLane_of_takes h hl (answerSetLane_of_none hd hb)]
    rfl
  · have hsum := limitSum_eq s.lanes l p.limit
    refine ⟨fun hlarge => ?_, fun hfits => ?_⟩
    · rw [exec_setLane_of_takes h hl (answerSetLane_of_large hd hb (lt_of_lt_of_eq hlarge hsum.symm))]
      rfl
    · rw [exec_setLane_of_takes h hl (answerSetLane_of_fits hd hb (hsum.trans_le hfits))]
      dsimp only
      rw [setProfile_eq]
      rfl
end

section
/-! PROOFS. The class map (R24, R25). -/

namespace Sys2Proof.Machine

section
variable {map : Vector ClassEntry 16} {frame : List Byte}

/-- An entry matches a frame by its tag key and its priority key (R25). -/
theorem matches_iff (e : ClassEntry) (tag : Option (BitVec 12)) (priority : BitVec 3) : e.matches tag priority = true ↔
    e.used = true ∧ (e.tagKey = .any ∨ (e.tagKey = .untagged ∧ tag = none) ∨ ∃ n, e.tagKey = .tag n ∧ tag = some n)
      ∧ (e.priorityKey = .any ∨ e.priorityKey = .level priority) := by
  obtain ⟨used, tagKey, priorityKey, lane⟩ := e
  unfold ClassEntry.matches
  cases tagKey <;> cases priorityKey <;> simp [and_assoc]

/-- The entry matches the frame's own tag and priority. -/
def ClassEntry.admitsFrame (e : ClassEntry) (frame : List Byte) : Bool :=
  e.matches (tagAndPriority frame).1 (tagAndPriority frame).2

theorem classify_of_first (i : Fin 16) (hi : (map.get i).admitsFrame frame = true)
    (hbefore : ∀ j < i, (map.get j).admitsFrame frame = false) : classify map frame = (map.get i).lane := by
  have hfind : map.toList.find? (·.admitsFrame frame) = some (map.get i) := by
    refine List.find?_eq_some_iff_getElem.2 ⟨hi, i, by simp, by simp [Vector.get], fun j hj => ?_⟩
    have hmiss := hbefore ⟨j, hj.trans i.isLt⟩ hj
    simpa [Vector.get] using hmiss
  change (match map.toList.find? (·.admitsFrame frame) with
    | some e => e.lane
    | none => .bulk) = _
  rw [hfind]

theorem classify_of_none (h : ∀ i, (map.get i).admitsFrame frame = false) : classify map frame = .bulk := by
  have hfind : map.toList.find? (·.admitsFrame frame) = none := by
    refine List.find?_eq_none.2 fun e he => ?_
    obtain ⟨i, hi, rfl⟩ := List.mem_iff_getElem.1 he
    have hmiss := h ⟨i, by simpa using hi⟩
    simpa [Vector.get] using hmiss
  change (match map.toList.find? (·.admitsFrame frame) with
    | some e => e.lane
    | none => .bulk) = _
  rw [hfind]

end

end Sys2Proof.Machine

open Sys2Proof.Machine in
/-- Settles O23: the search through the entries stops at the first that admits the frame. -/
theorem firstMatchingEntryGivesTheLane : Obligations.FirstMatchingEntryGivesTheLane := by
  intro map frame tagged tag priority admits
  have hadmits : ∀ e, e.admitsFrame frame = true ↔ admits e := by
    intro e
    by_cases htagged : tagged
    · have hkey : tagAndPriority frame = (some tag, priority) := by
        rw [show priority = _ from if_pos htagged]
        exact if_pos htagged
      simp [ClassEntry.admitsFrame, hkey, matches_iff, admits, htagged]
    · have hkey : tagAndPriority frame = (none, priority) := by
        rw [show priority = _ from if_neg htagged]
        exact if_neg htagged
      simp [ClassEntry.admitsFrame, hkey, matches_iff, admits, htagged]
  simp only [← hadmits, Bool.not_eq_true]
  exact ⟨classify_of_first, classify_of_none⟩
end

section
/-! PROOFS. A home frame at its lane, and the home port (R23, R29, R30, R37). -/

namespace Sys2Proof.Machine

section
variable {s : State} {bytes frame : List Byte} {l : Lane} {f : QueuedFrame}

theorem exec_homeFrameArrival (hr : s.resetHeld = false) :
    exec (.homeFrameArrival bytes) s = .next (finish (homeArrival bytes s).2 s (homeArrival bytes s).1) := by
  simp [exec, execHomeFrameArrival, runWith, hr]

/-- The home port hands a good frame of a right length to its lane (R23). -/
theorem homeArrival_of_taken (hup : s.home.linkUp = true) (hbody : ethernetBody bytes = some frame) (hmin : 60 ≤ frame.length)
    (hmax : frame.length ≤ 1522) : homeArrival bytes s = laneArrival (classify s.classMap frame) ⟨frame, s.ms⟩ s := by
  simp [homeArrival, hup, hbody, hmin, hmax]

/-- The home port discards every other frame (R23; log entry 20). -/
theorem homeArrival_of_discarded (h : s.home.linkUp = false ∨ ethernetBody bytes = none
    ∨ (ethernetBody bytes = some frame ∧ (frame.length < 60 ∨ 1522 < frame.length))) : homeArrival bytes s = (s, false) := by
  unfold homeArrival
  split
  · next hup =>
    obtain h | h | ⟨hbody, hlen⟩ := h
    · rw [hup] at h
      cases h
    · rw [h]
    · rw [hbody]
      exact if_neg (by omega)
  · rfl

/-! The cases of R30. -/

theorem laneArrival_of_stopped (h : s.selector.status = .stopped) : laneArrival l f s = (s.countCarry .upStoppedDrop, false) :=
  if_pos h

theorem laneArrival_of_barred (h : s.selector.status ≠ .stopped) (hb : s.barred l = true) :
    laneArrival l f s = (s.countLane l (.upBarred 1), false) := (if_neg h).trans (if_pos hb)

theorem laneArrival_of_place (h : s.selector.status ≠ .stopped) (hb : s.barred l = false)
    (hp : (s.lanes.get l).queue.length < (s.lanes.get l).profile.limit) :
    laneArrival l f s = ((s.setQueue l ((s.lanes.get l).queue ++ [f])).countLane l .upAccepted, true) := by
  simp [laneArrival, h, hb, hp]

theorem laneArrival_of_dropNew (h : s.selector.status ≠ .stopped) (hb : s.barred l = false)
    (hp : (s.lanes.get l).profile.limit ≤ (s.lanes.get l).queue.length) (hd : (s.lanes.get l).profile.policy = .dropNew) :
    laneArrival l f s = (report .laneDrop (s.countLane l (.upOverflow 1)), false) := by
  simp [laneArrival, h, hb, Nat.not_lt.2 hp, hd]

theorem laneArrival_of_dropOld (h : s.selector.status ≠ .stopped) (hb : s.barred l = false)
    (hp : (s.lanes.get l).profile.limit ≤ (s.lanes.get l).queue.length) (hd : (s.lanes.get l).profile.policy = .dropOld) :
    laneArrival l f s = (report .laneDrop (((s.setQueue l ((s.lanes.get l).queue.drop 1 ++ [f])).countLane l
      (.upOverflow 1)).countLane l .upAccepted), true) := by
  simp [laneArrival, h, hb, Nat.not_lt.2 hp, hd]

/-- A lane is barred on the radio or on battery, by its profile (R29). -/
theorem barred_iff : s.barred l = true ↔ (s.active = some .radio ∧ (s.lanes.get l).profile.radioBar = true)
    ∨ (s.lanes.supply = .battery ∧ (s.lanes.get l).profile.batteryBar = true) := by
  simp [State.barred]

/-! A completed delivery (R37). -/

theorem deliverHead_of_cons {head : Delivery} {rest : List Delivery} (hup : s.home.linkUp = true)
    (h : s.home.delivery = head :: rest) :
    deliverHead s = { s with home := { s.home with delivery := rest, sent := withFrameCheck head.payload } } := by
  simp [deliverHead, hup, h]

theorem deliverHead_of_nothing (h : s.home.linkUp = false ∨ s.home.delivery = []) : deliverHead s = s := by
  rcases h with h | h <;> simp [deliverHead, h]

theorem exec_deliveryComplete (hr : s.resetHeld = false) : exec .deliveryComplete s = .next (closeEvent (deliverHead s)) := by
  simp [exec, execDeliveryComplete, runQuiet, hr]

end

end Sys2Proof.Machine

open Sys2Proof.Machine in
/-- Settles O24: the cases of R30, in order. -/
theorem homeFrameJoinsItsLane : Obligations.HomeFrameJoinsItsLane := by
  intro s bytes frame l hr hup hbody hmin hmax hclass lane counts barred counted joined up
  have hexec : exec (.homeFrameArrival bytes) s
      = .next (finish (laneArrival l ⟨frame, s.ms⟩ s).2 s (laneArrival l ⟨frame, s.ms⟩ s).1) := by
    rw [exec_homeFrameArrival hr, homeArrival_of_taken hup hbody hmin hmax, hclass]
  have hopen : ¬barred → s.barred l = false := fun hb => Bool.eq_false_iff.2 (barred_iff.not.2 hb)
  refine ⟨fun hs => ?_, fun hs hb => ?_, fun hs hb hfull hp => ?_, fun hs hb hfull hp => ?_, fun hs hb hplace => ?_⟩
  · rw [hexec, laneArrival_of_stopped hs]
    rfl
  · rw [hexec, laneArrival_of_barred hs (barred_iff.2 hb)]
    rfl
  · rw [hexec, laneArrival_of_dropNew hs (hopen hb) hfull hp]
    rfl
  · rw [hexec, laneArrival_of_dropOld hs (hopen hb) hfull hp]
    cases l <;> rfl
  · rw [hexec, laneArrival_of_place hs (hopen hb) hplace]
    rfl

open Sys2Proof.Machine in
/-- Settles O25. -/
theorem homePortScreensAndDelivers : Obligations.HomePortScreensAndDelivers := by
  intro s bytes frame up head rest
  refine ⟨rfl, fun hr => ⟨fun h => ?_, fun hup hd => ⟨?_, ethernetBody_withFrameCheck _⟩, fun h => ?_⟩⟩
  · rw [exec_homeFrameArrival hr, homeArrival_of_discarded h]
  · rw [exec_deliveryComplete hr, deliverHead_of_cons hup hd]
    rfl
  · rw [exec_deliveryComplete hr, deliverHead_of_nothing h]
end

section
/-! PROOFS. What the service of the fibre port leaves of the module port (R55, R162). -/

namespace Sys2Proof.Machine

theorem serve_of_busy {s : State} {o : Bool} {b : Bearer} (h : s.portFree b = false) : serve o b s = s := by
  rw [serve, h]
  rfl

/-- The module controller is as it was, and no frame has come to wait for the module port. -/
structure ModulePortRests (s t : State) : Prop where
  radio : t.radio = s.radio
  waiting : s.sender.waitingRadio = [] → t.sender.waitingRadio = []

namespace ModulePortRests

variable {s t u : State}

theorem refl (s : State) : ModulePortRests s s := ⟨rfl, id⟩

theorem trans (h : ModulePortRests s t) (h' : ModulePortRests t u) : ModulePortRests s u :=
  ⟨h'.radio.trans h.radio, h'.waiting ∘ h.waiting⟩

theorem after (h' : ModulePortRests t u) (h : ModulePortRests s t) : ModulePortRests s u := h.trans h'

theorem of_eq (hr : t.radio = s.radio) (hw : t.sender.waitingRadio = s.sender.waitingRadio) : ModulePortRests s t :=
  ⟨hr, hw.trans⟩

theorem startFrame (f : CarryFrame) (s : State) : ModulePortRests s (startFrame .fibre f s) := by
  unfold Machine.startFrame settleTally
  split
  · exact ⟨by simp [putOnPort], fun h => by simp [clearTally, State.keepWaiting, putOnPort, h]⟩
  · exact .of_eq rfl rfl

theorem startWaiting (w : WaitingFrame) (rest : List WaitingFrame) (s : State) :
    ModulePortRests s (startWaiting .fibre w rest s) := by
  have hstarted := (ModulePortRests.of_eq (s := s) (t := s.setWaiting .fibre rest) rfl rfl).trans (.startFrame (w.frame .fibre s) _)
  unfold Machine.startWaiting
  dsimp only
  split
  · exact hstarted.trans (.of_eq (by simp) (by simp))
  · exact hstarted

theorem startStream (k : MarkKind) (s : State) : ModulePortRests s (startStream .fibre k s) := by
  unfold Machine.startStream
  exact .after (.startFrame _ _) (.of_eq rfl rfl)

theorem passCopy (c : Seq) (s : State) : ModulePortRests s (passCopy .fibre c s) := by
  unfold Machine.passCopy
  split
  · exact .of_eq rfl rfl
  · refine .trans (.of_eq ?_ ?_) (.startFrame _ _)
    · split <;> simp
    · split <;> simp

theorem sendHead (l : Lane) (f : QueuedFrame) (s : State) : ModulePortRests s (sendHead l f .fibre s) := by
  unfold Machine.sendHead
  split
  · exact .after (.startFrame _ _) (.of_eq rfl (by simp))
  · exact .startFrame _ _

theorem dispatch (s : State) : ModulePortRests s (dispatch .fibre s) := by
  have hexamined : ModulePortRests s (examineLanes laneOrder s).1 := .of_eq (by simp) (by simp)
  unfold Machine.dispatch
  split
  · next he =>
    rw [he] at hexamined
    exact hexamined
  · next he =>
    rw [he] at hexamined
    exact hexamined.trans (.sendHead _ _ _)

theorem nextFrame (o : Bool) (s : State) : ModulePortRests s (nextFrame o .fibre s) := by
  unfold Machine.nextFrame
  split
  · exact .startFrame _ s
  · split
    · exact .startStream _ s
    · split
      · exact .startStream _ s
      · split
        · exact .startWaiting _ _ s
        · split
          · split
            · exact .passCopy _ s
            · split
              · exact .dispatch s
              · exact .refl s
          · exact .refl s

theorem serve (o : Bool) (s : State) : ModulePortRests s (serve o .fibre s) := by
  unfold Machine.serve
  split
  · exact .trans (.of_eq (by simp) (by simp)) (.nextFrame _ _)
  · exact .refl s

/-- A module that is not READY takes no frame, so that the event's end leaves its port as it was (R162). -/
theorem finish (joined : Bool) (before : State) (hs : s.radio.status ≠ .ready) :
    ModulePortRests s (finish joined before s) := by
  have hfibre := ModulePortRests.serve (opportunityAfter joined before s) s
  have hbusy : (Machine.serve (opportunityAfter joined before s) .fibre s).portFree .radio = false := by
    simp [State.portFree, hs]
  unfold Machine.finish
  dsimp only
  rw [serve_of_busy hbusy]
  exact hfibre.trans (.of_eq rfl rfl)

end ModulePortRests

/-- But for the unit on its port, the module is after the event's end as it was before it. -/
theorem radio_finish_eq (joined : Bool) (before s : State) (r : Radio) :
    { (finish joined before s).radio with leaving := r.leaving, held := r.held, handshake := r.handshake }
      = { s.radio with leaving := r.leaving, held := r.held, handshake := r.handshake } := by simp

end Sys2Proof.Machine
end

section
/-! PROOFS. The wanted level and what the module controller does on it (R155, R160, R164). -/

namespace Sys2Proof.Machine

section
variable {s : State}

/-! The cases of the controller's action on the level it holds -/

theorem actOnLevel_of_off (hs : s.radio.status = .off) (hw : s.radio.wantedHeld = .active) : actOnLevel s = wake s := by
  simp [actOnLevel, hs, hw]

theorem actOnLevel_of_wanted (hs : s.radio.status = .ready) (ho : s.radio.outstanding = none) (hw : s.radio.wantedHeld = .active) :
    actOnLevel s = { s with radio := { s.radio with linger := none } } := by
  simp [actOnLevel, hs, ho, hw]

theorem actOnLevel_of_unwanted (hs : s.radio.status = .ready) (ho : s.radio.outstanding = none) (hw : s.radio.wantedHeld = .none)
    (hl : s.radio.linger = none) (hd : s.radio.releaseDue = false) : actOnLevel s = startLinger s := by
  simp [actOnLevel, hs, ho, hw, hl, hd]

theorem startLinger_of_some (h : s.radio.settings.linger ≠ 0) :
    startLinger s = { s with radio := { s.radio with linger := some (s.inSeconds s.radio.settings.linger) } } := if_neg h

theorem startLinger_of_zero (h : s.radio.settings.linger = 0) : startLinger s = enterReleasing .linger s := if_pos h

/-- In every other case the level is only held. -/
theorem actOnLevel_of_rest (hoff : ¬(s.radio.status = .off ∧ s.radio.wantedHeld = .active))
    (hwanted : ¬((s.radio.status = .ready ∧ s.radio.outstanding = none) ∧ s.radio.wantedHeld = .active))
    (hunwanted : ¬((s.radio.status = .ready ∧ s.radio.outstanding = none) ∧ s.radio.wantedHeld = .none ∧ s.radio.linger = none
      ∧ s.radio.releaseDue = false)) : actOnLevel s = s := by
  cases hs : s.radio.status <;> cases ho : s.radio.outstanding <;> cases hw : s.radio.wantedHeld <;>
    simp_all [actOnLevel]

/-! Handing over the level -/

/-- The state in which the controller acts on a changed level: selector and controller hold it. -/
def State.handed (level : WantedLevel) (s : State) : State :=
  { s with
    selector := { s.selector with wanted := level }
    radio := { s.radio with wantedHeld := level } }

theorem handWanted_of_met (h : wantedLevel s = s.selector.wanted) : handWanted s = s := if_pos h

theorem handWanted_of_changed (h : wantedLevel s ≠ s.selector.wanted) :
    handWanted s = (actOnLevel (s.handed (wantedLevel s))).mapJudge .radio fun j =>
      { j with handed := (actOnLevel (s.handed (wantedLevel s))).eligible .radio } := if_neg h

theorem wanted_handWanted (s : State) : (handWanted s).selector.wanted = wantedLevel s := by
  by_cases h : wantedLevel s = s.selector.wanted
  · rw [handWanted_of_met h, h]
  · rw [handWanted_of_changed h]
    simp [State.handed]

/-! A release from READY for the linger timer (R161, R162, R164) -/

theorem enterReleasing_of_ready (c : ReleaseCause) (hs : s.radio.status = .ready) :
    (enterReleasing c s).radio.outstanding = some ⟨.detach, s.clock + 2000000⟩ ∧ (enterReleasing c s).radio.held = none
      ∧ (enterReleasing c s).radioJudge = s.radioJudge.cleared ∧ (enterReleasing c s).sender.waitingRadio = [] := by
  have hleft : enterReleasing c s = sendCommand .detach { leaveReady s with radio := { (leaveReady s).radio with
      status := .releasing
      linger := none
      releaseDue := false
      cause := some c } } := by simp [enterReleasing, hs]
  rw [hleft]
  exact ⟨by simp [sendCommand, responseLimit, Config.responseMicros], by simp [sendCommand, leaveReady], by simp [sendCommand],
    by simp [sendCommand, leaveReady, closePort, State.setWaiting]⟩

end

@[simp] theorem supply_finish (joined : Bool) (before s : State) :
    (finish joined before s).lanes.supply = s.lanes.supply := by
  have hserve : ∀ (o : Bool) (b : Bearer) (t : State), (serve o b t).lanes.supply = t.lanes.supply := by
    intro o b t
    unfold serve
    split <;> simp
  simp [finish, hserve]

/-! ## SET_SUPPLY (R35) -/

section
variable {s : State} {tag c : Byte}

theorem exec_setSupply_of_takes {a : Answer} (h : Takes s 0x0C tag [c]) (ha : answerSetSupply [c] s = a) :
    exec .setSupply s = .next (finish a.opportunity s (a.effect (s.replied 0x0C tag a.body))) :=
  runActing_of_takes h rfl rfl ha

theorem answerSetSupply_of_large (h : 2 ≤ c.toNat) : answerSetSupply [c] s = .refuse .badValue :=
  withBody_of_none (supplyOfCode_of_large h)

theorem answerSetSupply_of_small (h : c.toNat ≤ 1) : answerSetSupply [c] s = .apply fun t =>
    handWanted { t with lanes := { t.lanes with supply := if c = 0 then .mains else .battery } } :=
  withBody_of_some (supplyOfCode_of_small h)

/-- What an accepted SET_SUPPLY writes before the wanted level is worked out. -/
def State.suppliedBy (s : State) (tag : Byte) (v : Supply) : State :=
  { s.replied 0x0C tag [0] with lanes := { s.lanes with supply := v } }

theorem exec_setSupply_of_small (h : Takes s 0x0C tag [c]) (hc : c.toNat ≤ 1) : exec .setSupply s =
    .next (finish false s (handWanted (s.suppliedBy tag (if c = 0 then .mains else .battery)))) := by
  rw [exec_setSupply_of_takes h (answerSetSupply_of_small hc)]
  rfl

theorem wantedLevel_suppliedBy (s : State) (tag c : Byte) :
    wantedLevel (s.suppliedBy tag (if c = 0 then .mains else .battery)) = match s.selector.status with
      | .stopped => WantedLevel.none
      | .outage => if s.selector.pin = .only .fibre then WantedLevel.none else .active
      | .on .fibre => if s.radio.settings.standby = .hot ∧ c = 0 then .active else .none
      | .on .radio => .active
      | .draining _ => .active := by
  have hstandby : effectiveStandby (s.suppliedBy tag (if c = 0 then .mains else .battery))
      = if c = 0 then s.radio.settings.standby else .cold := by
    by_cases h0 : c = 0
    · rw [if_pos h0, if_pos h0]
      rfl
    · rw [if_neg h0, if_neg h0]
      rfl
  have hselector : (s.suppliedBy tag (if c = 0 then .mains else .battery)).selector = s.selector := rfl
  rw [wantedLevel, hselector, hstandby]
  cases s.selector.status with
  | on b =>
    cases b with
    | fibre =>
      by_cases h0 : c = 0
      · simp [h0]
      · change (if (if c = 0 then s.radio.settings.standby else .cold) == .hot then WantedLevel.active else .none) = _
        rw [if_neg h0]
        exact (if_neg fun h => h0 h.2).symm
    | radio => rfl
  | outage => simp
  | _ => rfl

end

end Sys2Proof.Machine

open Sys2Proof.Machine in
/-- Settles O15: the event's end leaves of the module what the controller made of it. -/
theorem setSupplyWrites : Obligations.SetSupplyWrites := by
  intro s tag c h
  refine ⟨fun hc => ?_, fun hc => ?_⟩
  · rw [exec_setSupply_of_takes h (answerSetSupply_of_large hc)]
    rfl
  · intro supply level
    have hexec := exec_setSupply_of_small h hc
    set u : State := s.suppliedBy tag supply with hu
    have hlevel : wantedLevel u = level := wantedLevel_suppliedBy s tag c
    refine ⟨fun hmet => ?_, _, hexec, ?_, ?_, fun hne => ?_, ?_⟩
    · rw [hexec, handWanted_of_met (hlevel.trans hmet.symm)]
      rfl
    · simp [hu, State.suppliedBy]
    · simp [wanted_handWanted, hlevel]
    · intro held module wakes acts starts
      have hchanged : wantedLevel u ≠ u.selector.wanted := fun he => hne (he.symm.trans hlevel)
      have hradio : (handWanted u).radio = (actOnLevel (u.handed level)).radio := by
        rw [handWanted_of_changed hchanged, hlevel]
        rfl
      have hmodule : module = { (actOnLevel (u.handed level)).radio with
          leaving := s.radio.leaving
          held := s.radio.held
          handshake := s.radio.handshake } := (radio_finish_eq false s (handWanted u) s.radio).trans (by rw [hradio])
      refine ⟨?_, fun ⟨hoff, hactive⟩ => ?_, fun ⟨hready, hnone⟩ hactive => ?_, fun hstarts hlinger => ?_, fun hstarts hlinger => ?_,
        fun hwakes hacts hstarts => ?_⟩
      · simp [hradio, State.handed]
      · rw [hmodule, actOnLevel_of_off (s := u.handed level) hoff hactive]
        rfl
      · rw [hmodule, actOnLevel_of_wanted (s := u.handed level) hready hnone hactive]
        rfl
      · obtain ⟨⟨hready, hnone⟩, hlevelNone, hidle, hdue⟩ := hstarts
        rw [hmodule, actOnLevel_of_unwanted (s := u.handed level) hready hnone hlevelNone hidle hdue,
          startLinger_of_some (s := u.handed level) hlinger]
        rfl
      · obtain ⟨⟨hready, hnone⟩, hlevelNone, hidle, hdue⟩ := hstarts
        have hacted : actOnLevel (u.handed level) = enterReleasing .linger (u.handed level) :=
          (actOnLevel_of_unwanted (s := u.handed level) hready hnone hlevelNone hidle hdue).trans (startLinger_of_zero hlinger)
        obtain ⟨hdetach, hheld, hjudge, hwaiting⟩ := enterReleasing_of_ready (s := u.handed level) .linger hready
        have hreleased : (handWanted u).radio = (enterReleasing .linger (u.handed level)).radio := by rw [hradio, hacted]
        have hrests := ModulePortRests.finish false s (s := handWanted u) (by simp [hreleased])
        have hverdict : (handWanted u).radioJudge.timer = none ∧ (handWanted u).radioJudge.verdict = .down := by
          rw [handWanted_of_changed hchanged, hlevel, hacted]
          exact ⟨congrArg Judge.timer hjudge, congrArg Judge.verdict hjudge⟩
        have hempty : (handWanted u).sender.waitingRadio = [] := by
          rw [handWanted_of_changed hchanged, hlevel, hacted]
          exact hwaiting
        refine ⟨?_, ?_, ?_, ?_, ?_, ?_, ?_, hrests.waiting hempty⟩
        · simp [hreleased]
        · simp [hreleased]
        · have hkept : (finish false s (handWanted u)).radio.outstanding = (handWanted u).radio.outstanding := by simp
          rw [hkept, hreleased]
          exact hdetach
        · simp [hreleased]
        · rw [hrests.radio, hreleased, hheld]
        · simp [hverdict]
        · simp [hverdict]
      · rw [hmodule, actOnLevel_of_rest hwakes hacts hstarts]
        rfl
    · simp [hu, State.suppliedBy, State.replied]
end

section
/-! PROOFS. The dispatcher's examination of a lane (R32, R33). -/

namespace Sys2Proof.Machine

section
variable {s : State} {k l : Lane} {head : QueuedFrame} {tail : List QueuedFrame}

/-- A queued frame is past its lane's max age (R33). -/
def State.late (s : State) (l : Lane) (f : QueuedFrame) : Bool :=
  pastMaxAge (s.lanes.get l).profile.maxAge (s.ageOf f.arrival)

theorem ageDiscard_eq (s : State) (l : Lane) (queue : List QueuedFrame) :
    ageDiscard s (s.lanes.get l).profile.maxAge queue
      = ((queue.takeWhile (s.late l)).length, queue.drop (queue.takeWhile (s.late l)).length) := by
  induction queue with
  | nil => rfl
  | cons f rest ih =>
    change (if s.late l f then _ else _) = _
    cases hf : s.late l f with
    | true =>
      rw [if_pos rfl, ih, List.takeWhile_cons_of_pos hf]
      rfl
    | false =>
      have hkept : ¬s.late l f = true := by simp [hf]
      rw [if_neg Bool.false_ne_true, List.takeWhile_cons_of_neg hkept]
      rfl

/-- An examination gives up the late heads, and every frame of a barred lane (R33 steps 1 and 2). -/
theorem discardHeads_eq (l : Lane) (s : State) : discardHeads l s =
    let lane := s.lanes.get l
    let aged := (lane.queue.takeWhile (s.late l)).length
    let kept := if s.barred l then [] else lane.queue.drop aged
    let barred := lane.queue.length - aged - kept.length
    let examined : State := { s with
      lanes := s.lanes.set l { lane with queue := kept }
      counts := { s.counts with lane := s.counts.lane.set l { s.counts.lane.get l with
        aged := min ((s.counts.lane.get l).aged + aged) 4294967295
        barred := min ((s.counts.lane.get l).barred + barred) 4294967295 } } }
    if aged + barred = 0 then examined else report .laneDrop examined := by
  have hbarred : ∀ aged : Nat, (if s.barred l then ((s.lanes.get l).queue.drop aged).length else 0)
      = (s.lanes.get l).queue.length - aged - (if s.barred l then [] else (s.lanes.get l).queue.drop aged).length := by
    intro aged
    cases s.barred l <;> simp
  unfold discardHeads reportIf
  simp only [ageDiscard_eq, hbarred, decide_eq_true_eq, Nat.pos_iff_ne_zero, ite_not]
  cases l <;> rfl

/-- The counts that an examination raises are within their bound, so that they stay when nothing is given up. -/
theorem laneCount_bounded (h : CountsBounded s.counts) (l : Lane) :
    (s.counts.lane.get l).aged ≤ 4294967295 ∧ (s.counts.lane.get l).barred ≤ 4294967295 := by
  obtain ⟨hlane, -⟩ := h
  cases l <;> exact ⟨hlane _ (by simp [Counts.inOrder, LaneCounts.inOrder, LaneGroup.get]),
    hlane _ (by simp [Counts.inOrder, LaneCounts.inOrder, LaneGroup.get])⟩

theorem Lanes.set_get_self (u : Lanes) (l : Lane) : u.set l (u.get l) = u := by cases l <;> rfl

theorem LaneGroup.set_get_self (g : LaneGroup) (l : Lane) : g.set l (g.get l) = g := by cases l <;> rfl

/-- An examination that gives nothing up leaves all as it is. -/
theorem discardHeads_of_fresh (h : CountsBounded s.counts)
    (hqueue : ∀ f ∈ (s.lanes.get l).queue.head?, s.late l f = false ∧ s.barred l = false) : discardHeads l s = s := by
  obtain ⟨haged, hbarred⟩ := laneCount_bounded h l
  have hnone : (s.lanes.get l).queue.takeWhile (s.late l) = [] := by
    cases hq : (s.lanes.get l).queue with
    | nil => rfl
    | cons f rest =>
      obtain ⟨hlate, -⟩ := hqueue f (by simp [hq])
      exact List.takeWhile_cons_of_neg (by simp [hlate])
  have hkept : (if s.barred l then [] else (s.lanes.get l).queue) = (s.lanes.get l).queue := by
    cases hq : (s.lanes.get l).queue with
    | nil => simp
    | cons f rest =>
      obtain ⟨-, hbar⟩ := hqueue f (by simp [hq])
      simp [hbar]
  rw [discardHeads_eq]
  simp only [hnone, List.length_nil, List.drop_zero, hkept, Nat.sub_zero, Nat.sub_self, Nat.add_zero, if_true,
    Nat.min_eq_left haged, Nat.min_eq_left hbarred]
  rw [Lanes.set_get_self, LaneGroup.set_get_self]

/-! ## Lanes that are passed over, and the lane whose head goes (R32) -/

/-- The store has a place for a frame (R33, R46). -/
theorem admits_iff {t : Sender} (h : StoreLaw t) (n : Nat) :
    t.admits n = true ↔ t.store.length < 1024 ∧ (n + 127) / 128 + storeCells t.store ≤ 2048 := by
  obtain ⟨-, hcells, -⟩ := h
  unfold Sender.admits
  rw [Bool.and_eq_true, decide_eq_true_iff, decide_eq_true_iff]
  simp only [Sender.freeRecords, Sender.freeCells, cellNeed, Config.maxRecords, Config.maxCells, Config.cellBytes]
  omega

/-- A lane is empty, or its head can go neither up nor away: it waits for a place in the replay store. -/
def State.passesOver (s : State) (k : Lane) : Prop :=
  ∀ f ∈ (s.lanes.get k).queue.head?, s.late k f = false ∧ s.barred k = false ∧ blocked s k f = true

theorem examineLanes_of_passed (h : CountsBounded s.counts) (hk : s.passesOver k) (rest : List Lane) :
    examineLanes (k :: rest) s = examineLanes rest s := by
  have hfresh : discardHeads k s = s := discardHeads_of_fresh h fun f hf => ⟨(hk f hf).1, (hk f hf).2.1⟩
  rw [examineLanes]
  rw [hfresh]
  cases hq : (s.lanes.get k).queue with
  | nil => rfl
  | cons f tail =>
    obtain ⟨-, -, hblocked⟩ := hk f (by simp [hq])
    exact if_pos hblocked

theorem examineLanes_of_all_passed (h : CountsBounded s.counts) {before : List Lane} (hbefore : ∀ k ∈ before, s.passesOver k)
    (rest : List Lane) : examineLanes (before ++ rest) s = examineLanes rest s := by
  induction before with
  | nil => rfl
  | cons k before ih =>
    rw [List.cons_append, examineLanes_of_passed h (hbefore k List.mem_cons_self)]
    exact ih fun j hj => hbefore j (List.mem_cons_of_mem k hj)

theorem examineLanes_of_head (h : CountsBounded s.counts) (hq : (s.lanes.get l).queue = head :: tail) (hlate : s.late l head = false)
    (hbar : s.barred l = false) (hfree : blocked s l head = false) (rest : List Lane) :
    examineLanes (l :: rest) s = ((s.setQueue l tail).countLane l .upSent, some (l, head)) := by
  have hfresh : discardHeads l s = s := discardHeads_of_fresh h fun f hf => by
    rw [hq, List.head?_cons, Option.mem_some_iff] at hf
    exact hf ▸ ⟨hlate, hbar⟩
  rw [examineLanes]
  rw [hfresh, hq]
  exact if_neg (by simp [hfree])

/-- The lanes above one stand before it in the order (R32). -/
theorem laneOrder_split (l : Lane) :
    laneOrder = laneOrder.take (laneOrder.idxOf l) ++ l :: laneOrder.drop (laneOrder.idxOf l + 1) := by
  cases l <;> rfl

end

/-! ## The dispatch opportunity at a free port (R32, R55) -/

section
variable {s : State} {b : Bearer}

/-- Nothing goes before DATA at the active bearer's free port, and no pause reason is present (R31, R55). -/
structure DataDue (b : Bearer) (s : State) : Prop where
  free : s.portFree b = true
  active : s.active = some b
  pause : s.pause.any = false
  stream : s.sender.stream = none
  rewind : s.sender.rewindPending = false
  announce : s.sender.announcePending = false
  pass : s.sender.pass = .none
  waiting : s.waiting b = []

theorem DataDue.serve_eq (h : DataDue b s) : serve true b s = dispatch b s := by
  have hended : endPassAt b s = s := by simp [endPassAt, h.pass]
  unfold serve
  rw [if_pos h.free]
  simp [hended, nextFrame, streamOn, h.stream, h.active, h.rewind, h.announce, h.waiting, h.pass, h.pause]

/-- With every lane passed over the dispatch opportunity passes. -/
theorem dispatch_of_all_passed (hc : CountsBounded s.counts) (h : ∀ k ∈ laneOrder, s.passesOver k) : dispatch b s = s := by
  have hnone : examineLanes laneOrder s = (s, none) := by
    have hall := examineLanes_of_all_passed hc h []
    rwa [List.append_nil] at hall
  rw [dispatch, hnone]

theorem dispatch_of_head {l : Lane} {head : QueuedFrame} {tail : List QueuedFrame} (hc : CountsBounded s.counts)
    (habove : ∀ k ∈ laneOrder.take (laneOrder.idxOf l), s.passesOver k) (hq : (s.lanes.get l).queue = head :: tail)
    (hlate : s.late l head = false) (hbar : s.barred l = false) (hfree : blocked s l head = false) :
    dispatch b s = sendHead l head b ((s.setQueue l tail).countLane l .upSent) := by
  have htaken : examineLanes laneOrder s = ((s.setQueue l tail).countLane l .upSent, some (l, head)) := by
    rw [laneOrder_split l, examineLanes_of_all_passed hc habove, examineLanes_of_head hc hq hlate hbar hfree]
  rw [dispatch, htaken]

/-- A frame with E as its ackno starts to leave (R54, R58, R59, R168). -/
theorem frameStarts_startFrame (f : CarryFrame) (s : State) (h : f.ackno = s.receiver.e) : FrameStarts b f s (startFrame b f s) := by
  obtain ⟨hleaving, -⟩ := leaving_startFrame (s := s) (b := b) f
  refine ⟨hleaving, ?_, fun hactive => ?_⟩
  · rintro rfl
    have hport : (startFrame .radio f s).radio = (putOnPort .radio ⟨f, wireOf .radio f s, false⟩ s).radio := by
      unfold startFrame settleTally
      split <;> rfl
    rw [hport]
    refine ⟨rfl, congrArg Handshake.handing ?_⟩
    cases hmode : s.radio.settings.mode <;> simp [handOverMode, hmode, wireOf]
  · have hstill : (putOnPort b ⟨f, wireOf b f s, false⟩ s).active = some b := by simpa [State.active] using hactive
    have hsettles : startFrame b f s = clearTally (putOnPort b ⟨f, wireOf b f s, false⟩ s) := by
      simp [startFrame, settleTally, hstill, h]
    rw [hsettles]
    exact ⟨rfl, rfl⟩

/-- A frame that starts from a state like another, but for what the port and the tally do not read, starts from that one. -/
theorem FrameStarts.congr {f : CarryFrame} {s t u : State} (h : FrameStarts b f s u) (hc : s.carry = t.carry)
    (hr : s.radio.settings = t.radio.settings) (ha : s.active = t.active) : FrameStarts b f t u := by
  obtain ⟨hleaving, hport, htally⟩ := h
  have hwire : wireOf b f s = wireOf b f t := by cases b <;> simp [wireOf, hc]
  rw [hwire] at hleaving
  rw [hr] at hport
  rw [ha] at htally
  exact ⟨hleaving, hport, htally⟩

/-- A head that goes has left its queue, counted sent (R32). -/
def State.headTaken (s : State) (l : Lane) (tail : List QueuedFrame) : State := (s.setQueue l tail).countLane l .upSent

@[simp] theorem headTaken_frame (s : State) (l : Lane) (tail : List QueuedFrame) :
    (s.headTaken l tail).lanes = s.lanes.set l { s.lanes.get l with queue := tail }
      ∧ (s.headTaken l tail).counts = { s.counts with lane := s.counts.lane.set l (s.counts.lane.get l).upSent }
      ∧ (s.headTaken l tail).events = s.events ∧ (s.headTaken l tail).carry = s.carry ∧ (s.headTaken l tail).radio = s.radio
      ∧ (s.headTaken l tail).selector = s.selector ∧ (s.headTaken l tail).receiver = s.receiver
      ∧ (s.headTaken l tail).sender = s.sender := ⟨rfl, rfl, rfl, rfl, rfl, rfl, rfl, rfl⟩

/-- A head of a replay-class lane joins the store with the number N (R46). -/
def State.admitHead (s : State) (l : Lane) (head : QueuedFrame) : State :=
  if (s.lanes.get l).profile.replay then { s with sender := s.sender.enrol l head } else s

@[simp] theorem admitHead_frame (s : State) (l : Lane) (head : QueuedFrame) :
    (s.admitHead l head).lanes = s.lanes ∧ (s.admitHead l head).events = s.events ∧ (s.admitHead l head).counts = s.counts
      ∧ (s.admitHead l head).carry = s.carry ∧ (s.admitHead l head).radio = s.radio
      ∧ (s.admitHead l head).selector = s.selector ∧ (s.admitHead l head).receiver = s.receiver := by
  unfold State.admitHead
  split <;> simp

theorem admitHead_of_replay {l : Lane} (head : QueuedFrame) (h : (s.lanes.get l).profile.replay = true) :
    (s.admitHead l head).sender = s.sender.enrol l head := by simp [State.admitHead, h]

theorem admitHead_of_plain {l : Lane} (head : QueuedFrame) (h : (s.lanes.get l).profile.replay = false) :
    s.admitHead l head = s := by simp [State.admitHead, h]

/-- The DATA of a head that goes (R52). -/
theorem sendHead_eq (l : Lane) (head : QueuedFrame) (s : State) : sendHead l head b s = startFrame b
    ⟨1, 3, l.frameCode, (s.lanes.get l).profile.replay, false, false, bearerFrameCode b, 0, s.session.epoch,
      if (s.lanes.get l).profile.replay then s.sender.n else 0, s.receiver.e, BitVec.ofNat 16 head.bytes.length, head.bytes⟩
    (s.admitHead l head) := by
  unfold sendHead State.admitHead
  cases (s.lanes.get l).profile.replay <;> rfl

end

end Sys2Proof.Machine

open Sys2Proof.Machine in
/-- Settles O31: the lanes above are passed over unchanged, the head is taken, and its DATA starts. -/
theorem dispatchTakesAHead : Obligations.DispatchTakesAHead := by
  intro s b l head tail lane late fits passedOver aged kept barred examined
  have hover : StoreLaw s.sender → ∀ k, passedOver k → s.passesOver k := by
    intro hstore k hk f hf
    simp only [passedOver] at hk
    split at hk
    · next hq => simp [hq] at hf
    · next g _ hq =>
      obtain rfl : g = f := by simpa [hq] using hf
      obtain ⟨hlate, hbar, hreplay, hfull⟩ := hk
      have hadmits : s.sender.admits g.bytes.length = false := Bool.eq_false_iff.2 ((admits_iff hstore _).not.2 hfull)
      exact ⟨hlate, hbar, by simp [blocked, hreplay, hadmits]⟩
  refine ⟨discardHeads_eq l s, ?_, ?_⟩
  · intro hfree hactive hpause hstream hrewind hannounce hpass hwaiting hstore hcounts habove hq hbar hlate hfits t f
    have hopen : blocked s l head = false := by
      cases hreplay : lane.profile.replay with
      | false => simp [blocked, show (s.lanes.get l).profile.replay = false from hreplay]
      | true => simp [blocked, (admits_iff hstore _).2 (hfits hreplay)]
    have ht : t = sendHead l head b (s.headTaken l tail) :=
      (DataDue.serve_eq ⟨hfree, hactive, hpause, hstream, hrewind, hannounce, hpass, hwaiting⟩).trans
        (dispatch_of_head hcounts (fun k hk => hover hstore k (habove k hk)) hq hlate hbar hopen)
    have hclass : ((s.headTaken l tail).lanes.get l).profile.replay = lane.profile.replay := by cases l <;> rfl
    rw [sendHead_eq, hclass] at ht
    change t = startFrame b f ((s.headTaken l tail).admitHead l head) at ht
    rw [ht]
    refine ⟨(frameStarts_startFrame f _ (by simp [f])).congr (by simp) (by simp) (by simp [State.active]), by simp [lane], by simp,
      by simp [LaneCounts.upSent, countUp, Sys2Proof.Config.countMax], fun hreplay => ?_, fun hplain => ?_⟩
    · simp [admitHead_of_replay head (hclass.trans hreplay), Sender.enrol]
    · simp [admitHead_of_plain head (hclass.trans hplain)]
  · intro hfree hactive hpause hstream hrewind hannounce hpass hwaiting hstore hcounts hall
    rw [DataDue.serve_eq ⟨hfree, hactive, hpause, hstream, hrewind, hannounce, hpass, hwaiting⟩]
    exact dispatch_of_all_passed hcounts fun k hk => hover hstore k (hall k hk)
end

section
/-! PROOFS. What a command leaves as it is (R28, R36, R68, R122, R146, R171, R172, R173, R180). -/

namespace Sys2Proof.Machine

/-! ## The lanes' settings under the port's service and an arrival (R27, R28) -/

/-- The four lane profiles and the supply. -/
def laneSettings (u : Lanes) : LaneProfile × LaneProfile × LaneProfile × LaneProfile × Supply :=
  (u.voice.profile, u.signal.profile, u.priority.profile, u.bulk.profile, u.supply)

section
variable {s : State}

@[simp] theorem laneSettings_setQueue (l : Lane) (q : List QueuedFrame) (s : State) :
    laneSettings (s.setQueue l q).lanes = laneSettings s.lanes := by cases l <;> rfl

@[simp] theorem laneSettings_discardHeads (l : Lane) (s : State) :
    laneSettings (discardHeads l s).lanes = laneSettings s.lanes := by simp [discardHeads]

@[simp] theorem laneSettings_examineLanes (order : List Lane) (s : State) :
    laneSettings (examineLanes order s).1.lanes = laneSettings s.lanes := by
  induction order generalizing s with
  | nil => rfl
  | cons l rest ih =>
    unfold examineLanes
    dsimp only
    split
    · simp [ih]
    · split
      · simp [ih]
      · simp

@[simp] theorem laneSettings_dispatch (b : Bearer) (s : State) : laneSettings (dispatch b s).lanes = laneSettings s.lanes := by
  have hexamined := laneSettings_examineLanes laneOrder s
  unfold dispatch
  split
  · next he => rwa [he] at hexamined
  · next he =>
    rw [he] at hexamined
    simpa [sendHead_eq] using hexamined

@[simp] theorem laneSettings_nextFrame (o : Bool) (b : Bearer) (s : State) :
    laneSettings (nextFrame o b s).lanes = laneSettings s.lanes := by
  unfold nextFrame
  (repeat' split) <;> simp

@[simp] theorem laneSettings_serve (o : Bool) (b : Bearer) (s : State) :
    laneSettings (serve o b s).lanes = laneSettings s.lanes := by
  unfold serve
  split <;> simp

@[simp] theorem laneSettings_finish (joined : Bool) (before s : State) :
    laneSettings (finish joined before s).lanes = laneSettings s.lanes := by simp [finish]

@[simp] theorem laneSettings_laneArrival (l : Lane) (f : QueuedFrame) (s : State) :
    laneSettings (laneArrival l f s).1.lanes = laneSettings s.lanes := by
  unfold laneArrival
  dsimp only
  (repeat' split) <;> simp

@[simp] theorem laneSettings_homeArrival (bytes : List Byte) (s : State) :
    laneSettings (homeArrival bytes s).1.lanes = laneSettings s.lanes := by
  unfold homeArrival
  (repeat' split) <;> simp

end

/-! ## The judges' settings where a bearer falls or rises (R122, R130) -/

section
variable {s : State}

/-- The settings and the damping parameters of both judges. -/
def judgeSettings (s : State) : (JudgeSettings × Damping) × (JudgeSettings × Damping) :=
  ((s.fibreJudge.settings, s.fibreJudge.damping), (s.radioJudge.settings, s.radioJudge.damping))

theorem judgeSettings_mapJudge (b : Bearer) {f : Judge → Judge}
    (h : ∀ j, (f j).settings = j.settings ∧ (f j).damping = j.damping) (s : State) :
    judgeSettings (s.mapJudge b f) = judgeSettings s := by
  cases b <;> simp [judgeSettings, State.mapJudge, h]

theorem judgeSettings_fall (b : Bearer) (s : State) : judgeSettings (fall b s) = judgeSettings s := by
  simp [judgeSettings]

theorem judgeSettings_hardFail (b : Bearer) (s : State) : judgeSettings (hardFail b s) = judgeSettings s := by
  have hzeroed : judgeSettings (s.mapJudge b Judge.hardFailed) = judgeSettings s :=
    judgeSettings_mapJudge b (f := Judge.hardFailed) (fun _ => ⟨rfl, rfl⟩) s
  unfold hardFail
  dsimp only
  split
  · split
    · rw [judgeSettings_fall, hzeroed]
    · exact hzeroed
  · rfl

/-- Hard-fail evidence leaves the settings of the judges. -/
@[simp] theorem hardFail_judgeSettings (b : Bearer) (s : State) :
    (hardFail b s).fibreJudge.settings = s.fibreJudge.settings ∧ (hardFail b s).fibreJudge.damping = s.fibreJudge.damping
      ∧ (hardFail b s).radioJudge.settings = s.radioJudge.settings ∧ (hardFail b s).radioJudge.damping = s.radioJudge.damping := by
  have h := judgeSettings_hardFail b s
  simp only [judgeSettings, Prod.mk.injEq] at h
  obtain ⟨⟨hfs, hfd⟩, hrs, hrd⟩ := h
  exact ⟨hfs, hfd, hrs, hrd⟩

theorem judgeSettings_verdictTest (b : Bearer) (s : State) : judgeSettings (verdictTest b s) = judgeSettings s := by
  have hcleared : judgeSettings (s.mapJudge b fun k => { k with goodRun := 0, cleanRun := 0 }) = judgeSettings s :=
    judgeSettings_mapJudge b (f := fun k => { k with goodRun := 0, cleanRun := 0 }) (fun _ => ⟨rfl, rfl⟩) s
  unfold verdictTest
  dsimp only
  split
  · split
    · simp [judgeSettings]
    · rfl
  · split
    · rw [judgeSettings_fall, hcleared]
    · rfl

theorem judgeSettings_endInterval (b : Bearer) (s : State) : judgeSettings (endInterval b s) = judgeSettings s := by
  have hcounted : ∀ (good : Bool) (j : Judge),
      (j.counted good).windowed.settings = j.settings ∧ (j.counted good).windowed.damping = j.damping := fun good j => by
    unfold Judge.windowed Judge.counted
    (repeat' split) <;> exact ⟨rfl, rfl⟩
  unfold endInterval
  split
  · rfl
  · next moment _ =>
    have htested : judgeSettings (verdictTest b ((s.advanceTo moment).mapJudge b
        (fun j => (j.counted ((s.judge b).intervalGood b)).windowed))) = judgeSettings s :=
      (judgeSettings_verdictTest b _).trans (judgeSettings_mapJudge b (hcounted _) _)
    dsimp only
    split
    · exact Eq.trans (by simp [judgeSettings]) htested
    · exact htested

theorem judgeSettings_rewindExpires (s : State) : judgeSettings (rewindExpires s) = judgeSettings s := by
  have hexhausted : ∀ t : State, judgeSettings (rewindExhausted t) = judgeSettings t := fun t => by
    unfold rewindExhausted
    dsimp only
    split <;> simp [judgeSettings, stopRewindTimer]
  unfold rewindExpires
  (repeat' split)
  · rfl
  · simp [judgeSettings]
  · simp [judgeSettings]
  · rw [hexhausted]
    rfl

theorem judgeSettings_detachedTaken (s : State) : judgeSettings (detachedTaken s) = judgeSettings s := by
  have hlost : judgeSettings (cellLost s) = judgeSettings s := by
    unfold cellLost
    dsimp only
    split <;> simp [judgeSettings]
  unfold detachedTaken
  split
  · exact hlost
  · split <;> rfl
  · rfl

theorem judgeSettings_responseLate (s : State) : judgeSettings (responseLate s) = judgeSettings s := by
  have htimesOut : ∀ t : State, judgeSettings (commandTimesOut t) = judgeSettings t := fun t => by
    unfold commandTimesOut
    dsimp only
    split <;> simp [judgeSettings]
  unfold responseLate
  (repeat' split)
  · rfl
  · rfl
  · rw [htimesOut]
    rfl

theorem judgeSettings_readyLate (s : State) : judgeSettings (readyLate s) = judgeSettings s := by
  have hstalls : ∀ t : State, judgeSettings (unitStalls t) = judgeSettings t := fun t => by
    unfold unitStalls
    dsimp only
    split <;> simp [judgeSettings]
  unfold readyLate
  (repeat' split)
  · rw [hstalls]
    rfl
  · rfl
  · simp [judgeSettings]
  · rfl
  · rfl

end

/-! ## What stands -/

/-- The settings that a command outside `changesSettings` leaves as they are, as one value. -/
def settingsView (s : State) :=
  (s.classMap, laneSettings s.lanes, s.carry, judgeSettings s, s.radio.settings, s.selector.pin, s.events.mask, s.events.mode,
    s.home.linkUp, s.fibre.linkUp, s.pending, s.resetHeld)

theorem settingsKept_of_view {s t : State} (h : settingsView t = settingsView s) : SettingsKept s t := by
  simp only [settingsView, laneSettings, judgeSettings, Prod.mk.injEq] at h
  simp only [SettingsKept, h, and_self]

/-- What a command leaves as it is, by the groups it belongs to. -/
structure Stands (c : Instr) (s t : State) : Prop where
  settings : changesSettings c = false → settingsView t = settingsView s
  delivery : changesDelivery c = false → t.home.delivery = s.home.delivery
  expected : changesExpected c = false → t.receiver.e = s.receiver.e
  parser : changesParser c = false → t.link.rx = s.link.rx ∧ t.link.rxTimer = s.link.rxTimer
  inbound : changesParser c = false → takesRequest c = false → t.link.inbound = s.link.inbound
  delivered : c ≠ .deliveryComplete → t.home.sent = s.home.sent
  sent : c ≠ .messageSent → t.link.sent = s.link.sent

/-- What the other groups name: the home port, E, the envelope parser, and the inbound queue and the sent bytes of the link. -/
def recordView (s : State) :=
  (s.home.delivery, s.home.sent, s.receiver.e, s.link.rx, s.link.rxTimer, s.link.inbound, s.link.sent)

/-- All that the groups name. -/
def quietView (s : State) := (settingsView s, recordView s)

namespace Stands

variable {c : Instr} {s t u : State}

theorem refl (s : State) : Stands c s s :=
  ⟨fun _ => rfl, fun _ => rfl, fun _ => rfl, fun _ => ⟨rfl, rfl⟩, fun _ _ => rfl, fun _ => rfl, fun _ => rfl⟩

theorem trans (h : Stands c s t) (h' : Stands c t u) : Stands c s u where
  settings hc := (h'.settings hc).trans (h.settings hc)
  delivery hc := (h'.delivery hc).trans (h.delivery hc)
  expected hc := (h'.expected hc).trans (h.expected hc)
  parser hc := ⟨(h'.parser hc).1.trans (h.parser hc).1, (h'.parser hc).2.trans (h.parser hc).2⟩
  inbound hc hr := (h'.inbound hc hr).trans (h.inbound hc hr)
  delivered hc := (h'.delivered hc).trans (h.delivered hc)
  sent hc := (h'.sent hc).trans (h.sent hc)

theorem after (h' : Stands c t u) (h : Stands c s t) : Stands c s u := h.trans h'

/-- A change of settings alone, by a command that may change them. -/
theorem of_records (hc : changesSettings c = true) (h : recordView t = recordView s) : Stands c s t := by
  simp only [recordView, Prod.mk.injEq] at h
  obtain ⟨hd, hh, he, hrx, ht, hi, hl⟩ := h
  exact ⟨fun hk => absurd hc (by simp [hk]), fun _ => hd, fun _ => he, fun _ => ⟨hrx, ht⟩, fun _ _ => hi, fun _ => hh, fun _ => hl⟩

/-- A change of nothing that the groups name. -/
theorem quiet (h : quietView t = quietView s) : Stands c s t := by
  simp only [quietView, recordView, Prod.mk.injEq] at h
  obtain ⟨hs, hd, hh, he, hrx, ht, hi, hl⟩ := h
  exact ⟨fun _ => hs, fun _ => hd, fun _ => he, fun _ => ⟨hrx, ht⟩, fun _ _ => hi, fun _ => hh, fun _ => hl⟩

theorem finish (joined : Bool) (before s : State) : Stands c s (finish joined before s) :=
  quiet (by simp [quietView, recordView, settingsView, judgeSettings])

theorem closeEvent (s : State) : Stands c s (closeEvent s) :=
  quiet (by simp [quietView, recordView, settingsView, judgeSettings])

end Stands

end Sys2Proof.Machine
end

section
/-! PROOFS. What each command leaves as it is. -/

namespace Sys2Proof.Machine

/-! ## The ends of an event, and taken requests -/

/-- A command's outcome leaves what its groups do not name. -/
def OutcomeStands (c : Instr) (s : State) (o : Host.Outcome State Fault Refusal) : Prop := ∀ t, o = .next t → Stands c s t

/-- An answer's effect leaves what the command's groups do not name. -/
def AnswerStands (c : Instr) (a : Answer) : Prop := ∀ t, Stands c t (a.effect t)

namespace AnswerStands

variable {c : Instr}

theorem refuse (r : ReplyStatus) : AnswerStands c (.refuse r) := Stands.refl
theorem returns (results : List Byte) : AnswerStands c (.return results) := Stands.refl
theorem apply {effect : State → State} (h : ∀ t, Stands c t (effect t)) : AnswerStands c (.apply effect) := h

theorem withBody {α : Type} {answer : α → Answer} (body : Option α) (h : ∀ v, AnswerStands c (answer v)) :
    AnswerStands c (.withBody body answer) := by
  cases body with
  | none => exact refuse _
  | some v => exact h v

end AnswerStands

section
variable {c : Instr} {s t : State}

theorem outcomeStands_next (h : Stands c s t) : OutcomeStands c s (.next t) := by
  rintro _ ⟨⟩
  exact h

theorem OutcomeStands.runWith {effect : State → State × Bool} (h : Stands c s (effect s).1) :
    OutcomeStands c s (runWith s effect) := by
  unfold Machine.runWith
  split
  · exact outcomeStands_next (.refl s)
  · exact outcomeStands_next (h.trans (.finish _ _ _))

theorem OutcomeStands.run {effect : State → State} (h : Stands c s (effect s)) : OutcomeStands c s (run s effect) := .runWith h

theorem OutcomeStands.runQuiet {effect : State → State} (h : Stands c s (effect s)) : OutcomeStands c s (runQuiet s effect) := by
  unfold Machine.runQuiet
  split
  · exact outcomeStands_next (.refl s)
  · exact outcomeStands_next (h.trans (.closeEvent _))

/-- A request that is taken leaves the inbound queue, and no other group names what that changes (R173). -/
theorem Stands.placeReply (hc : takesRequest c = true) (r : Request) (a : Answer) (s : State) : Stands c s (placeReply r a s) :=
  ⟨fun _ => rfl, fun _ => rfl, fun _ => rfl, fun _ => ⟨rfl, rfl⟩, fun _ hk => absurd hc (by simp [hk]), fun _ => rfl, fun _ => rfl⟩

theorem Stands.takeRequest (hc : takesRequest c = true) {answer : List Byte → State → Answer} (kind : Byte)
    (only : List Byte → Bool) (length : Nat) (ha : ∀ body, AnswerStands c (answer body s)) :
    Stands c s (takeRequest kind only length answer s).1 := by
  obtain he | ⟨r, a, -, hkind, he⟩ := takeRequest_cases kind only length answer s <;> rw [he]
  · exact .refl s
  · refine (Stands.placeReply hc r a s).trans ?_
    obtain rfl | rfl := hkind
    · exact ha _ _
    · exact .refl _

theorem OutcomeStands.runRequest (hc : takesRequest c = true) {answer : List Byte → State → Answer} (kind : Byte) (length : Nat)
    (ha : ∀ body, AnswerStands c (answer body s)) : OutcomeStands c s (runRequest kind length answer s) :=
  .runQuiet (effect := fun t => (Machine.takeRequest kind anyBody length answer t).1) (.takeRequest hc kind anyBody length ha)

theorem OutcomeStands.runActing (hc : takesRequest c = true) {answer : List Byte → State → Answer} (kind : Byte)
    (only : List Byte → Bool) (length : Nat) (ha : ∀ body, AnswerStands c (answer body s)) :
    OutcomeStands c s (runActing kind only length answer s) := .runWith (.takeRequest hc kind only length ha)

theorem Stands.unknownTaken (s : State) : Stands .unknownRequest s (unknownTaken s) := by
  unfold Machine.unknownTaken
  split
  · exact .refl s
  · split
    · exact .refl s
    · exact .placeReply rfl _ _ s

end

/-! ## The effects of the requests -/

section
variable (s : State) (body : List Byte)

theorem answerStands_setLane : AnswerStands .setLane (answerSetLane body s) := by
  unfold answerSetLane
  split
  · exact .refuse _
  · refine .withBody _ fun v => ?_
    split
    · exact .refuse _
    · exact fun t => .of_records rfl (by simp [recordView])

theorem answerStands_setJudge : AnswerStands .setJudge (answerSetJudge body s) := by
  unfold answerSetJudge
  split
  · exact .refuse _
  · exact .withBody _ fun v => .apply fun t => .of_records rfl (by simp [recordView])

theorem answerStands_setDamping : AnswerStands .setDamping (answerSetDamping body s) := by
  unfold answerSetDamping
  split
  · exact .refuse _
  · exact .withBody _ fun v => .apply fun t => .of_records rfl (by simp [recordView])

theorem answerStands_setCarry : AnswerStands .setCarry (answerSetCarry body s) := by
  unfold answerSetCarry
  split
  · exact .withBody _ fun v => .apply fun t => .of_records rfl rfl
  · exact .refuse _

theorem answerStands_setModule : AnswerStands .setModule (answerSetModule body s) := by
  unfold answerSetModule
  split
  · exact .withBody _ fun v => .apply fun t => .of_records rfl rfl
  · exact .refuse _

theorem answerStands_setSupply : AnswerStands .setSupply (answerSetSupply body s) :=
  .withBody _ fun _ => .apply fun t => .of_records rfl (by simp [recordView])

theorem answerStands_readCounts : AnswerStands .readCounts (answerReadCounts body s) := by
  refine .withBody _ fun v t => ?_
  dsimp only
  split
  · exact .quiet rfl
  · exact .refl t

theorem answerStands_start : AnswerStands .start (answerStart body s) := by
  unfold answerStart
  split
  · exact .apply fun t => .quiet (by simp [quietView, recordView, settingsView, judgeSettings])
  · exact .refuse _

/-- HALT in either mode leaves all that the groups name. -/
theorem stands_halt {c : Instr} {cut : State → State} (hcut : HaltCut cut) (s : State) : Stands c s (halt cut s) := by
  have hhalted : Stands c s (haltedCarrying cut s) := by
    obtain rfl | rfl := hcut <;>
      exact .quiet (by simp [quietView, recordView, settingsView, judgeSettings, haltedCarrying, haltCarrying])
  unfold Machine.halt
  split
  · exact .refl s
  · exact hhalted.trans (.quiet (by simp [quietView, recordView, settingsView, judgeSettings, haltedCarrying]))

theorem answerStands_halt (c : Instr) : AnswerStands c (answerHalt body s) := by
  unfold answerHalt
  split
  · exact .apply (stands_halt (.inl rfl))
  · split
    · exact .apply (stands_halt (.inr rfl))
    · exact .refuse _

theorem answerStands_pin : AnswerStands .pin (answerPin body s) := by
  refine .withBody _ fun p => ?_
  split
  · exact .refuse _
  · exact .apply fun t => .of_records rfl (by simp [recordView])

theorem answerStands_handoverNow : AnswerStands .handoverNow (answerHandoverNow body s) := by
  unfold answerHandoverNow
  split
  · exact .refuse _
  · split
    · exact .apply fun t => .quiet (by simp [quietView, recordView, settingsView, judgeSettings])
    · exact .refuse _
  · exact .refuse _

end

end Sys2Proof.Machine
end

section
/-! PROOFS. Every command leaves as they are the groups it does not belong to. -/

namespace Sys2Proof.Machine

/-! ## Arrivals, deliveries and the envelope parser -/

section
variable {c : Instr} {s t : State}

/-- What an arrival leaves: all but the delivery queue and E. -/
def arrivalView (s : State) := (settingsView s, s.home.sent, s.link.rx, s.link.rxTimer, s.link.inbound, s.link.sent)

theorem Stands.of_arrival (hd : changesDelivery c = true) (he : changesExpected c = true) (h : arrivalView t = arrivalView s) :
    Stands c s t := by
  simp only [arrivalView, Prod.mk.injEq] at h
  obtain ⟨hs, hh, hrx, ht, hi, hl⟩ := h
  exact ⟨fun _ => hs, fun hk => absurd hd (by simp [hk]), fun hk => absurd he (by simp [hk]), fun _ => ⟨hrx, ht⟩, fun _ _ => hi,
    fun _ => hh, fun _ => hl⟩

theorem Stands.fibreArrival (bytes : List Byte) (s : State) : Stands (.fibreFrameArrival bytes) s (fibreArrival bytes s) :=
  .of_arrival rfl rfl (by simp [arrivalView, settingsView, judgeSettings])

theorem Stands.unitArrival (bytes : List Byte) (s : State) : Stands (.moduleUnitArrival bytes) s (unitArrival bytes s) :=
  .of_arrival rfl rfl (by simp [arrivalView, settingsView, judgeSettings])

theorem Stands.homeArrival (bytes : List Byte) (s : State) : Stands c s (homeArrival bytes s).1 :=
  .quiet (by simp [quietView, recordView, settingsView, judgeSettings])

theorem Stands.deliverHead (s : State) : Stands .deliveryComplete s (deliverHead s) := by
  unfold Machine.deliverHead
  split
  · exact ⟨fun _ => rfl, fun hk => absurd hk (by decide), fun _ => rfl, fun _ => ⟨rfl, rfl⟩, fun _ _ => rfl,
      fun hk => absurd rfl hk, fun _ => rfl⟩
  · exact .refl s

/-- What the envelope parser leaves: all but its own bytes and timer, and the inbound queue. -/
def parserView (s : State) := (settingsView s, s.home.delivery, s.home.sent, s.receiver.e, s.link.sent)

theorem Stands.of_parser (hc : changesParser c = true) (h : parserView t = parserView s) : Stands c s t := by
  simp only [parserView, Prod.mk.injEq] at h
  obtain ⟨hs, hd, hh, he, hl⟩ := h
  exact ⟨fun _ => hs, fun _ => hd, fun _ => he, fun hk => absurd hc (by simp [hk]), fun hk => absurd hc (by simp [hk]), fun _ => hh,
    fun _ => hl⟩

theorem Stands.parseBytes (hc : changesParser c = true) (bytes : List Byte) (late : Nat) (s : State) :
    Stands c s (parseBytes bytes late s) := by
  have hoffered : ∀ (r : Request) (u : State), Stands c u (offerRequest r u) := fun r u =>
    .of_parser hc (by simp [parserView, settingsView, judgeSettings])
  have htaken : ∀ (found : List (Option Request)) (u : State), Stands c u (takeParsed found u) := by
    intro found
    induction found with
    | nil => exact .refl
    | cons r rest ih =>
      intro u
      cases r with
      | none => exact .after (ih _) (.of_parser hc rfl)
      | some r => exact .after (ih _) (hoffered r u)
  exact (htaken _ s).trans (.of_parser hc rfl)

theorem Stands.messageBytes (bytes : List Byte) (s : State) : Stands (.controlMessageReceived bytes) s (messageBytes bytes s) := by
  unfold Machine.messageBytes
  split
  · exact .refl s
  · exact .parseBytes rfl _ _ s

theorem Stands.abandonMessage (s : State) : Stands .interByteTimeout s (abandonMessage s) := by
  unfold Machine.abandonMessage
  split
  · exact .refl s
  · exact .after (.parseBytes rfl _ _ _) (.of_parser rfl rfl)

/-! ## Power-on and the message sent -/

theorem stands_powerOn (h : exec .powerOn s = .next t) : Stands .powerOn s t := by
  cases h
  exact ⟨fun hk => absurd hk (by decide), fun hk => absurd hk (by decide), fun hk => absurd hk (by decide),
    fun hk => absurd hk (by decide), fun hk => absurd hk (by decide), fun _ => by rw [closeEvent_startUp],
    fun _ => by rw [closeEvent_startUp]⟩

/-- Of MESSAGE_SENT, which may be the soft reset, only what left the home port last is said. -/
theorem stands_messageSent (h : exec .messageSent s = .next t) : Stands .messageSent s t := by
  refine ⟨fun hk => absurd hk (by decide), fun hk => absurd hk (by decide), fun hk => absurd hk (by decide),
    fun hk => absurd hk (by decide), fun hk => absurd hk (by decide), fun _ => ?_, fun hk => absurd rfl hk⟩
  cases hr : s.resetHeld with
  | true =>
    simp only [exec, execMessageSent, runQuiet, hr, if_true, Host.Outcome.next.injEq] at h
    rw [h]
  | false =>
    rw [exec_messageSent hr, Host.Outcome.next.injEq] at h
    rw [← h]
    cases hq : s.link.outbound with
    | nil => simp [headSent_of_empty hq]
    | cons m rest =>
      by_cases hkept : s.link.resetTaken = false ∨ m.answersReset = false
      · simp [headSent_of_kept hq hkept]
      · obtain ⟨htaken, hm⟩ : s.link.resetTaken = true ∧ m.answersReset = true := by simpa using hkept
        simp [headSent_of_reset hq htaken hm, softReset_frame]

end

/-! ## Every command -/

/-- A change of the fibre line's level, held or as an event, leaves all but the settings (R113, R119). -/
theorem OutcomeStands.fibreLink {c : Instr} {s level : State} {effect : State → State} (hc : changesSettings c = true)
    (hlevel : recordView level = recordView s) (h : Stands c s (effect s)) :
    OutcomeStands c s (if s.resetHeld then .next level else Machine.run s effect) := by
  split
  · exact outcomeStands_next (.of_records hc hlevel)
  · exact .run h

theorem outcomeStands_exec (c : Instr) (s : State) : OutcomeStands c s (exec c s) := by
  cases c with
  | powerOn => exact fun _ => stands_powerOn
  | messageSent => exact fun _ => stands_messageSent
  | controlMessageReceived bytes => exact .runQuiet (.messageBytes bytes s)
  | interByteTimeout => exact .runQuiet (.abandonMessage s)
  | unknownRequest => exact .runQuiet (.unknownTaken s)
  | identify => exact .runRequest rfl _ _ fun _ => .returns _
  | getStatus => exact .runRequest rfl _ _ fun _ => .returns _
  | setLane => exact .runActing rfl _ _ _ (answerStands_setLane s)
  | getLane => exact .runRequest rfl _ _ fun _ => .withBody _ fun _ => .returns _
  | setClass => exact .runRequest rfl _ _ fun _ => .withBody _ fun _ => .apply fun _ => .of_records rfl rfl
  | getClass => exact .runRequest rfl _ _ fun _ => .withBody _ fun _ => .returns _
  | setJudge => exact .runRequest rfl _ _ (answerStands_setJudge s)
  | getJudge => exact .runRequest rfl _ _ fun _ => .withBody _ fun _ => .returns _
  | setDamping => exact .runActing rfl _ _ _ (answerStands_setDamping s)
  | setCarry => exact .runRequest rfl _ _ (answerStands_setCarry s)
  | setModule => exact .runRequest rfl _ _ (answerStands_setModule s)
  | setSupply => exact .runActing rfl _ _ _ (answerStands_setSupply s)
  | start => exact .runActing rfl _ _ _ (answerStands_start s)
  | haltImmediate => exact .runActing rfl _ _ _ fun body => answerStands_halt s body _
  | haltAtBoundary => exact .runActing rfl _ _ _ fun body => answerStands_halt s body _
  | pin => exact .runActing rfl _ _ _ (answerStands_pin s)
  | handoverNow => exact .runActing rfl _ _ _ (answerStands_handoverNow s)
  | readEvents => exact .runRequest rfl _ _ fun _ => .returns _
  | clearEvents => exact .runRequest rfl _ _ fun _ => .apply fun _ => .quiet rfl
  | setAlert => exact .runRequest rfl _ _ fun _ => .withBody _ fun _ => .apply fun _ => .of_records rfl rfl
  | readCounts => exact .runRequest rfl _ _ (answerStands_readCounts s)
  | reset => exact .runRequest rfl _ _ fun _ => .apply fun _ => .quiet rfl
  | homeFrameArrival bytes => exact .runWith (.homeArrival bytes s)
  | homeLinkChange up => exact outcomeStands_next (.of_records rfl rfl)
  | deliveryComplete => exact .runQuiet (.deliverHead s)
  | fibreFrameArrival bytes => exact .run (.fibreArrival bytes s)
  | moduleUnitArrival bytes => exact .run (.unitArrival bytes s)
  | fibreLinkDown => exact .fibreLink rfl rfl (.of_records rfl (by simp [recordView]))
  | fibreLinkUp => exact .fibreLink rfl rfl (.of_records rfl rfl)
  | rewindTimerExpiry => exact .run (.quiet (by simp [quietView, recordView, settingsView, judgeSettings_rewindExpires]))
  | intervalEnd bearer => exact .run (.quiet (by simp [quietView, recordView, settingsView, judgeSettings_endInterval]))
  | detached => exact .run (.quiet (by simp [quietView, recordView, settingsView, judgeSettings_detachedTaken]))
  | responseTimeout => exact .run (.quiet (by simp [quietView, recordView, settingsView, judgeSettings_responseLate]))
  | readyLimitPasses => exact .run (.quiet (by simp [quietView, recordView, settingsView, judgeSettings_readyLate]))
  | probeEntryExpiry bearer tag =>
    exact .runQuiet (.quiet (by simp [quietView, recordView, settingsView, judgeSettings]))
  | resetNAsserted => exact outcomeStands_next (.of_records rfl rfl)
  | _ => exact .run (.quiet (by simp [quietView, recordView, settingsView, judgeSettings]))

end Sys2Proof.Machine

open Sys2Proof.Machine in
/-- Settles O53. Every effect is followed group by group in `Stands`. -/
theorem settingsAndQueuesChangeByTheirCommandsAlone : Obligations.SettingsAndQueuesChangeByTheirCommandsAlone := by
  intro c s t h
  have hstands := outcomeStands_exec c s t h
  exact ⟨fun hc => settingsKept_of_view (hstands.settings hc), hstands.delivery, hstands.expected, hstands.parser, hstands.inbound,
    hstands.delivered, hstands.sent⟩
end

section
/-! PROOFS. The law of the replay store under its own operations (R44 to R50, R97 to R99). -/

namespace Sys2Proof.Machine

/-! ## The numbers of the records (R45) -/

theorem storeNumbers_length (n : Seq) (length : Nat) : (storeNumbers n length).length = length := by simp [storeNumbers]

/-- A record more, with the number N, takes the newest place (R46). -/
theorem storeNumbers_succ (n : Seq) (length : Nat) : storeNumbers (n + 1) (length + 1) = storeNumbers n length ++ [n] := by
  have hbase : n + 1 - BitVec.ofNat 16 (length + 1) = n - BitVec.ofNat 16 length := by bv_omega
  simp only [storeNumbers, List.range_succ, List.map_append, List.map_cons, List.map_nil, hbase, BitVec.sub_add_cancel]

/-- The oldest records given up, the rest keep their numbers (R47). -/
theorem storeNumbers_drop (n : Seq) (length k : Nat) : (storeNumbers n length).drop k = storeNumbers n (length - k) := by
  refine List.ext_getElem (by simp [storeNumbers]) fun i hi _ => ?_
  have hle : k ≤ length := by
    simp only [List.length_drop, storeNumbers_length] at hi
    omega
  obtain ⟨m, rfl⟩ := Nat.exists_eq_add_of_le hle
  simp only [storeNumbers, List.getElem_drop, List.getElem_map, List.getElem_range, Nat.add_sub_cancel_left, BitVec.ofNat_add]
  ring

/-- No number stands twice in a store of at most 1,024 records (R44, R45). -/
theorem storeNumbers_nodup (n : Seq) {length : Nat} (h : length ≤ 1024) : (storeNumbers n length).Nodup := by
  refine List.Nodup.map_on (fun i hi j hj hij => ?_) List.nodup_range
  rw [List.mem_range] at hi hj
  have hbits : BitVec.ofNat 16 i = BitVec.ofNat 16 j := by simpa using hij
  have hnat : i % 65536 = j % 65536 := congrArg BitVec.toNat hbits
  omega

/-! ## The cells of the records (R44) -/

theorem storeCells_append (older newer : List StoreRecord) :
    storeCells (older ++ newer) = storeCells older + storeCells newer := by simp [storeCells]

theorem storeCells_drop_le (k : Nat) (store : List StoreRecord) : storeCells (store.drop k) ≤ storeCells store := by
  have hsplit := storeCells_append (store.take k) (store.drop k)
  rw [List.take_append_drop] at hsplit
  omega

/-- A record that the pass has reached holds no more cells than before (R49). -/
theorem cells_reached_le (r : StoreRecord) (voids : Bool) : (r.reached voids).cells ≤ r.cells := by
  cases voids
  · exact le_refl _
  · have hnone : (r.reached true).cells = 0 := by
      simp [StoreRecord.reached, StoreRecord.cells, StoreRecord.length, cellNeed, Config.cellBytes]
    omega

/-! ## The cursor (R98, R99) -/

theorem nextSeq_mem {c d : Seq} {store : List StoreRecord} (h : d ∈ nextSeq c store) : d ∈ store.map StoreRecord.seq := by
  induction store with
  | nil => cases h
  | cons r rest ih =>
    rw [nextSeq] at h
    split at h
    · rw [← List.head?_map] at h
      exact List.mem_cons_of_mem _ (List.mem_of_mem_head? h)
    · exact List.mem_cons_of_mem _ (ih h)

theorem correctedCursor_mem {cursor : Option Seq} {d : Seq} {store : List StoreRecord} (h : d ∈ correctedCursor cursor store) :
    d ∈ store.map StoreRecord.seq := by
  cases cursor with
  | none => cases h
  | some c =>
    rw [correctedCursor_some] at h
    split at h
    · next hc =>
      cases h
      exact hc
    · exact List.mem_of_mem_head? h

/-! ## The store's operations -/

namespace StoreLaw

variable {t u : Sender}

/-- The law reads N, the store and the cursor, and a pass without a cursor has none to hold (R95). -/
theorem cursorGone (h : StoreLaw t) (hn : u.n = t.n) (hs : u.store = t.store) (hc : u.cursor = none) : StoreLaw u := by
  obtain ⟨hlength, hcells, hnumbers, -⟩ := h
  rw [StoreLaw, hn, hs, hc]
  exact ⟨hlength, hcells, hnumbers, fun c hc => nomatch hc⟩

/-- An empty store with no pass keeps to the law whatever N is. -/
theorem of_empty (hs : t.store = []) (hc : t.cursor = none) : StoreLaw t := by
  rw [StoreLaw, hs, hc]
  exact ⟨Nat.zero_le _, Nat.zero_le _, rfl, fun c hc => nomatch hc⟩

/-- A frame that the store admits joins it with the number N (R46). -/
theorem enrol (h : StoreLaw t) {frame : QueuedFrame} (l : Lane) (hroom : t.admits frame.bytes.length = true) :
    StoreLaw (t.enrol l frame) := by
  obtain ⟨hplace, hfits⟩ := (admits_iff h _).1 hroom
  obtain ⟨-, -, hnumbers, hcursor⟩ := h
  refine ⟨?_, ?_, ?_, fun c hc => ?_⟩
  · rw [Sender.enrol, List.length_append]
    exact hplace
  · rw [Sender.enrol, storeCells_append]
    have hnew : storeCells [⟨t.n, l, frame.arrival, 0, some frame.bytes⟩] = (frame.bytes.length + 127) / 128 := rfl
    rw [hnew]
    omega
  · simp only [Sender.enrol, List.map_append, hnumbers, List.length_append, List.map_cons, List.map_nil, List.length_singleton,
      storeNumbers_succ]
  · have hheld := hcursor c hc
    simp only [Sender.enrol, List.map_append, List.mem_append]
    exact .inl hheld

/-- A release gives up the oldest records, and the cursor moves to one that is still held (R47, R99). -/
theorem release (h : StoreLaw t) (a : Seq) : StoreLaw (t.release a) := by
  obtain ⟨hlength, hcells, hnumbers, -⟩ := h
  refine ⟨?_, (storeCells_drop_le _ _).trans hcells, ?_, fun c hc => correctedCursor_mem hc⟩
  · exact (List.length_drop.trans_le (Nat.sub_le _ _)).trans hlength
  · simp only [Sender.release, List.map_drop, hnumbers, storeNumbers_drop, List.length_drop]

/-- The pass reaches the record at the cursor and goes on to the next newer one (R49, R50, R98). -/
theorem reach (h : StoreLaw t) {c : Seq} {r : StoreRecord} (hr : t.store.find? (fun x => x.seq == c) = some r) (voids : Bool)
    (hn : u.n = t.n) (hs : u.store = t.store.map (fun x => if x.seq = c then r.reached voids else x))
    (hc : u.cursor = nextSeq c t.store) : StoreLaw u := by
  obtain ⟨hlength, hcells, hnumbers, -⟩ := h
  obtain rfl : r.seq = c := by simpa using List.find?_some hr
  have hseq : u.store.map StoreRecord.seq = t.store.map StoreRecord.seq := by
    rw [hs, List.map_map]
    refine List.map_congr_left fun x _ => ?_
    dsimp only [Function.comp]
    split
    · next hx => exact hx.symm
    · rfl
  have hnodup : (t.store.map StoreRecord.seq).Nodup := hnumbers ▸ storeNumbers_nodup t.n hlength
  have honly : ∀ x ∈ t.store, x.seq = r.seq → x = r := fun x hx he =>
    List.inj_on_of_nodup_map hnodup hx (List.mem_of_find?_eq_some hr) he
  have hless : storeCells u.store ≤ storeCells t.store := by
    rw [hs, storeCells, List.map_map]
    refine List.sum_le_sum fun x hx => ?_
    dsimp only [Function.comp]
    split
    · next he =>
      rw [honly x hx he]
      exact cells_reached_le r voids
    · exact le_refl _
  have hsame : u.store.length = t.store.length := by rw [hs, List.length_map]
  refine ⟨hsame ▸ hlength, hless.trans hcells, ?_, fun d hd => ?_⟩
  · rw [hseq, hnumbers, hn, hsame]
  · rw [hc] at hd
    rw [hseq]
    exact nextSeq_mem hd

end StoreLaw

end Sys2Proof.Machine
end

section
/-! PROOFS. The law of the replay store under the path selector, the judges and the module controller. -/

namespace Sys2Proof.Machine

/-- From the one state to the other the law of the replay store is kept. -/
def StoreKept (s t : State) : Prop := StoreLaw s.sender → StoreLaw t.sender

/-- What the law of the replay store reads of a state. -/
def storeView (s : State) : Seq × List StoreRecord × Option Seq := (s.sender.n, s.sender.store, s.sender.cursor)

/-- A pass that starts, or starts again, has no cursor yet (R96, R99). -/
theorem cursor_startPass {s : State} (h : s.sender.cursor = none) : (startPass s).sender.cursor = none := by
  unfold startPass
  split
  · rfl
  · exact h

/-- A change to a bearer ends the pass of the old one, and no new pass has a cursor yet (R101, R102). -/
theorem cursor_makeActive (b : Bearer) (n : Bool) (s : State) : (makeActive b n s).sender.cursor = none := by
  have hsession : ∀ t : State, t.sender.cursor = none → (sessionOn b t).sender.cursor = none := fun t ht => by
    unfold sessionOn
    split
    · simpa using ht
    · simpa using ht
    · have hasked : (requestRewind t).sender.cursor = none := by simpa using ht
      simp only [takeUpReceiver_frame, takeUpSender]
      split
      · exact cursor_startPass hasked
      · exact hasked
  simpa [makeActive] using hsession (endActive { s with
    selector := { s.selector with status := .on b }, pause := { s.pause with selector := false } }) rfl

namespace StoreKept

variable {s t u : State}

theorem refl (s : State) : StoreKept s s := id
theorem trans (h : StoreKept s t) (h' : StoreKept t u) : StoreKept s u := h' ∘ h
theorem after (h' : StoreKept t u) (h : StoreKept s t) : StoreKept s u := h.trans h'

/-- A change of what the law does not read. -/
theorem same (h : storeView t = storeView s) : StoreKept s t := by
  simp only [storeView, Prod.mk.injEq] at h
  obtain ⟨hn, hs, hc⟩ := h
  intro hlaw
  rwa [StoreLaw, hn, hs, hc]

/-- A pass that goes takes its cursor along. -/
theorem cursorGone (hn : t.sender.n = s.sender.n) (hs : t.sender.store = s.sender.store) (hc : t.sender.cursor = none) :
    StoreKept s t := fun h => h.cursorGone hn hs hc

/-! The path selector. -/

theorem handWanted (s : State) : StoreKept s (handWanted s) := .same (by simp [storeView])

theorem completeRecord (o : HandoverOutcome) (s : State) : StoreKept s (completeRecord o s) := .same rfl

theorem makeActive (b : Bearer) (n : Bool) (s : State) : StoreKept s (makeActive b n s) :=
  .cursorGone (by simp) (by simp) (cursor_makeActive b n s)

theorem enterOutage (s : State) : StoreKept s (enterOutage s) := by
  rw [enterOutage_eq]
  exact .cursorGone (by simp [outageEntered]) (by simp [outageEntered]) (by simp [outageEntered, endActive, abandonPass])

theorem switchDrain {hold : State → State} (hh : ∀ s, StoreKept s (hold s)) (b : Bearer) (o : HandoverOutcome) (s : State) :
    StoreKept s (switchDrain hold b o s) := by
  unfold Machine.switchDrain
  exact .after (.handWanted _) (.after (hh _) (.after (.completeRecord _ _) (.after (.makeActive _ _ _) (.same rfl))))

theorem startDrain {hold : State → State} (hh : ∀ s, StoreKept s (hold s)) (b : Bearer) (s : State) :
    StoreKept s (startDrain hold b s) := by
  have hbegun : StoreKept s (Machine.handWanted (enterDrain b s)) := .same (by simp [storeView])
  unfold Machine.startDrain
  dsimp only
  split
  · exact hbegun.trans (.switchDrain hh _ _ _)
  · exact hbegun

theorem updateHold (s : State) : StoreKept s (updateHold s) := by
  unfold Machine.updateHold
  split
  · split
    · exact .refl s
    · split
      · exact .startDrain .refl _ _
      · exact .same rfl
  · exact .same rfl

theorem forceTo (source : Option Bearer) (b : Bearer) (s : State) : StoreKept s (forceTo source b s) :=
  .after (.handWanted _) (.after (.updateHold _) (.after (.same rfl) (.makeActive _ _ _)))

theorem loseActive (b : Bearer) (s : State) : StoreKept s (loseActive b s) := by
  unfold Machine.loseActive
  dsimp only
  split
  · exact .after (.forceTo _ _ _) (.same rfl)
  · exact .after (.enterOutage _) (.same rfl)

theorem abandonDrain (source : Bearer) (o : HandoverOutcome) (s : State) : StoreKept s (abandonDrain source o s) := by
  unfold Machine.abandonDrain
  dsimp only
  split
  · exact .after (.handWanted _) (.after (.updateHold _) (.same rfl))
  · exact .after (.enterOutage _) (.same rfl)

theorem onEligibility (b : Bearer) (s : State) : StoreKept s (onEligibility b s) := by
  unfold Machine.onEligibility
  split
  · exact .refl s
  · split
    · exact .forceTo _ _ _
    · exact .refl s
  · split
    · split
      · exact .refl s
      · exact .loseActive _ _
    · split
      · exact .updateHold _
      · exact .refl s
  · split
    · exact .refl s
    · split
      · exact .switchDrain .updateHold _ _ _
      · exact .abandonDrain _ _ _

theorem rework (b : Bearer) (s : State) : StoreKept s (rework b s) := by
  rw [rework_eq]
  split
  · exact .refl s
  · exact .after (.onEligibility _ _) (.same (by simp [storeView, noted]))

theorem drainEmptied (s : State) : StoreKept s (drainEmptied s) := by
  unfold Machine.drainEmptied
  split
  · exact .switchDrain .updateHold _ _ _
  · exact .refl s

theorem takeFromOutage (s : State) : StoreKept s (takeFromOutage s) := by
  unfold Machine.takeFromOutage
  split
  · exact .forceTo _ _ _
  · split
    · exact .forceTo _ _ _
    · exact .refl s

/-! The judges. -/

theorem decayBy (b : Bearer) (s : State) : StoreKept s (decayBy b s) := by
  unfold Machine.decayBy
  dsimp only
  split
  · exact .refl s
  · split
    · exact .after (.rework _ _) (.same (by simp [storeView]))
    · exact .same (by simp [storeView])

theorem fall (b : Bearer) (s : State) : StoreKept s (fall b s) := .after (.rework _ _) (.same (by simp [storeView]))

theorem rise (b : Bearer) (s : State) : StoreKept s (rise b s) := .after (.rework _ _) (.same (by simp [storeView]))

theorem hardFail (b : Bearer) (s : State) : StoreKept s (hardFail b s) := by
  have hzeroed : StoreKept s (s.mapJudge b Judge.hardFailed) := .same (by simp [storeView])
  unfold Machine.hardFail
  dsimp only
  split
  · split
    · exact hzeroed.trans (.fall _ _)
    · exact hzeroed
  · exact .refl s

theorem verdictTest (b : Bearer) (s : State) : StoreKept s (verdictTest b s) := by
  unfold Machine.verdictTest
  dsimp only
  split
  · split
    · exact .rise _ _
    · exact .refl s
  · split
    · exact .after (.fall _ _) (.same (by simp [storeView]))
    · exact .refl s

theorem endInterval (b : Bearer) (s : State) : StoreKept s (endInterval b s) := by
  unfold Machine.endInterval
  split
  · exact .refl s
  · next moment _ =>
    have htested : StoreKept s (Machine.verdictTest b ((s.advanceTo moment).mapJudge b
        (fun j => (j.counted ((s.judge b).intervalGood b)).windowed))) :=
      .after (.verdictTest _ _) (.same (by simp [storeView]))
    dsimp only
    split
    · exact htested.trans (.same (by simp [storeView]))
    · exact htested

theorem tick (b : Bearer) (s : State) : StoreKept s (tick b s) := by
  unfold Machine.tick
  split
  · exact .refl s
  · exact .after (.decayBy _ _) (.same (by simp [storeView]))

theorem setDamping (b : Bearer) (d : Damping) (s : State) : StoreKept s (setDamping b d s) := by
  have hretested : ∀ t, StoreKept t (retestSuppression b t) := fun t => by
    unfold retestSuppression
    dsimp only
    split
    · exact .after (.rework _ _) (.same (by simp [storeView]))
    · split
      · exact .after (.rework _ _) (.same (by simp [storeView]))
      · exact .refl t
  have hmapped : StoreKept s (s.mapJudge b (Judge.withDamping d)) := .same (by simp [storeView])
  exact (hmapped.trans (hretested _)).trans (.same (by simp [storeView, Machine.setDamping]))

/-! The module controller. -/

theorem releaseFrom (c : ReleaseCause) (s : State) : StoreKept s (releaseFrom c s) :=
  .after (.rework _ _) (.same (by simp [storeView]))

theorem signalTaken (level : Option Int) (s : State) : StoreKept s (signalTaken level s) := by
  have hafter : ∀ t, StoreKept t (afterSignal t) := fun t => by
    unfold afterSignal
    dsimp only
    split
    · split
      · exact .after (.releaseFrom _ _) (.same rfl)
      · exact .same rfl
    · exact .after (.rework _ _) (.same (by simp [storeView]))
  unfold Machine.signalTaken
  split
  · exact .after (hafter _) (.same (by simp [storeView]))
  · exact .refl s

theorem cellLost (s : State) : StoreKept s (cellLost s) := by
  have hleft : StoreKept s (Machine.rework .radio (cellLeft s)) :=
    .after (.rework _ _) (.after (.same (by simp [storeView, cellLeft])) (.hardFail .radio s))
  rw [cellLost_eq]
  dsimp only
  split
  · exact hleft.trans (.same (by simp [storeView]))
  · exact hleft.trans (.same (by simp [storeView]))

theorem detachedTaken (s : State) : StoreKept s (detachedTaken s) := by
  unfold Machine.detachedTaken
  split
  · exact .cellLost s
  · split
    · exact .same rfl
    · exact .refl s
  · exact .refl s

theorem commandTimesOut (s : State) : StoreKept s (commandTimesOut s) := by
  have hfailed : StoreKept s (Machine.hardFail .radio (Machine.report .moduleFault
      ((s.answered.countModule .upTimeouts).countModule .upFaults))) := .after (.hardFail _ _) (.same (by simp [storeView]))
  unfold Machine.commandTimesOut
  dsimp only
  split
  · exact hfailed.trans (.same (by simp [storeView]))
  · exact hfailed.trans (.releaseFrom _ _)
  · exact hfailed.trans (.releaseFrom _ _)
  · exact hfailed

theorem responseLate (s : State) : StoreKept s (responseLate s) := by
  unfold Machine.responseLate
  split
  · exact .refl s
  · split
    · exact .refl s
    · exact .after (.commandTimesOut _) (.same rfl)

theorem lingerExpires (s : State) : StoreKept s (lingerExpires s) := by
  unfold Machine.lingerExpires
  split
  · exact .refl s
  · dsimp only
    split
    · split
      · exact .same rfl
      · exact .after (.releaseFrom _ _) (.same rfl)
    · exact .same rfl

theorem readyLate (s : State) : StoreKept s (readyLate s) := by
  have hstalls : ∀ t, StoreKept t (unitStalls t) := fun t => by
    unfold unitStalls
    dsimp only
    split
    · exact .same rfl
    · exact .after (.releaseFrom _ _) (.after (.hardFail _ _) (.same (by simp [storeView])))
  unfold Machine.readyLate
  split
  · split
    · exact .after (hstalls _) (.same rfl)
    · exact .refl s
  · split
    · exact .same (by simp [storeView])
    · exact .refl s
  · exact .refl s

/-! The lines and the timers. -/

theorem fibreLinkLost (s : State) : StoreKept s (fibreLinkLost s) := by
  unfold Machine.fibreLinkLost
  split
  · exact .after (.hardFail _ _) (.same (by simp [storeView]))
  · exact .refl s

theorem rewindExpires (s : State) : StoreKept s (rewindExpires s) := by
  have hexhausted : ∀ t, StoreKept t (rewindExhausted t) := fun t => by
    unfold rewindExhausted
    dsimp only
    split
    · exact .after (.hardFail _ _) (.same (by simp [storeView]))
    · exact .same (by simp [storeView])
  unfold Machine.rewindExpires
  split
  · exact .refl s
  · dsimp only
    split
    · exact .same rfl
    · split
      · exact .same (by simp [storeView])
      · exact .after (hexhausted _) (.same rfl)

theorem holdExpires (s : State) : StoreKept s (holdExpires s) := by
  unfold Machine.holdExpires
  split
  · exact .refl s
  · dsimp only
    split
    · exact .after (.startDrain .updateHold _ _) (.same rfl)
    · exact .same rfl

theorem drainExpires (s : State) : StoreKept s (drainExpires s) := by
  unfold Machine.drainExpires
  split
  · exact .refl s
  · dsimp only
    split
    · exact .after (.switchDrain .updateHold _ _ _) (.same rfl)
    · exact .same rfl

/-! The requests' effects. -/

theorem halt {cut : State → State} (hcut : HaltCut cut) (s : State) : StoreKept s (halt cut s) := by
  have hended : ∀ b (t : State), StoreKept t (endJudging b t) := fun b t => .after (.rework _ _) (.same (by simp [storeView]))
  have hhalted : StoreKept s (haltedCarrying cut s) := by
    obtain rfl | rfl := hcut <;>
      exact .cursorGone (by simp [haltedCarrying]) (by simp [haltedCarrying]) rfl
  unfold Machine.halt
  split
  · exact .refl s
  · exact .after (.handWanted _) (.after (hended _ _) (.after (hended _ _) hhalted))

theorem pinAction (p : PinValue) (s : State) : StoreKept s (pinAction p s) := by
  unfold Machine.pinAction
  split
  · exact .refl s
  · exact .takeFromOutage s
  · split
    · exact .updateHold s
    · unfold leaveBearer
      split
      · exact .startDrain .updateHold _ _
      · exact .enterOutage s
  · exact .refl s

theorem takePin (p : PinValue) (s : State) : StoreKept s (takePin p s) := by
  have hpinned : StoreKept s (setPin p s) := .same rfl
  unfold Machine.takePin
  split
  · split
    · exact .after (.handWanted _) (.after (.rework _ _) (.after (.abandonDrain _ _ _) hpinned))
    · exact .after (.handWanted _) (.after (.rework _ _) hpinned)
  · exact .after (.handWanted _) (.after (.pinAction _ _) (.after (.rework _ _) hpinned))

end StoreKept

end Sys2Proof.Machine
end

section
/-! PROOFS. The law of the replay store under the ports and the receiver. -/

namespace Sys2Proof.Machine

/-- A head that an examination gives for a replay-class lane has a place in the store (R33, R46). -/
theorem examineLanes_admits {order : List Lane} {s t : State} {l : Lane} {head : QueuedFrame}
    (h : examineLanes order s = (t, some (l, head))) (hreplay : (t.lanes.get l).profile.replay = true) :
    t.sender.admits head.bytes.length = true := by
  induction order generalizing s with
  | nil => cases h
  | cons k rest ih =>
    rw [examineLanes] at h
    split at h
    · exact ih h
    · next tail _ =>
      split at h
      · exact ih h
      · next hopen =>
        cases h
        have hclass : (((discardHeads l s).setQueue l tail).lanes.get l).profile = ((discardHeads l s).lanes.get l).profile := by
          cases l <;> rfl
        have hreplay' : ((discardHeads l s).lanes.get l).profile.replay = true := hclass ▸ hreplay
        simpa [blocked, hreplay'] using hopen

/-- The pass has taken a record: it is voided where the test says so, and the cursor has moved on (R49, R50, R98). -/
def recordReached (c : Seq) (r : StoreRecord) (s : State) : State :=
  let counted := if voidingTest s r then report .staleVoided (s.countCarry .upVoided) else s
  { counted with sender := { counted.sender with
    store := counted.sender.store.map (fun x => if x.seq = c then r.reached (voidingTest s r) else x)
    cursor := nextSeq c counted.sender.store } }

/-- The copy of a record that is held starts to leave as the pass has left the record (R53). -/
theorem passCopy_of_found {b : Bearer} {c : Seq} {r : StoreRecord} {s : State}
    (h : s.sender.store.find? (fun x => x.seq == c) = some r) : passCopy b c s =
      startFrame b (copyFrame (r.reached (voidingTest s r)) b (recordReached c r s)) (recordReached c r s) := by
  simp only [passCopy, h]
  rfl

theorem recordReached_sender (c : Seq) (r : StoreRecord) (s : State) :
    (recordReached c r s).sender.n = s.sender.n
      ∧ (recordReached c r s).sender.store
        = s.sender.store.map (fun x => if x.seq = c then r.reached (voidingTest s r) else x)
      ∧ (recordReached c r s).sender.cursor = nextSeq c s.sender.store := by
  unfold recordReached
  split <;> simp

namespace StoreKept

variable {s : State}

/-! What starts to leave the ports. -/

theorem startFrame (b : Bearer) (f : CarryFrame) (s : State) : StoreKept s (startFrame b f s) := .same (by simp [storeView])

theorem passCopy (b : Bearer) (c : Seq) (s : State) : StoreKept s (passCopy b c s) := by
  cases hr : s.sender.store.find? (fun x => x.seq == c) with
  | none =>
    have hgone : Machine.passCopy b c s = { s with sender := { s.sender with cursor := none } } := by
      simp only [Machine.passCopy, hr]
    rw [hgone]
    exact .cursorGone rfl rfl rfl
  | some r =>
    obtain ⟨hn, hstore, hcursor⟩ := recordReached_sender c r s
    rw [passCopy_of_found hr]
    exact .after (.startFrame _ _ _) fun hlaw => hlaw.reach hr (voidingTest s r) hn hstore hcursor

theorem sendHead {l : Lane} {head : QueuedFrame} (b : Bearer)
    (hroom : (s.lanes.get l).profile.replay = true → s.sender.admits head.bytes.length = true) :
    StoreKept s (sendHead l head b s) := by
  rw [sendHead_eq]
  refine .after (.startFrame _ _ _) fun hlaw => ?_
  cases hreplay : (s.lanes.get l).profile.replay with
  | true =>
    rw [admitHead_of_replay head hreplay]
    exact hlaw.enrol l (hroom hreplay)
  | false => rwa [admitHead_of_plain head hreplay]

theorem dispatch (b : Bearer) (s : State) : StoreKept s (dispatch b s) := by
  have hexamined : StoreKept s (examineLanes laneOrder s).1 := .same (by simp [storeView])
  unfold Machine.dispatch
  split
  · next h => rwa [h] at hexamined
  · next h =>
    rw [h] at hexamined
    exact hexamined.trans (.sendHead b (examineLanes_admits h))

theorem nextFrame (o : Bool) (b : Bearer) (s : State) : StoreKept s (nextFrame o b s) := by
  unfold Machine.nextFrame
  split
  · exact .startFrame _ _ _
  · split
    · exact .same (by simp [storeView])
    · split
      · exact .same (by simp [storeView])
      · split
        · exact .same (by simp [storeView])
        · split
          · split
            · exact .passCopy _ _ _
            · split
              · exact .dispatch _ _
              · exact .refl s
          · exact .refl s

theorem abandonPass (s : State) : StoreKept s (abandonPass s) := .cursorGone rfl rfl rfl

theorem serve (o : Bool) (b : Bearer) (s : State) : StoreKept s (serve o b s) := by
  have hended : StoreKept s (endPassAt b s) := by
    obtain he | ⟨-, he⟩ := endPassAt_cases b s <;> rw [he]
    · exact .refl s
    · exact .abandonPass s
  unfold Machine.serve
  split
  · exact hended.trans (.nextFrame _ _ _)
  · exact .refl s

theorem finish (joined : Bool) (before s : State) : StoreKept s (finish joined before s) :=
  .after (.same rfl) (.after (.serve _ _ _) (.serve _ _ _))

/-! What a completion at a port does. -/

/-- A pass that goes on to RESENDING stands at the oldest record (R97). -/
theorem startResending (s : State) : StoreKept s (startResending s) := by
  unfold Machine.startResending
  split
  · exact .abandonPass s
  · next r rest hstore =>
    rintro ⟨hlength, hcells, hnumbers, -⟩
    refine ⟨hlength, hcells, hnumbers, ?_⟩
    rintro _ ⟨⟩
    simp [hstore]

theorem endStream (k : MarkKind) (s : State) : StoreKept s (endStream k s) := by
  unfold Machine.endStream
  dsimp only
  split
  · exact .same rfl
  · split
    · exact .after (.startResending _) (.same rfl)
    · exact .same rfl

theorem atBoundary (b : Bearer) (reoffer : Bool) (s : State) : StoreKept s (atBoundary b reoffer s) := by
  have hstream : StoreKept s (streamBoundary b s) := by
    unfold streamBoundary
    split
    · exact .refl s
    · split
      · split
        · exact .same (by simp [storeView])
        · split
          · exact .endStream _ _
          · exact .same rfl
      · exact .refl s
  have hpass : ∀ t, StoreKept t (passBoundary b t) := fun t => by
    unfold passBoundary
    split
    · exact .abandonPass t
    · exact .refl t
  refine .after (hpass _) ?_
  split
  · exact .refl s
  · exact hstream

theorem completeDeparture (b : Bearer) (s : State) : StoreKept s (completeDeparture b s) := by
  unfold Machine.completeDeparture
  split
  · exact .same (by simp [storeView])
  · refine .after (.atBoundary _ _ _) ?_
    split <;> exact .same (by simp [storeView])

/-! What the receiver takes. -/

theorem readAck (a : Seq) (s : State) : StoreKept s (readAck a s) := by
  cases hv : s.sender.ackValid a with
  | false =>
    rw [readAck_of_invalid hv]
    exact .same rfl
  | true =>
    have hreleased : StoreKept s (released a s) := fun hlaw => hlaw.release a
    rw [readAck_of_valid hv]
    split
    · exact hreleased.trans (.drainEmptied _)
    · exact hreleased

theorem readAckIfClear (a : Seq) (s : State) : StoreKept s (readAckIfClear a s) := by
  unfold Machine.readAckIfClear
  split
  · exact .refl s
  · exact .readAck _ _

theorem readProbeAck (f : CarryFrame) (s : State) : StoreKept s (readProbeAck f s) := by
  unfold Machine.readProbeAck
  split
  · exact .readAckIfClear _ _
  · exact .refl s

theorem setMarks (b : Bearer) (m : MarkCounters) (s : State) : StoreKept s (s.setMarks b m) := .same (by simp [storeView])

theorem rewindThreshold (s : State) : StoreKept s (rewindThreshold s) := by
  unfold Machine.rewindThreshold startPass
  split
  · split
    · exact .cursorGone rfl rfl rfl
    · exact .refl s
  · exact .same rfl

theorem takeRewind (b : Bearer) (f : CarryFrame) (s : State) : StoreKept s (takeRewind b f s) := by
  have hmarked := StoreKept.setMarks b ((s.marks b).mark .rewind s.carry.mRx).1 s
  have hacked : StoreKept s (if ((s.marks b).mark .rewind s.carry.mRx).2 || !s.receiver.discard
      then Machine.readAck f.ackno (s.setMarks b ((s.marks b).mark .rewind s.carry.mRx).1)
      else s.setMarks b ((s.marks b).mark .rewind s.carry.mRx).1) := by
    split
    · exact hmarked.trans (.readAck _ _)
    · exact hmarked
  unfold Machine.takeRewind
  dsimp only
  split
  · exact hacked.trans (.rewindThreshold _)
  · exact hacked

theorem takeReplay (b : Bearer) (f : CarryFrame) (s : State) : StoreKept s (takeReplay b f s) := by
  have hmarked := StoreKept.setMarks b ((s.marks b).mark .replay s.carry.mRx).1 s
  unfold Machine.takeReplay
  dsimp only
  split
  · split
    · exact hmarked.trans (.after (.readAck _ _) (.same rfl))
    · exact hmarked
  · exact hmarked.trans (.readAck _ _)

theorem acceptData (f : CarryFrame) (s : State) : StoreKept s (acceptData f s) := by
  refine .after (.readAck _ _) ?_
  split <;> exact .same (by simp [storeView])

theorem takeData (b : Bearer) (f : CarryFrame) (s : State) : StoreKept s (takeData b f s) := by
  unfold Machine.takeData
  split
  · exact .after (.readAckIfClear _ _) (.same (by simp [storeView]))
  · split
    · exact .same rfl
    · split
      · exact .acceptData _ _
      · exact .after (.readAck _ _) (.same rfl)
      · exact .same (by simp [storeView])

theorem takeOpened (s : State) : StoreKept s (takeOpened s) := .same (by simp [storeView])

/-- A restart empties the store, and no pass keeps a cursor (R18, R101). -/
theorem restartSession (s : State) : StoreKept s (restartSession s) := by
  have hopening : StoreKept s (restartOpening s) := fun _ =>
    .of_empty (restartOpening_restarted s).store (restartOpening_restarted s).quiet.cursor
  rw [restartSession_eq]
  split
  · exact hopening.trans (.drainEmptied _)
  · exact hopening.trans (.same (by simp [storeView]))
  · exact hopening

theorem takeFrame (b : Bearer) (k : FrameKind) (f : CarryFrame) (s : State) : StoreKept s (takeFrame b k f s) := by
  have hcounted : StoreKept s (if k.countsReceived then s.countCarry .upReceived else s) := by
    split
    · exact .same rfl
    · exact .refl s
  have hcleared := hcounted.trans (.setMarks b ⟨0, 0⟩ _)
  cases k with
  | rewind => exact hcounted.trans (.takeRewind _ _ _)
  | replay => exact hcounted.trans (.takeReplay _ _ _)
  | data => exact hcleared.trans (.takeData _ _ _)
  | tally => exact hcleared.trans (.readAckIfClear _ _)
  | probe => exact hcleared.trans (.after (.readProbeAck _ _) (.same (by simp [storeView])))
  | echo => exact hcleared.trans (.after (.readProbeAck _ _) (.same (by simp [storeView])))
  | opened => exact hcleared.trans (.takeOpened _)
  | opening => exact hcleared.trans (.restartSession _)

theorem receive (b : Bearer) (o : Option CarryFrame) (s : State) : StoreKept s (receive b o s) := by
  unfold Machine.receive
  split
  · exact .same (by simp [storeView])
  · split
    · split
      · exact .same rfl
      · split
        · exact .takeFrame _ _ _ _
        · exact .same rfl
    · exact .same rfl

theorem fibreArrival (bytes : List Byte) (s : State) : StoreKept s (fibreArrival bytes s) := by
  unfold Machine.fibreArrival
  split
  · exact .refl s
  · split
    · exact .refl s
    · split
      · exact .receive _ _ _
      · exact .same rfl

theorem unitArrival (bytes : List Byte) (s : State) : StoreKept s (unitArrival bytes s) := by
  unfold Machine.unitArrival
  split
  · exact .receive _ _ _
  · exact .refl s

end StoreKept

end Sys2Proof.Machine
end

section
/-! PROOFS. Every command keeps the law of the replay store. -/

namespace Sys2Proof.Machine

/-! ## Requests (R173) -/

/-- An answer's effect keeps the law of the replay store. -/
def AnswerKeepsStore (a : Answer) : Prop := ∀ t, StoreKept t (a.effect t)

namespace AnswerKeepsStore

theorem refuse (r : ReplyStatus) : AnswerKeepsStore (.refuse r) := StoreKept.refl
theorem returns (results : List Byte) : AnswerKeepsStore (.return results) := StoreKept.refl
theorem apply {effect : State → State} (h : ∀ t, StoreKept t (effect t)) : AnswerKeepsStore (.apply effect) := h

theorem withBody {α : Type} {answer : α → Answer} {body : Option α} (h : ∀ v, AnswerKeepsStore (answer v)) :
    AnswerKeepsStore (.withBody body answer) := by
  cases body with
  | none => exact refuse _
  | some v => exact h v

end AnswerKeepsStore

/-- A command's outcome keeps the law of the replay store. -/
def OutcomeKeepsStore (s : State) (o : Host.Outcome State Fault Refusal) : Prop := ∀ t, o = .next t → StoreKept s t

section
variable {s t : State}

theorem outcomeKeepsStore_next (h : StoreKept s t) : OutcomeKeepsStore s (.next t) := by
  rintro _ ⟨⟩
  exact h

theorem OutcomeKeepsStore.runWith {effect : State → State × Bool} (h : StoreKept s (effect s).1) :
    OutcomeKeepsStore s (runWith s effect) := by
  unfold Machine.runWith
  split
  · exact outcomeKeepsStore_next (.refl s)
  · exact outcomeKeepsStore_next (h.trans (.finish _ _ _))

theorem OutcomeKeepsStore.run {effect : State → State} (h : StoreKept s (effect s)) : OutcomeKeepsStore s (run s effect) :=
  .runWith h

theorem OutcomeKeepsStore.runQuiet {effect : State → State} (h : StoreKept s (effect s)) :
    OutcomeKeepsStore s (runQuiet s effect) := by
  unfold Machine.runQuiet
  split
  · exact outcomeKeepsStore_next (.refl s)
  · exact outcomeKeepsStore_next (h.trans (.same rfl))

theorem StoreKept.takeRequest {answer : List Byte → State → Answer} (kind : Byte) (only : List Byte → Bool) (length : Nat)
    (ha : ∀ body, AnswerKeepsStore (answer body s)) : StoreKept s (takeRequest kind only length answer s).1 := by
  obtain he | ⟨r, a, -, hkind, he⟩ := takeRequest_cases kind only length answer s <;> rw [he]
  · exact .refl s
  · have hplaced : StoreKept s (placeReply r a s) := .same rfl
    refine hplaced.trans ?_
    obtain rfl | rfl := hkind
    · exact ha _ _
    · exact .refl _

theorem OutcomeKeepsStore.runRequest {answer : List Byte → State → Answer} (kind : Byte) (length : Nat)
    (ha : ∀ body, AnswerKeepsStore (answer body s)) : OutcomeKeepsStore s (runRequest kind length answer s) :=
  .runQuiet (effect := fun t => (Machine.takeRequest kind anyBody length answer t).1) (.takeRequest kind anyBody length ha)

theorem OutcomeKeepsStore.runActing {answer : List Byte → State → Answer} (kind : Byte) (only : List Byte → Bool)
    (length : Nat) (ha : ∀ body, AnswerKeepsStore (answer body s)) : OutcomeKeepsStore s (runActing kind only length answer s) :=
  .runWith (.takeRequest kind only length ha)

/-- The line's level is set while RESET_N is held, and its change is an event otherwise (R113, R119). -/
theorem OutcomeKeepsStore.fibreLink {level : State} {effect : State → State} (hlevel : StoreKept s level)
    (h : StoreKept s (effect s)) : OutcomeKeepsStore s (if s.resetHeld then .next level else Machine.run s effect) := by
  split
  · exact outcomeKeepsStore_next hlevel
  · exact .run h

end

/-! The answers of the requests. -/

section
variable (s : State) (body : List Byte)

theorem answerKeepsStore_setLane : AnswerKeepsStore (answerSetLane body s) := by
  unfold answerSetLane
  split
  · exact .refuse _
  · refine .withBody fun v => ?_
    split
    · exact .refuse _
    · exact .apply fun _ => .same (by simp [storeView])

theorem answerKeepsStore_setJudge : AnswerKeepsStore (answerSetJudge body s) := by
  unfold answerSetJudge
  split
  · exact .refuse _
  · exact .withBody fun _ => .apply fun _ => .same (by simp [storeView])

theorem answerKeepsStore_setDamping : AnswerKeepsStore (answerSetDamping body s) := by
  unfold answerSetDamping
  split
  · exact .refuse _
  · exact .withBody fun v => .apply (.setDamping v.1 v.2)

theorem answerKeepsStore_setCarry : AnswerKeepsStore (answerSetCarry body s) := by
  unfold answerSetCarry
  split
  · exact .withBody fun _ => .apply fun _ => .same rfl
  · exact .refuse _

theorem answerKeepsStore_setModule : AnswerKeepsStore (answerSetModule body s) := by
  unfold answerSetModule
  split
  · exact .withBody fun _ => .apply fun _ => .same rfl
  · exact .refuse _

theorem answerKeepsStore_readCounts : AnswerKeepsStore (answerReadCounts body s) := by
  refine .withBody fun v t => ?_
  dsimp only
  split
  · exact .same rfl
  · exact .refl t

theorem answerKeepsStore_start : AnswerKeepsStore (answerStart body s) := by
  unfold answerStart
  split
  · exact .apply fun _ => .same (by simp [storeView])
  · exact .refuse _

theorem answerKeepsStore_halt : AnswerKeepsStore (answerHalt body s) := by
  unfold answerHalt
  split
  · exact .apply (.halt (.inl rfl))
  · split
    · exact .apply (.halt (.inr rfl))
    · exact .refuse _

theorem answerKeepsStore_pin : AnswerKeepsStore (answerPin body s) := by
  refine .withBody fun p => ?_
  split
  · exact .refuse _
  · exact .apply (.takePin p)

theorem answerKeepsStore_handoverNow : AnswerKeepsStore (answerHandoverNow body s) := by
  unfold answerHandoverNow
  split
  · exact .refuse _
  · split
    · exact .apply (.startDrain .updateHold _)
    · exact .refuse _
  · exact .refuse _

end

/-! ## The control link and the resets -/

namespace StoreKept

variable {s : State}

theorem takeParsed (found : List (Option Request)) (s : State) : StoreKept s (takeParsed found s) := by
  induction found generalizing s with
  | nil => exact .refl s
  | cons r rest ih =>
    cases r with
    | none => exact .after (ih _) (.same rfl)
    | some r => exact .after (ih _) (.same (by simp [storeView]))

theorem parseBytes (bytes : List Byte) (late : Nat) (s : State) : StoreKept s (parseBytes bytes late s) :=
  (StoreKept.takeParsed _ s).trans (.same rfl)

theorem messageBytes (bytes : List Byte) (s : State) : StoreKept s (messageBytes bytes s) := by
  unfold Machine.messageBytes
  split
  · exact .refl s
  · exact .parseBytes _ _ _

theorem abandonMessage (s : State) : StoreKept s (abandonMessage s) := by
  unfold Machine.abandonMessage
  split
  · exact .refl s
  · exact .after (.parseBytes _ _ _) (.same rfl)

theorem unknownTaken (s : State) : StoreKept s (unknownTaken s) := by
  unfold Machine.unknownTaken
  split
  · exact .refl s
  · split
    · exact .refl s
    · exact .same rfl

/-- A start empties the store (R62, R184, R185). -/
theorem startUp (epoch : BitVec 16) (link : LinkCounts) (s t : State) : StoreKept s (startUp epoch link t) := fun _ => by
  rw [startUp_eq]
  exact .of_empty rfl rfl

theorem headSent (s : State) : StoreKept s (headSent s) := by
  unfold Machine.headSent
  split
  · exact .refl s
  · dsimp only
    split
    · exact .startUp _ _ _ _
    · exact .same rfl

end StoreKept

/-! ## Every command -/

theorem outcomeKeepsStore_exec (s : State) (i : Instr) : OutcomeKeepsStore s (exec i s) := by
  cases i with
  | powerOn => exact outcomeKeepsStore_next (.after (.same rfl) (.startUp _ _ _ _))
  | messageSent => exact .runQuiet (.headSent s)
  | controlMessageReceived bytes => exact .runQuiet (.messageBytes bytes s)
  | interByteTimeout => exact .runQuiet (.abandonMessage s)
  | unknownRequest => exact .runQuiet (.unknownTaken s)
  | identify => exact .runRequest _ _ fun _ => .returns _
  | getStatus => exact .runRequest _ _ fun _ => .returns _
  | setLane => exact .runActing _ _ _ (answerKeepsStore_setLane s)
  | getLane => exact .runRequest _ _ fun _ => .withBody fun _ => .returns _
  | setClass => exact .runRequest _ _ fun _ => .withBody fun _ => .apply fun _ => .same rfl
  | getClass => exact .runRequest _ _ fun _ => .withBody fun _ => .returns _
  | setJudge => exact .runRequest _ _ (answerKeepsStore_setJudge s)
  | getJudge => exact .runRequest _ _ fun _ => .withBody fun _ => .returns _
  | setDamping => exact .runActing _ _ _ (answerKeepsStore_setDamping s)
  | setCarry => exact .runRequest _ _ (answerKeepsStore_setCarry s)
  | setModule => exact .runRequest _ _ (answerKeepsStore_setModule s)
  | setSupply => exact .runActing _ _ _ fun _ => .withBody fun _ => .apply fun _ => .same (by simp [storeView])
  | start => exact .runActing _ _ _ (answerKeepsStore_start s)
  | haltImmediate => exact .runActing _ _ _ fun body => answerKeepsStore_halt s body
  | haltAtBoundary => exact .runActing _ _ _ fun body => answerKeepsStore_halt s body
  | pin => exact .runActing _ _ _ (answerKeepsStore_pin s)
  | handoverNow => exact .runActing _ _ _ (answerKeepsStore_handoverNow s)
  | readEvents => exact .runRequest _ _ fun _ => .returns _
  | clearEvents => exact .runRequest _ _ fun _ => .apply fun _ => .same rfl
  | setAlert => exact .runRequest _ _ fun _ => .withBody fun _ => .apply fun _ => .same rfl
  | readCounts => exact .runRequest _ _ (answerKeepsStore_readCounts s)
  | reset => exact .runRequest _ _ fun _ => .apply fun _ => .same rfl
  | homeFrameArrival bytes => exact .runWith (.same (by simp [storeView]))
  | homeLinkChange up => exact outcomeKeepsStore_next (.same rfl)
  | deliveryComplete => exact .runQuiet (.same (by simp [storeView]))
  | frameDepartureComplete bearer => exact .run (.completeDeparture bearer s)
  | fibreFrameArrival bytes => exact .run (.fibreArrival bytes s)
  | moduleUnitArrival bytes => exact .run (.unitArrival bytes s)
  | fibreLinkDown => exact .fibreLink (.same rfl) (.fibreLinkLost s)
  | fibreLinkUp => exact .fibreLink (.same rfl) (.same rfl)
  | rewindTimerExpiry => exact .run (.rewindExpires s)
  | intervalEnd bearer => exact .run (.endInterval bearer s)
  | probeEntryExpiry bearer tag => exact .runQuiet (.same (by simp [storeView]))
  | decayTick bearer => exact .run (.tick bearer s)
  | returnHoldExpiry => exact .run (.holdExpires s)
  | drainTimerExpiry => exact .run (.drainExpires s)
  | signalAnswer level => exact .run (.signalTaken level s)
  | detached => exact .run (.detachedTaken s)
  | responseTimeout => exact .run (.responseLate s)
  | lingerExpiry => exact .run (.lingerExpires s)
  | readyLimitPasses => exact .run (.readyLate s)
  | resetNAsserted => exact outcomeKeepsStore_next (.same rfl)
  | _ => exact .run (.same (by simp [storeView]))

end Sys2Proof.Machine

open Sys2Proof.Machine in
/-- Settles O57. Every effect is followed in the relation `StoreKept`; the store's own operations keep the law by the lemmas of
`StoreLaw`, and every other effect leaves N and the store, and takes the cursor away or leaves it. -/
theorem everyStepKeepsTheStoreInOrder : Obligations.EveryStepKeepsTheStoreInOrder := by
  intro s t hlaw h
  unfold step at h
  split at h
  · cases h
    unfold idle
    split <;> exact hlaw
  · next c rest _ => exact outcomeKeepsStore_exec { s with pending := rest } c t h hlaw
end

section
/-! PROOFS. What starts at a free port, in the order of R55. -/

namespace Sys2Proof.Machine

section
variable {s t : State} {b : Bearer}

/-! ## The order at a free port (R55) -/

/-- A pass that is not past its end goes on, and a free port starts the next frame. -/
theorem serve_of_free {o : Bool} (hfree : s.portFree b = true) (hpass : ¬(s.sender.pass = .resending ∧ s.sender.cursor = none)) :
    serve o b s = nextFrame o b s := by
  have hended : endPassAt b s = s := if_neg fun h => hpass (by
    simp only [Bool.and_eq_true, beq_iff_eq, Option.isNone_iff_eq_none] at h
    exact ⟨h.1.2, h.2⟩)
  rw [serve, if_pos hfree]
  simp [hended]

theorem streamOn_eq_none_iff : streamOn s b = none ↔ ¬∃ n ∈ s.sender.stream, n.bearer = b ∧ n.stopping = false := by
  unfold streamOn
  split
  · next m hm => simp [hm]
  · next hm => simp [hm]

theorem streamOn_of_running {m : MarkStream} (hm : s.sender.stream = some m) (hb : m.bearer = b) (hr : m.stopping = false) :
    streamOn s b = some m.kind := by simp [streamOn, hm, hb, hr]

section
variable (o : Bool)

theorem nextFrame_of_stream {k : MarkKind} (h : streamOn s b = some k) : nextFrame o b s = startMark b k s := by
  simp only [nextFrame, h]

theorem nextFrame_of_rewind (h : streamOn s b = none) (ha : s.active = some b) (hr : s.sender.rewindPending = true) :
    nextFrame o b s = startStream b .rewind s := by
  simp [nextFrame, h, ha, hr]

theorem nextFrame_of_announce (h : streamOn s b = none) (ha : s.active = some b) (hr : s.sender.rewindPending = false)
    (hp : s.sender.announcePending = true) : nextFrame o b s = startStream b .replay s := by
  simp [nextFrame, h, ha, hr, hp]

/-- A stream that is not asked for does not hold back what waits behind it. -/
theorem pending_of_unasked
    (hasks : ¬(s.active = some b ∧ (s.sender.rewindPending = true ∨ s.sender.announcePending = true))) :
    (s.active == some b && s.sender.rewindPending) = false ∧ (s.active == some b && s.sender.announcePending) = false := by
  by_cases ha : s.active = some b
  · simpa [ha] using hasks
  · simp [ha]

theorem nextFrame_of_waiting {w : WaitingFrame} {rest : List WaitingFrame} (h : streamOn s b = none)
    (hasks : ¬(s.active = some b ∧ (s.sender.rewindPending = true ∨ s.sender.announcePending = true)))
    (hw : s.waiting b = w :: rest) : nextFrame o b s = startWaiting b w rest s := by
  obtain ⟨hrewind, hannounce⟩ := pending_of_unasked hasks
  simp only [nextFrame, h, hrewind, hannounce, Bool.false_eq_true, if_false, hw]

theorem nextFrame_of_pass {c : Seq} (h : streamOn s b = none)
    (hasks : ¬(s.active = some b ∧ (s.sender.rewindPending = true ∨ s.sender.announcePending = true)))
    (hw : s.waiting b = []) (ha : s.active = some b) (hp : s.sender.pass = .resending) (hc : s.sender.cursor = some c) :
    nextFrame o b s = passCopy b c s := by
  obtain ⟨hrewind, hannounce⟩ : s.sender.rewindPending = false ∧ s.sender.announcePending = false := by simpa [ha] using hasks
  simp [nextFrame, h, hw, ha, hrewind, hannounce, hp, hc]

theorem nextFrame_of_other_bearer (h : streamOn s b = none) (hw : s.waiting b = []) (ha : s.active ≠ some b) :
    nextFrame o b s = s := by
  simp [nextFrame, h, hw, ha]

end

/-! ## What a frame that starts leaves (R54, R59, R110) -/

/-- A frame that has started is on its way while its probe table entry is made. -/
theorem FrameStarts.createEntry {f : CarryFrame} (h : FrameStarts b f s t) (tag : Byte) (interval : Nat) :
    FrameStarts b f s (createEntry b tag interval t) := by
  obtain ⟨hleaving, hport, htally⟩ := h
  rw [FrameStarts, leaving_of_ports (s := t) (by simp) (by simp)]
  exact ⟨hleaving, by simpa using hport, by simpa using htally⟩

/-- A frame that carries E and starts on the active bearer withdraws a waiting TALLY (R59, R60). -/
theorem waiting_startFrame (f : CarryFrame) (h : f.ackno = s.receiver.e) :
    (startFrame b f s).waiting b = if s.active = some b then (s.waiting b).filter (fun w => !w.isTally) else s.waiting b := by
  have hport : ∀ l, (putOnPort b l s).active = s.active ∧ (putOnPort b l s).waiting b = s.waiting b := fun l => by
    cases b <;> exact ⟨rfl, rfl⟩
  obtain ⟨hactive, hwaiting⟩ := hport ⟨f, wireOf b f s, false⟩
  unfold startFrame settleTally
  simp only [hactive, putOnPort_frame, h, beq_self_eq_true, Bool.and_true, beq_iff_eq]
  split
  · rw [← hwaiting]
    cases b <;> rfl
  · exact hwaiting

@[simp] theorem judge_startFrame (c : Bearer) (f : CarryFrame) : (startFrame b f s).judge c = s.judge c := by
  cases c <;> simp [State.judge]

/-- The entry of a PROBE joins the table, where a full table gives up its oldest entry, counted PROBE lost (R110). -/
theorem createEntry_writes (tag : Byte) (interval : Nat) :
    let old := (s.judge b).table
    let entry : ProbeEntry := ⟨tag, s.units, interval, s.clock / 100 + 4 * ((s.judge b).settings.interval * 10)⟩
    ((createEntry b tag interval s).judge b).table = (if old.length < 4 then old else old.drop 1) ++ [entry]
      ∧ (createEntry b tag interval s).counts = if old.length < 4 then s.counts else (s.countProbe b .upLost).counts := by
  intro old entry
  by_cases hplace : old.length < 4
  · have hentry : createEntry b tag interval s = s.mapJudge b (fun j => { j with table := j.table ++ [entry] }) := if_pos hplace
    rw [hentry, if_pos hplace, if_pos hplace]
    cases b <;> exact ⟨rfl, rfl⟩
  · have hentry : createEntry b tag interval s
        = (s.mapJudge b (fun j => { j with table := j.table.drop 1 ++ [entry] })).countProbe b .upLost := if_neg hplace
    rw [hentry, if_neg hplace, if_neg hplace]
    cases b <;> exact ⟨rfl, rfl⟩

/-- Every waiting frame leaves with E as its ackno (R58). -/
@[simp] theorem ackno_frame (w : WaitingFrame) : (w.frame b s).ackno = s.receiver.e := by cases w <;> rfl

theorem waiting_setWaiting (b : Bearer) (q : List WaitingFrame) (s : State) : (s.setWaiting b q).waiting b = q := by
  cases b <;> rfl

@[simp] theorem judge_setWaiting (b c : Bearer) (q : List WaitingFrame) (s : State) : (s.setWaiting b q).judge c = s.judge c := by
  cases b <;> cases c <;> rfl

/-- The waiting frame of a bearer has left the list and is on the port; a PROBE's entry is not made yet. -/
def waitingStarted (b : Bearer) (w : WaitingFrame) (rest : List WaitingFrame) (s : State) : State :=
  startFrame b (w.frame b s) (s.setWaiting b rest)

theorem waitingStarted_writes (w : WaitingFrame) (rest : List WaitingFrame) :
    FrameStarts b (w.frame b s) s (waitingStarted b w rest s)
      ∧ (waitingStarted b w rest s).waiting b = (if s.active = some b then rest.filter (fun v => !v.isTally) else rest)
      ∧ (waitingStarted b w rest s).judge b = s.judge b ∧ (waitingStarted b w rest s).counts = s.counts
      ∧ (waitingStarted b w rest s).clock = s.clock := by
  have hackno : (w.frame b s).ackno = (s.setWaiting b rest).receiver.e := by simp
  have hactive : (s.setWaiting b rest).active = s.active := by simp [State.active]
  have hwaiting := waiting_startFrame (b := b) _ hackno
  rw [hactive, waiting_setWaiting] at hwaiting
  exact ⟨(frameStarts_startFrame _ _ hackno).congr (by simp) (by simp) hactive, hwaiting, by simp [waitingStarted],
    by simp [waitingStarted], by simp [waitingStarted]⟩

/-- A waiting frame starts; the probe table entry of a PROBE does not touch its frame (R55, R110). -/
theorem frameStarts_startWaiting (w : WaitingFrame) (rest : List WaitingFrame) :
    FrameStarts b (w.frame b s) s (startWaiting b w rest s)
      ∧ (startWaiting b w rest s).waiting b = (if s.active = some b then rest.filter (fun v => !v.isTally) else rest) := by
  obtain ⟨hstarts, hwaiting, -⟩ := waitingStarted_writes (s := s) (b := b) w rest
  cases w with
  | probe tag epoch interval =>
    have hsame : (createEntry b tag interval (waitingStarted b (.probe tag epoch interval) rest s)).waiting b
        = (waitingStarted b (.probe tag epoch interval) rest s).waiting b := by cases b <;> simp [State.waiting]
    exact ⟨hstarts.createEntry tag interval, hsame.trans hwaiting⟩
  | _ => exact ⟨hstarts, hwaiting⟩

/-- The first mark of a stream that was asked for starts (R82, R83, R96). -/
theorem startStream_writes (k : MarkKind) :
    FrameStarts b (plainFrame k.frameKind b s) s (startStream b k s)
      ∧ (startStream b k s).sender.stream = some ⟨k, b, s.carry.nTx, false⟩ ∧ (startStream b k s).pause.stream = true
      ∧ (k = .rewind → (startStream b k s).sender.rewindPending = false)
      ∧ (k = .replay →
        (startStream b k s).sender.announcePending = false ∧ (startStream b k s).sender.pass = .announcing) := by
  refine ⟨(frameStarts_startFrame _ _ rfl).congr rfl rfl rfl, ?_, ?_, ?_, ?_⟩
  · simp [startStream, startMark]
  · simp [startStream, startMark]
  · rintro rfl
    simp [startStream, startMark]
  · rintro rfl
    simp [startStream, startMark]

/-- The pass's copy starts as the record is then (R49, R53, R98). -/
theorem frameStarts_passCopy {r : StoreRecord} (h : s.sender.store.find? (fun x => x.seq == r.seq) = some r) :
    FrameStarts b (copyFrame (r.reached (voidingTest s r)) b s) s (passCopy b r.seq s) := by
  have hkeeps : (recordReached r.seq r s).carry = s.carry ∧ (recordReached r.seq r s).radio = s.radio
      ∧ (recordReached r.seq r s).selector = s.selector ∧ (recordReached r.seq r s).session = s.session
      ∧ (recordReached r.seq r s).receiver = s.receiver := by
    unfold recordReached
    split <;> simp
  obtain ⟨hcarry, hradio, hselector, hsession, hreceiver⟩ := hkeeps
  have hcopy : copyFrame (r.reached (voidingTest s r)) b (recordReached r.seq r s)
      = copyFrame (r.reached (voidingTest s r)) b s := by simp only [copyFrame, plainFrame, hsession, hreceiver]
  rw [passCopy_of_found h, hcopy]
  exact (frameStarts_startFrame _ _ (by rw [hreceiver]; rfl)).congr hcarry (by rw [hradio]) (by rw [State.active, hselector]; rfl)

end

end Sys2Proof.Machine

open Sys2Proof.Machine in
/-- Settles O29: at a free port the next frame is the first of the order of R55 that is due. -/
theorem portOrderIsKept : Obligations.PortOrderIsKept := by
  intro s b opportunity w rest m r sent t plain starts streaming asks ethernet check
  have hwire : wireOf .fibre sent s = ethernet ++ bytesOfCheck check := by
    simp [wireOf, ethernetOf, withFrameCheck, bytesOf16, padTo46, ethernet, check]
  refine ⟨hwire, rfl, serve_of_busy, ?_⟩
  intro hfree hpass
  have ht : t = nextFrame opportunity b s := serve_of_free hfree hpass
  have hnone : ¬streaming → streamOn s b = none := streamOn_eq_none_iff.2
  have hstarted : ∀ {f : CarryFrame} {u : State}, t = u → FrameStarts b f s u → starts f := by
    rintro f _ rfl h
    exact h
  refine ⟨fun hm hb hr => ?_, fun hs ha hrewind => ?_, fun hs ha hrewind hannounce => ?_, fun hs hasks hw => ?_,
    fun hs hasks hw ha hp hc hr => ?_, fun hs hw ha => ?_⟩
  · have hmark : plain (if m.kind = .rewind then 5 else 6) = plainFrame m.kind.frameKind b s := by cases m.kind <;> rfl
    have ht := ht.trans (nextFrame_of_stream _ (streamOn_of_running hm hb hr))
    exact ⟨hstarted ht (hmark ▸ frameStarts_startFrame _ s rfl), by rw [ht]; simpa using hm⟩
  · obtain ⟨hstarts, hstream, hpause, hcleared, -⟩ := startStream_writes (s := s) (b := b) .rewind
    have ht := ht.trans (nextFrame_of_rewind _ (hnone hs) ha hrewind)
    refine ⟨hstarted ht hstarts, ?_⟩
    rw [ht]
    exact ⟨hstream, hcleared rfl, hpause⟩
  · obtain ⟨hstarts, hstream, hpause, -, hcleared⟩ := startStream_writes (s := s) (b := b) .replay
    obtain ⟨hannounced, hpass⟩ := hcleared rfl
    have ht := ht.trans (nextFrame_of_announce _ (hnone hs) ha hrewind hannounce)
    refine ⟨hstarted ht hstarts, ?_⟩
    rw [ht]
    exact ⟨hstream, hannounced, hpass, hpause⟩
  · obtain ⟨-, -, hjudge, hcounts, hclock⟩ := waitingStarted_writes (s := s) (b := b) w rest
    obtain ⟨hstarts, hwaiting⟩ := frameStarts_startWaiting (s := s) (b := b) w rest
    have ht := ht.trans (nextFrame_of_waiting _ (hnone hs) hasks hw)
    refine ⟨hstarted ht ?_, ?_⟩
    · cases w <;> exact hstarts
    rw [ht]
    refine ⟨hwaiting, ?_⟩
    cases w with
    | probe tag epoch interval =>
      obtain ⟨htable, hlost⟩ :=
        createEntry_writes (b := b) (s := waitingStarted b (.probe tag epoch interval) rest s) tag interval
      rw [hjudge, State.units, hclock] at htable
      rw [hjudge] at hlost
      refine ⟨htable, hlost.trans ?_⟩
      cases b <;> simp only [State.countProbe, hcounts] <;> rfl
    | _ => exact ⟨congrArg Judge.table hjudge, hcounts⟩
  · exact hstarted (ht.trans (nextFrame_of_pass _ (hnone hs) hasks hw ha hp hc)) (frameStarts_passCopy hr)
  · rw [ht, nextFrame_of_other_bearer _ (hnone hs) hw ha]
end

section
/-! PROOFS. RESET_N held active, and the state after reset (R62, R181, R184). -/

namespace Sys2Proof.Machine

section
variable {s : State}

/-- The commands that act while RESET_N is held: its release, its assertion, and the lines of the two Ethernet links (log entry
7). -/
def actsWhileHeld : Instr → Bool
  | .powerOn | .resetNAsserted | .homeLinkChange _ | .fibreLinkDown | .fibreLinkUp => true
  | _ => false

/-- No other command changes anything while RESET_N is held (log entry 7). -/
theorem exec_held (h : s.resetHeld = true) {c : Instr} (hc : actsWhileHeld c = false) : exec c s = .next s := by
  cases c with
  | powerOn => cases hc
  | resetNAsserted => cases hc
  | homeLinkChange up => cases hc
  | fibreLinkDown => cases hc
  | fibreLinkUp => cases hc
  | _ => exact if_pos h

end

/-! ## The state after reset -/

/-- The state after reset is the one that a start leaves (R184). -/
theorem reset_eq_started : State.reset = closeEvent (startUp 0 .zero State.reset) := by
  rw [closeEvent_startUp]
  rfl

theorem lawful_reset : Lawful State.reset := by
  rw [reset_eq_started]
  exact lawful_iff_lawfulWith.2 (lawfulWith_startUp 0 .zero State.reset).closeEvent

theorem noticesRead_reset : NoticesRead State.reset := by
  rw [reset_eq_started]
  exact noticesRead_closeEvent _

/-- STARTED is set and unmasked, in LATCH mode (R181, R184). -/
theorem attnLaw_reset : AttnLaw State.reset :=
  ⟨fun _ => ⟨rfl, .inl ⟨rfl, 0, rfl, rfl⟩⟩, fun _ => rfl⟩

theorem countsBounded_zero : CountsBounded Counts.zero :=
  ⟨groupBounded_zero .lane, groupBounded_zero .carry, groupBounded_zero .probe, groupBounded_zero .module,
    groupBounded_zero .link⟩

end Sys2Proof.Machine

open Sys2Proof.Machine in
/-- Settles O3: every command but the release and the lines asks for RESET_N before it acts. -/
theorem heldResetStopsThePart : Obligations.HeldResetStopsThePart := by
  intro c s up
  refine ⟨fun h hp ha hu hd hfd hfu => exec_held h ?_, fun h => ⟨rfl, if_pos h, if_pos h⟩, rfl, _, rfl, ?_⟩
  · unfold actsWhileHeld
    split
    · exact absurd rfl hp
    · exact absurd rfl ha
    · next up => cases up <;> contradiction
    · exact absurd rfl hfd
    · exact absurd rfl hfu
    · rfl
  · rw [closeEvent_startUp]
    exact ⟨rfl, rfl⟩

open Sys2Proof.Machine in
/-- Settles O60: the state after reset is the one that a start leaves. -/
theorem resetMeetsTheInvariants : Obligations.ResetMeetsTheInvariants := by
  have hqueues : QueuesBounded State.reset := by decide
  have hlanes : LanesBounded State.reset.lanes := by decide
  exact ⟨hqueues, hlanes, countsBounded_zero, noticesRead_reset, StoreLaw.of_empty rfl rfl, attnLaw_reset, lawful_reset⟩
end

section
/-! PROOFS. The timers of the tally and of the open retry, and the completion of a departure (R15, R56, R60, R61, R168, R169). -/

namespace Sys2Proof.Machine

section
variable {s t : State} {b : Bearer}

/-! ## Frames that fall due (R56) -/

theorem setWaiting_waiting (b : Bearer) (s : State) : s.setWaiting b (s.waiting b) = s := by cases b <;> rfl

/-- A TALLY falls due once: one that waits already stays (R56). -/
theorem fallDue_tally (e : BitVec 16) (waiting : List WaitingFrame) : fallDue (.tally e) waiting =
    if waiting.any WaitingFrame.isTally then waiting else waiting ++ [.tally e] := by
  have hkind : ∀ w : WaitingFrame, w.sameKind (.tally e) = w.isTally := fun w => by cases w <;> rfl
  have htally : (WaitingFrame.tally e).isTally = true := rfl
  unfold fallDue
  simp only [hkind, htally, Bool.true_and]
  split
  · rfl
  · next hnone =>
    rw [List.filter_eq_self.2]
    simpa using hnone

theorem fallDue_opening (e : BitVec 16) (waiting : List WaitingFrame) :
    fallDue (.opening e) waiting = waiting.filter (fun w => !w.isOpen) ++ [.opening e] := by
  have hkind : ∀ w : WaitingFrame, w.sameKind (.opening e) = w.isOpen := fun w => by cases w <;> rfl
  simp [fallDue, hkind, WaitingFrame.isTally]

/-- OPEN takes the place of every OPEN that waits, on either bearer, and the retry timer starts (R15; log entry 13). -/
theorem sendOpen_eq (b : Bearer) (s : State) : sendOpen b s =
    let kept : Bearer → List WaitingFrame := fun d => (s.waiting d).filter fun w => !w.isOpen
    let sent : Bearer → List WaitingFrame := fun d => if d = b then kept d ++ [.opening s.session.epoch] else kept d
    { s with
      session := { s.session with retry := some (s.clock + 1000000) }
      sender := { s.sender with waitingFibre := sent .fibre, waitingRadio := sent .radio } } := by
  have hkept : ∀ q : List WaitingFrame, (q.filter fun w => !w.isOpen).filter (fun w => !w.isOpen) = q.filter fun w => !w.isOpen :=
    fun q => by simp [List.filter_filter]
  unfold sendOpen State.addWaiting
  rw [fallDue_opening]
  cases b <;> simp [State.setWaiting, State.waiting, State.keepWaiting, hkept, Config.retryMicros]

/-! ## The frame boundary (R61, R83, R97) -/

/-- A departure that is no mark of a stream, with no pass being stopped, ends nothing. -/
theorem atBoundary_of_elsewhere (reoffer : Bool) (hpass : s.sender.passStopping = false)
    (hstream : ∀ m ∈ s.sender.stream, m.bearer ≠ b) : atBoundary b reoffer s = s := by
  have hrests : streamBoundary b s = s := by
    unfold streamBoundary
    split
    · rfl
    · next m hm => exact if_neg (hstream m hm)
  unfold atBoundary
  rw [hrests, ite_self, passBoundary, hpass]
  rfl

/-- The end of a hand-over: the unit is off the port, kept under READY_WAIT alone, and the handshake goes on while the module is
READY (R168, R169; log entry 32). -/
theorem endHandOver_eq (unit : Option Leaving) (s : State) : endHandOver unit s = { s with radio := { s.radio with
    leaving := none
    held := if s.radio.status = .ready ∧ (s.radio.handshake == .handing .readyWait) = true then unit else none
    handshake := if s.radio.status ≠ .ready then .free
      else s.radio.handshake.handedOver s.clock s.radio.settings.pollStart } } := by
  unfold endHandOver
  by_cases hready : s.radio.status = .ready <;> simp [hready]

/-! ## The count of a departure (R61) -/

section
variable {f : CarryFrame}

theorem countDeparture_of_data (h : f.kind = 3) :
    countDeparture b f s = if f.resent then s.countCarry .upResent else s.countCarry .upSent := by
  simp only [countDeparture, h, show kindOfCode 3 = some .data from rfl]

theorem countDeparture_of_tally (h : f.kind = 4) : countDeparture b f s = s.countCarry .upTally := by
  simp only [countDeparture, h, show kindOfCode 4 = some .tally from rfl]

theorem countDeparture_of_probe (h : f.kind = 7) : countDeparture b f s = s.countProbe b .upSent := by
  simp only [countDeparture, h, show kindOfCode 7 = some .probe from rfl]

theorem countDeparture_of_other (h3 : f.kind ≠ 3) (h4 : f.kind ≠ 4) (h7 : f.kind ≠ 7) : countDeparture b f s = s := by
  unfold countDeparture
  split
  · next hk => exact absurd (code_of_kindOfCode hk).symm h3
  · next hk => exact absurd (code_of_kindOfCode hk).symm h4
  · next hk => exact absurd (code_of_kindOfCode hk).symm h7
  · rfl

end

/-! ## The commands -/

theorem exec_frameDepartureComplete (hr : s.resetHeld = false) (b : Bearer) :
    exec (.frameDepartureComplete b) s = .next (finish false s (completeDeparture b s)) := by
  simp [exec, execFrameDepartureComplete, run, runWith, hr]

theorem exec_tallyTimerExpiry (hr : s.resetHeld = false) : exec .tallyTimerExpiry s = .next (finish false s (tallyExpires s)) := by
  simp [exec, execTallyTimerExpiry, run, runWith, hr]

theorem exec_openRetryTimerExpiry (hr : s.resetHeld = false) :
    exec .openRetryTimerExpiry s = .next (finish false s (retryExpires s)) := by
  simp [exec, execOpenRetryTimerExpiry, run, runWith, hr]

/-- The frame that has left is off the port, and is counted unless it was offered again (R61, R169). -/
theorem completeDeparture_of_leaving {l : Leaving} (hl : s.leaving b = some l) (hpass : s.sender.passStopping = false)
    (hstream : ∀ m ∈ s.sender.stream, m.bearer ≠ b) : completeDeparture b s =
      if l.reoffer then clearPort b l s else countDeparture b l.frame (clearPort b l s) := by
  have hsender : (if l.reoffer then clearPort b l s else countDeparture b l.frame (clearPort b l s)).sender = s.sender := by
    split <;> simp
  simp only [completeDeparture, hl]
  exact atBoundary_of_elsewhere _ (by rw [hsender]; exact hpass) (by rw [hsender]; exact hstream)

end

end Sys2Proof.Machine

open Sys2Proof.Machine in
/-- Settles O32: what falls due joins the waiting frames by the rules of R56. -/
theorem tallyAndRetryTimersExpire : Obligations.TallyAndRetryTimersExpire := by
  intro s b due hr
  refine ⟨fun h => ?_, fun h => ?_, fun h ha ho => ?_, fun h hs ha => ?_⟩
  · simp only [exec_tallyTimerExpiry hr, tallyExpires, h]
  · simp only [exec_openRetryTimerExpiry hr, retryExpires, h]
  · intro here
    have hexpired : tallyExpires s = here.addWaiting b (.tally s.session.epoch) := by
      simp only [tallyExpires, h, ha, ho, if_true]
      rfl
    have hsame : here.waiting b = s.waiting b := by cases b <;> rfl
    rw [exec_tallyTimerExpiry hr, hexpired, State.addWaiting, fallDue_tally, hsame]
    split
    · rw [← hsame, setWaiting_waiting]
    · rfl
  · intro kept sent
    have hexpired : retryExpires s
        = sendOpen b { s with clock := max s.clock due, session := { s.session with retry := none } } := by
      simp only [retryExpires, h, ha]
      exact if_pos hs
    have hwaiting : ∀ d, State.waiting { s with clock := max s.clock due, session := { s.session with retry := none } } d
        = s.waiting d := fun d => by cases d <;> rfl
    rw [exec_openRetryTimerExpiry hr, hexpired, sendOpen_eq]
    simp only [hwaiting]
    rfl

open Sys2Proof.Machine in
/-- Settles O26: outside a stream and a pass that is stopping, a completion clears the port and counts the frame by its kind. -/
theorem departuresAreCounted : Obligations.DeparturesAreCounted := by
  intro s b l mode hr hpass hstream readyWait handedOver off up
  have hended : ∀ unit, endHandOver unit s = handedOver unit := fun unit => endHandOver_eq unit s
  have hoff : clearPort b l s = off := by
    cases b
    · rfl
    · exact hended _
  have hdeparted : s.leaving b = some l → exec (.frameDepartureComplete b) s
      = .next (finish false s (if l.reoffer then off else countDeparture b l.frame off)) := fun hl => by
    rw [exec_frameDepartureComplete hr, completeDeparture_of_leaving hl hpass hstream, hoff]
  refine ⟨fun hl hidle => ?_, fun hl hh => ?_, fun hl hk => ?_, fun hl ho hk hsent => ?_, fun hl ho hk hsent => ?_,
    fun hl ho hk => ?_, fun hl ho hk => ?_⟩
  · have hcut : completeDeparture b s = s := by
      simp only [completeDeparture, hl]
      obtain rfl | hfree := hidle
      · rfl
      · unfold completeCut
        split
        · next m hm => exact absurd hm (hfree m)
        · rfl
    rw [exec_frameDepartureComplete hr, hcut]
  · have hleaving : s.leaving .radio = none := hl
    have hcut : completeDeparture .radio s = handedOver none := by
      simp only [completeDeparture, hleaving, completeCut, hh, hended]
    rw [exec_frameDepartureComplete hr, hcut]
  · rw [hdeparted hl]
    split
    · rfl
    · next ho =>
      obtain hre | ⟨h3, h4, h7⟩ := hk
      · exact absurd hre ho
      · rw [countDeparture_of_other h3 h4 h7]
  · rw [hdeparted hl, ho, countDeparture_of_data hk, hsent]
    cases b <;> rfl
  · rw [hdeparted hl, ho, countDeparture_of_data hk, hsent]
    cases b <;> rfl
  · rw [hdeparted hl, ho, countDeparture_of_tally hk]
    cases b <;> rfl
  · rw [hdeparted hl, ho, countDeparture_of_probe hk]
    cases b <;> rfl
end

section
/-! PROOFS. Receive errors (R66, R76, R77, R91). -/

namespace Sys2Proof.Machine

/-! ## A report beside the changes of a receive error (R177) -/

section
variable (g : EventFlag) (s : State)

/-- A report neither reads nor writes the receiver and the sender. -/
theorem report_with_receiver_sender (r : Receiver) (n : Sender) :
    report g { s with receiver := r, sender := n } = { report g s with receiver := r, sender := n } := by
  unfold report offerNotice
  dsimp only
  repeat' split
  all_goals rfl

/-- The request on the active bearer is pending, unless it merges with a stream in progress there (R82, R84). -/
theorem requestRewind_eq : requestRewind s = { s with sender := { s.sender with
    rewindPending := match s.active with
      | none => s.sender.rewindPending
      | some a => s.sender.rewindPending || !s.sender.stream.any (fun m =>
          m.kind == .rewind && m.bearer == a && !m.stopping) } } := by
  unfold requestRewind
  cases s.active with
  | none => rfl
  | some a =>
    have hruns : s.sender.stream.any (fun m => m.kind == .rewind && m.bearer == a && !m.stopping) = rewindRuns s a := by
      unfold rewindRuns
      cases s.sender.stream <;> rfl
    dsimp only
    rw [hruns]
    split
    · next h => rw [h, Bool.not_true, Bool.or_false]
    · next h => rw [Bool.eq_false_iff.2 h, Bool.not_false, Bool.or_true]

theorem requestRewind_report : requestRewind (report g s) = report g (requestRewind s) := by
  rw [requestRewind_eq s]
  refine Eq.trans ?_ (report_with_receiver_sender g s s.receiver _).symm
  simp [requestRewind_eq, State.active]

theorem startRewindTimer_report (a : Bearer) (n : Nat) :
    startRewindTimer a n (report g s) = report g (startRewindTimer a n s) := by
  refine Eq.trans ?_ (report_with_receiver_sender g s _ s.sender).symm
  cases a <;> simp [startRewindTimer, State.judge, State.inMs]

end

/-! ## Receive errors (R76, R77, R91) -/

/-- The state with the discard state SET and a bearer's run of marks broken (R76, R86). -/
def discardSet (b : Bearer) (s : State) : State :=
  { s with receiver := { (s.setMarks b ⟨0, 0⟩).receiver with discard := true } }

/-- A receive error may be reported last: its report reads and writes nothing of the rest (R76, R91, R177). -/
theorem receiveError_eq (b : Bearer) (s : State) : receiveError b s = report .receiveError (match s.active with
    | some a => startRewindTimer a 1 (requestRewind (discardSet b s))
    | none => { discardSet b s with receiver := { (discardSet b s).receiver with attempts := 0, rewindTimer := none } }) := by
  have hcleared : (report .receiveError { s with receiver := { s.receiver with discard := true } }).setMarks b ⟨0, 0⟩
      = report .receiveError (discardSet b s) := by
    refine Eq.trans ?_ (report_with_receiver_sender .receiveError s _ s.sender).symm
    rw [report_with_receiver_sender .receiveError s { s.receiver with discard := true } s.sender]
    cases b <;> simp [State.setMarks]
  have hactive : (report .receiveError (discardSet b s)).active = s.active := by simp [State.active, discardSet]
  unfold receiveError
  dsimp only
  rw [hcleared, hactive]
  cases s.active with
  | none =>
    refine Eq.trans ?_ (report_with_receiver_sender .receiveError (discardSet b s) _ (discardSet b s).sender).symm
    simp
  | some a =>
    dsimp only
    rw [requestRewind_report, startRewindTimer_report]

theorem classOf_of_ahead {q e : Seq} (h1 : 1 ≤ (q - e).toNat) (h : (q - e).toNat ≤ 32767) : classOf q e = .gap := by
  have hne : q ≠ e := by
    rintro rfl
    simp at h1
  unfold classOf
  rw [if_neg hne, if_pos h]

end Sys2Proof.Machine

open Sys2Proof.Machine in
/-- Settles O41: each receive error acts as `receiveError_eq` says, on the state that has counted the frame. -/
theorem receiveErrorsSetTheDiscardState : Obligations.ReceiveErrorsSetTheDiscardState := by
  intro s i b f hr marks carry up error
  have herror : ∀ g : CarryCounts → CarryCounts,
      receiveError b ((s.setMarks b ⟨0, 0⟩).countCarry g) = error (g carry) := by
    intro g
    have hactive : ((s.setMarks b ⟨0, 0⟩).countCarry g).active = s.active := by simp [State.active]
    rw [receiveError_eq, hactive]
    cases ha : s.active with
    | none =>
      simp only [error, ha]
      cases b <;> rfl
    | some a =>
      simp only [error, ha]
      have hasked : (discardSet b ((s.setMarks b ⟨0, 0⟩).countCarry g)).active = some a := hactive.trans ha
      rw [requestRewind_eq, hasked]
      cases b <;> cases a <;> rfl
  have hbroken : ∀ g : CarryCounts → CarryCounts, (s.setMarks b ⟨0, 0⟩).countCarry g
      = { s with receiver := marks, counts := { s.counts with carry := g carry } } := by
    intro g
    cases b <;> rfl
  refine ⟨fun hh => ?_, fun h hseq hclear hlow hhigh => ?_⟩
  · rw [exec_of_handsOver hr hh, receive, checkFailure]
    refine ⟨fun ha ho hclear => ?_, fun ha hno => ?_, fun ha => ?_⟩
    · simp only [if_pos ha, if_pos (And.intro ho hclear), herror]
      rfl
    · have hstays : ¬(s.session.status = .opened ∧ s.receiver.discard = false) := by
        rintro ⟨ho, hclear⟩
        obtain hno | hset := hno
        · exact hno ho
        · simp [hset] at hclear
      simp only [if_pos ha, if_neg hstays, hbroken]
      rfl
    · simp only [if_neg ha, hbroken]
      rfl
  · set x := (s.countCarry .upReceived).setMarks b ⟨0, 0⟩
    have hkept : x.receiver.discard = s.receiver.discard ∧ x.receiver.e = s.receiver.e := by simp [x]
    obtain ⟨hdiscard, he⟩ := hkept
    have hgap : x.countCarry .upGap = (s.setMarks b ⟨0, 0⟩).countCarry fun c => c.upReceived.upGap := by cases b <;> rfl
    have htaken : takeData b f x = receiveError b (x.countCarry .upGap) := by
      simp [takeData, hseq, hdiscard, hclear, he, classOf_of_ahead hlow hhigh]
    rw [exec_of_receives h, takeFrame_data, htaken, hgap, herror]
    rfl
end

section
/-! PROOFS. Marks and their thresholds (R73, R86 to R88, R96, R99). -/

namespace Sys2Proof.Machine

/-! ## A mark's counters (R86) -/

/-- A mark raises its own counter up to the threshold and clears the other; the threshold is reached from one below it (R86). -/
theorem mark_rewind (m : MarkCounters) (top : Nat) : m.mark .rewind top =
    (⟨if top ≤ m.rewind then m.rewind else m.rewind + 1, 0⟩, decide (m.rewind + 1 = top)) := by
  simp only [MarkCounters.mark]
  split
  · next hfull =>
    have hpast : m.rewind + 1 ≠ top := by omega
    simp [hpast]
  · rfl

/-- The same of a REPLAY mark (R86). -/
theorem mark_replay (m : MarkCounters) (top : Nat) : m.mark .replay top =
    (⟨0, if top ≤ m.replay then m.replay else m.replay + 1⟩, decide (m.replay + 1 = top)) := by
  simp only [MarkCounters.mark]
  split
  · next hfull =>
    have hpast : m.replay + 1 ≠ top := by omega
    simp [hpast]
  · rfl

/-! ## A mark that is taken (R73, R86 to R88) -/

section
variable {b : Bearer} {s : State} (f : CarryFrame)

theorem takeFrame_rewind (b : Bearer) (s : State) : takeFrame b .rewind f s = takeRewind b f (s.countCarry .upReceived) := by
  simp [takeFrame, FrameKind.countsReceived]

theorem takeFrame_replay (b : Bearer) (s : State) : takeFrame b .replay f s = takeReplay b f (s.countCarry .upReceived) := by
  simp [takeFrame, FrameKind.countsReceived]

/-- Away from its threshold a mark of REWIND has its ackno read with the discard state CLEAR alone (R73). -/
theorem takeRewind_of_not_reached (h : (s.marks b).rewind + 1 ≠ s.carry.mRx) : takeRewind b f s =
    readAckIfClear f.ackno (s.setMarks b
      ⟨if s.carry.mRx ≤ (s.marks b).rewind then (s.marks b).rewind else (s.marks b).rewind + 1, 0⟩) := by
  simp only [takeRewind, mark_rewind, decide_eq_false h, readAckIfClear]
  cases hd : s.receiver.discard <;> simp [hd]

/-- At its threshold a mark of REWIND has its ackno read in either discard state, and then asks for a pass (R73, R87). -/
theorem takeRewind_of_reached (h : (s.marks b).rewind + 1 = s.carry.mRx) : takeRewind b f s =
    rewindThreshold (readAck f.ackno (s.setMarks b ⟨s.carry.mRx, 0⟩)) := by
  have hbelow : ¬s.carry.mRx ≤ (s.marks b).rewind := by omega
  simp [takeRewind, mark_rewind, h, hbelow]

/-- Away from its threshold a mark of REPLAY has its ackno read with the discard state CLEAR alone (R73). -/
theorem takeReplay_of_not_reached (h : (s.marks b).replay + 1 ≠ s.carry.mRx) : takeReplay b f s =
    readAckIfClear f.ackno (s.setMarks b
      ⟨0, if s.carry.mRx ≤ (s.marks b).replay then (s.marks b).replay else (s.marks b).replay + 1⟩) := by
  simp only [takeReplay, mark_replay, decide_eq_false h, readAckIfClear]
  cases hd : s.receiver.discard <;> simp [hd]

/-- At its threshold a mark of REPLAY clears a discard state that is SET, and has its ackno read in either (R73, R88). -/
theorem takeReplay_of_reached (h : (s.marks b).replay + 1 = s.carry.mRx) : takeReplay b f s =
    let marked := s.setMarks b ⟨0, s.carry.mRx⟩
    readAck f.ackno (if s.receiver.discard then clearDiscard marked else marked) := by
  have hbelow : ¬s.carry.mRx ≤ (s.marks b).replay := by omega
  cases hd : s.receiver.discard <;> simp [takeReplay, mark_replay, h, hbelow, hd]

end

/-! ## The pass that a REWIND threshold asks for (R87, R96, R99) -/

section
variable {s : State}

theorem rewindThreshold_of_inactive (h : s.active = none) :
    rewindThreshold s = { s with sender := { s.sender with passOwed := true } } := by
  simp [rewindThreshold, h]

theorem rewindThreshold_of_active (h : s.active.isSome = true) : rewindThreshold s = startPass s := by
  obtain ⟨a, ha⟩ := Option.isSome_iff_exists.1 h
  simp [rewindThreshold, ha]

/-- A pass starts where none runs or a session restart is stopping one, and starts again in RESENDING (R96, R99). -/
theorem startPass_starts (h : s.sender.passStopping = true ∨ s.sender.pass = .none ∨ s.sender.pass = .resending) :
    startPass s = { s with
      sender := { s.sender with pass := .waiting, cursor := none, announcePending := true, passStopping := false }
      pause := { s.pause with pass := true } } := by
  refine if_pos ?_
  simpa [or_assoc] using h

/-- A pass in WAITING or ANNOUNCING goes on (R99). -/
theorem startPass_goes_on (hs : s.sender.passStopping = false) (h : s.sender.pass = .waiting ∨ s.sender.pass = .announcing) :
    startPass s = s := by
  refine if_neg ?_
  obtain h | h := h <;> simp [hs, h]

end

end Sys2Proof.Machine

open Sys2Proof.Machine in
/-- Settles O44: a mark either reaches its threshold or does not, and a mark that does asks for its effect once. -/
theorem marksReachTheirThresholds : Obligations.MarksReachTheirThresholds := by
  intro s i b f m top taken acked
  have hmarks : (s.countCarry .upReceived).marks b = m := by cases b <;> rfl
  have hread : ∀ v, readAckIfClear f.ackno (taken v) = acked (!s.receiver.discard) (taken v) := by
    intro v
    have hdiscard : (taken v).receiver.discard = s.receiver.discard := by simp [taken]
    unfold readAckIfClear
    rw [hdiscard]
    cases s.receiver.discard <;> rfl
  refine ⟨fun h => ?_, fun h => ?_⟩
  · have hother : ∀ v, m.rewind + 1 ≠ top → (if top ≤ m.rewind then m.rewind else m.rewind + 1) = v →
        exec i s = .next (finish false s (acked (!s.receiver.discard) (taken ⟨v, 0⟩))) := by
      rintro v hne rfl
      rw [exec_of_receives h, takeFrame_rewind, takeRewind_of_not_reached f (by rwa [hmarks]), hmarks, ← hread]
      rfl
    refine ⟨fun hfull => hother _ (by omega) (if_pos hfull), fun hbelow => hother _ (by omega) (if_neg (by omega)),
      fun hat => ?_⟩
    intro t
    have hreached : exec i s = .next (finish false s (rewindThreshold t)) := by
      rw [exec_of_receives h, takeFrame_rewind, takeRewind_of_reached f (by rwa [hmarks])]
      rfl
    rw [hreached]
    refine ⟨fun ha => ?_, fun ha hstarts => ?_, fun ha hstop hruns => ?_⟩
    · rw [rewindThreshold_of_inactive ha]
    · rw [rewindThreshold_of_active ha, startPass_starts hstarts]
    · rw [rewindThreshold_of_active ha, startPass_goes_on hstop hruns]
  · have hother : ∀ v, m.replay + 1 ≠ top → (if top ≤ m.replay then m.replay else m.replay + 1) = v →
        exec i s = .next (finish false s (acked (!s.receiver.discard) (taken ⟨0, v⟩))) := by
      rintro v hne rfl
      rw [exec_of_receives h, takeFrame_replay, takeReplay_of_not_reached f (by rwa [hmarks]), hmarks, ← hread]
      rfl
    have hreached : m.replay + 1 = top → exec i s = .next (finish false s (readAck f.ackno
        (if s.receiver.discard then clearDiscard (taken ⟨0, top⟩) else taken ⟨0, top⟩))) := by
      intro hat
      rw [exec_of_receives h, takeFrame_replay, takeReplay_of_reached f (by rwa [hmarks])]
      rfl
    refine ⟨fun hfull => hother _ (by omega) (if_pos hfull), fun hbelow => hother _ (by omega) (if_neg (by omega)),
      fun hat hclear => ?_, fun hat hset => ?_⟩
    · rw [hreached hat, hclear]
      rfl
    · rw [hreached hat, hset]
      rfl
end

section
/-! PROOFS. The replay pass in RESENDING: the record it reaches, its copy, and its end (R49, R50, R53, R97, R98). -/

namespace Sys2Proof.Machine

section
variable {s : State} {b : Bearer} {r : StoreRecord} {older newer : List StoreRecord}

/-! ## The record at the cursor, whose number no other record bears (R45, R98) -/

theorem find?_seq_of_only (h : ∀ x ∈ older, x.seq ≠ r.seq) :
    (older ++ r :: newer).find? (fun x => x.seq == r.seq) = some r := by
  rw [List.find?_append, List.find?_eq_none.2 (by simpa using h)]
  simp

/-- The cursor moves to the next newer record, or past the end (R98). -/
theorem nextSeq_of_only (h : ∀ x ∈ older, x.seq ≠ r.seq) :
    nextSeq r.seq (older ++ r :: newer) = newer.head?.map StoreRecord.seq := by
  induction older with
  | nil => exact if_pos rfl
  | cons x rest ih =>
    obtain ⟨hx, hrest⟩ := List.forall_mem_cons.1 h
    exact (if_neg hx).trans (ih hrest)

/-- What the pass makes of its record leaves the others. -/
theorem map_seq_of_only (h : ∀ x ∈ older ++ newer, x.seq ≠ r.seq) (y : StoreRecord) :
    (older ++ r :: newer).map (fun x => if x.seq = r.seq then y else x) = older ++ y :: newer := by
  have hothers : ∀ q : List StoreRecord, (∀ x ∈ q, x.seq ≠ r.seq) → q.map (fun x => if x.seq = r.seq then y else x) = q :=
    fun q hq => (List.map_congr_left fun x hx => if_neg (hq x hx)).trans (List.map_id q)
  obtain ⟨holder, hnewer⟩ := List.forall_mem_append.1 h
  rw [List.map_append, List.map_cons, hothers older holder, hothers newer hnewer, if_pos rfl]

/-! ## The voiding test and the resend count (R49, R50) -/

theorem pastMaxAge_iff (maxAge age : Nat) : pastMaxAge maxAge age = true ↔ maxAge ≠ 0 ∧ maxAge < age := by simp [pastMaxAge]

theorem voidingTest_iff : voidingTest s r = true ↔ r.payload ≠ none
    ∧ (((s.lanes.get r.lane).profile.maxAge ≠ 0 ∧ (s.lanes.get r.lane).profile.maxAge < (s.ms - r.arrival).toNat)
      ∨ s.carry.resendLimit ≤ r.resends) := by
  have hheld : (!r.voided) = true ↔ r.payload ≠ none := by simp [StoreRecord.voided, Option.isSome_iff_ne_none]
  rw [voidingTest, Bool.and_eq_true, Bool.or_eq_true, hheld, pastMaxAge_iff, decide_eq_true_eq]
  rfl

/-- Voiding counts CARRY voided and reports STALE_VOIDED, which is flag 14 (R49). -/
theorem recordReached_of_voided (c : Seq) (h : voidingTest s r = true) :
    (recordReached c r s).counts.carry.voided = min (s.counts.carry.voided + 1) 4294967295
      ∧ (recordReached c r s).events.flags.getLsbD 14 = true := by
  have hevents : (recordReached c r s).events = (report .staleVoided (s.countCarry .upVoided)).events := by
    simp [recordReached, h]
  refine ⟨?_, ?_⟩
  · simp [recordReached, h, State.countCarry, CarryCounts.upVoided, countUp, Config.countMax]
  · rw [hevents]
    exact flag_report .staleVoided _

theorem recordReached_of_kept (c : Seq) (h : voidingTest s r = false) :
    (recordReached c r s).counts = s.counts ∧ (recordReached c r s).events = s.events := by
  simp [recordReached, h]

/-- The start of the copy leaves the store, the counts and the events as the pass has left them (R53). -/
theorem passCopy_writes (h : s.sender.store.find? (fun x => x.seq == r.seq) = some r) :
    (passCopy b r.seq s).sender.store
        = s.sender.store.map (fun x => if x.seq = r.seq then r.reached (voidingTest s r) else x)
      ∧ (passCopy b r.seq s).sender.cursor = nextSeq r.seq s.sender.store
      ∧ (passCopy b r.seq s).counts = (recordReached r.seq r s).counts
      ∧ (passCopy b r.seq s).events = (recordReached r.seq r s).events := by
  obtain ⟨-, hstore, hcursor⟩ := recordReached_sender r.seq r s
  rw [passCopy_of_found h]
  simp [hstore, hcursor]

/-! ## The end of the pass (R97, R98) -/

/-- A pass past its end ends at the active bearer's port before the next frame starts (log entry 15); where its reason was the
last one, that is a dispatch opportunity. -/
theorem serve_of_past_end (o : Bool) (hfree : s.portFree b = true) (ha : s.active = some b) (hp : s.sender.pass = .resending)
    (hc : s.sender.cursor = none) :
    serve o b s = nextFrame (o || (s.pause.any && !(abandonPass s).pause.any)) b (abandonPass s) := by
  have hended : endPassAt b s = abandonPass s := if_pos (by simp [ha, hp, hc])
  rw [serve, if_pos hfree, hended]

end

end Sys2Proof.Machine

open Sys2Proof.Machine in
/-- Settles O30: the pass reaches the record at its cursor as `passCopy_writes` says, and ends as `serve_of_past_end` says. -/
theorem passSendsCopiesAndEnds : Obligations.PassSendsCopiesAndEnds := by
  intro s b opportunity r older newer hfree hactive hpass
  refine ⟨fun hcursor hstore honly hrewind hannounce hwaiting hstream => ?_, fun hcursor hreason => ?_⟩
  · intro t maxAge voids after copy sent
    have holder : ∀ x ∈ older, x.seq ≠ r.seq := fun x hx => honly x (List.mem_append_left _ hx)
    have hfound : s.sender.store.find? (fun x => x.seq == r.seq) = some r := hstore ▸ find?_seq_of_only holder
    have hnone : streamOn s b = none := streamOn_eq_none_iff.2 fun ⟨n, hn, hb, hgoes⟩ =>
      (hstream n hn).elim (fun hother => hother hb) (fun hstops => by simp [hgoes] at hstops)
    have ht : t = passCopy b r.seq s := (serve_of_free hfree (by simp [hcursor])).trans
      (nextFrame_of_pass _ hnone (by simp [hrewind, hannounce]) hwaiting hactive hpass hcursor)
    obtain ⟨hreached, hmoved, hcounts, hevents⟩ := passCopy_writes (b := b) hfound
    rw [hstore, map_seq_of_only honly] at hreached
    rw [hstore, nextSeq_of_only holder] at hmoved
    have hsent : sent (r.reached (voidingTest s r)).payload := by
      simp only [sent, ht]
      exact ⟨hreached, hmoved, frameStarts_passCopy hfound⟩
    refine ⟨by simp [ht, hpass], by simp [ht], by simp [ht], by simp [ht], fun hv => ?_, fun hv => ?_⟩
    · have htest : voidingTest s r = true := voidingTest_iff.2 hv
      rw [htest] at hsent
      rw [ht, hcounts, hevents]
      exact ⟨hsent, recordReached_of_voided r.seq htest⟩
    · have htest : voidingTest s r = false := Bool.eq_false_iff.2 fun h => hv (voidingTest_iff.1 h)
      rw [htest] at hsent
      rw [ht, hcounts, hevents]
      exact ⟨hsent, recordReached_of_kept r.seq htest⟩
  · intro ended alone
    have hended : abandonPass s = ended := by simp only [abandonPass, ended, hcursor]
    have hagain : ∀ o, serve o b ended = nextFrame o b ended := fun o => serve_of_free hfree (by simp [ended])
    have hbefore : s.pause.any = true := by simp [Pause.any, hreason]
    have hafter : ended.pause.any = false ↔ alone := by simp [Pause.any, ended, alone, and_assoc]
    rw [serve_of_past_end opportunity hfree hactive hpass hcursor, hended, hbefore, hagain, hagain]
    refine ⟨fun h => ?_, fun h => ?_⟩
    · rw [hafter.2 h, Bool.not_false, Bool.and_true, Bool.or_true]
    · rw [Bool.eq_true_of_not_eq_false (mt hafter.1 h), Bool.not_true, Bool.and_false, Bool.or_false]
end

section
/-! PROOFS. The rewind timer, and the carry failure at its limit (R84, R91 to R93, R119). -/

namespace Sys2Proof.Machine

/-! ## Hard-fail evidence clears no flag (R119, R177) -/

namespace FlagsStand

variable {s : State}

theorem forceTo (source : Option Bearer) (b : Bearer) (s : State) : FlagsStand s (forceTo source b s) :=
  .after (.handWanted _) (.after (.updateHold _) (.after (.of_eq rfl) (.makeActive _ _ _)))

theorem enterOutage (s : State) : FlagsStand s (enterOutage s) := by
  rw [enterOutage_eq]
  exact .after (.handWanted _) (.after (.report _ _) (.of_eq (by simp [outageEntered])))

theorem loseActive (b : Bearer) (s : State) : FlagsStand s (loseActive b s) := by
  unfold Machine.loseActive
  dsimp only
  split
  · exact .after (.forceTo _ _ _) (.of_eq rfl)
  · exact .after (.enterOutage _) (.of_eq rfl)

theorem abandonDrain (source : Bearer) (o : HandoverOutcome) (s : State) : FlagsStand s (abandonDrain source o s) := by
  unfold Machine.abandonDrain
  dsimp only
  split
  · exact .after (.handWanted _) (.after (.updateHold _) (.of_eq rfl))
  · exact .after (.enterOutage _) (.of_eq rfl)

theorem onEligibility (b : Bearer) (s : State) : FlagsStand s (onEligibility b s) := by
  unfold Machine.onEligibility
  split
  · exact .refl s
  · split
    · exact .forceTo _ _ _
    · exact .refl s
  · split
    · split
      · exact .refl s
      · exact .loseActive _ _
    · split
      · exact .updateHold _
      · exact .refl s
  · split
    · exact .refl s
    · split
      · exact .switchDrain .updateHold _ _ _
      · exact .abandonDrain _ _ _

theorem rework (b : Bearer) (s : State) : FlagsStand s (rework b s) := by
  rw [rework_eq]
  split
  · exact .refl s
  · exact .after (.onEligibility _ _) (.of_eq (by simp [noted]))

theorem setSuppressed (b : Bearer) (v : Bool) (s : State) : FlagsStand s (setSuppressed b v s) := by
  cases b with
  | fibre => exact .after (.report _ _) (.of_eq rfl)
  | radio => exact .of_eq rfl

theorem flapStep (b : Bearer) (s : State) : FlagsStand s (flapStep b s) := by
  have hstepped : FlagsStand s (s.mapJudge b (fun j => { j with penalty := j.damping.stepped j.penalty })) := .of_eq (by simp)
  unfold Machine.flapStep
  dsimp only
  split
  · exact hstepped.trans (.setSuppressed _ _ _)
  · exact hstepped

theorem fall (b : Bearer) (s : State) : FlagsStand s (fall b s) :=
  .after (.rework _ _) (.after (.flapStep _ _) (.after (.report _ _) (.of_eq (by simp))))

theorem hardFail (b : Bearer) (s : State) : FlagsStand s (hardFail b s) := by
  have hzeroed : FlagsStand s (s.mapJudge b Judge.hardFailed) := .of_eq (by simp)
  unfold Machine.hardFail
  dsimp only
  split
  · split
    · exact hzeroed.trans (.fall _ _)
    · exact hzeroed
  · exact .refl s

end FlagsStand

section
variable {s : State} {b : Bearer}

/-! ## The selector leaves the fibre judge (R121, R137) -/

theorem fibreJudge_switchDrain {hold : State → State} (h : ∀ x, (hold x).fibreJudge = x.fibreJudge) (source : Bearer)
    (o : HandoverOutcome) (s : State) : (switchDrain hold source o s).fibreJudge = s.fibreJudge := by
  simp [switchDrain, completeRecord, h]

@[simp] theorem updateHold_fibreJudge (s : State) : (updateHold s).fibreJudge = s.fibreJudge := by
  have hdrain : (startDrain id .radio s).fibreJudge = s.fibreJudge := by
    have hbegun : (handWanted (enterDrain .radio s)).fibreJudge = s.fibreJudge := handWanted_fibreJudge _
    unfold startDrain
    dsimp only
    split
    · exact (fibreJudge_switchDrain (fun _ => rfl) _ _ _).trans hbegun
    · exact hbegun
  unfold updateHold
  split
  · split
    · rfl
    · split
      · exact hdrain
      · rfl
  · rfl

@[simp] theorem forceTo_fibreJudge (source : Option Bearer) (b : Bearer) (s : State) :
    (forceTo source b s).fibreJudge = s.fibreJudge := by simp [forceTo, writeRecord]

@[simp] theorem enterOutage_fibreJudge (s : State) : (enterOutage s).fibreJudge = s.fibreJudge := by simp [enterOutage_eq]

@[simp] theorem onEligibility_fibreJudge (b : Bearer) (s : State) : (onEligibility b s).fibreJudge = s.fibreJudge := by
  have hlost : ∀ c, (loseActive c s).fibreJudge = s.fibreJudge := fun c => by
    unfold loseActive
    dsimp only
    split <;> simp
  have habandoned : ∀ source, (abandonDrain source .targetLost s).fibreJudge = s.fibreJudge := fun source => by
    unfold abandonDrain
    dsimp only
    split <;> simp [completeRecord]
  unfold onEligibility
  (repeat' split) <;> simp [hlost, habandoned, fibreJudge_switchDrain]

/-! ## Hard-fail evidence at a judged bearer (R119) -/

theorem flapStep_fibre_verdict (s : State) : (flapStep .fibre s).fibreJudge.verdict = s.fibreJudge.verdict := by
  unfold flapStep
  dsimp only
  split <;> simp [setSuppressed]

theorem fall_fibre_down (s : State) : (fall .fibre s).fibreJudge.verdict = .down := by
  have hfallen : (flapStep .fibre (report (downFlag .fibre)
      (s.mapJudge .fibre (fun j => { j with verdict := .down })))).fibreJudge.verdict = .down := by
    rw [flapStep_fibre_verdict]
    simp
  rw [fall, rework_eq]
  split
  · exact hfallen
  · rw [onEligibility_fibreJudge]
    exact hfallen

/-- The verdict of a judged bearer is DOWN after hard-fail evidence (R119). -/
theorem hardFail_down (h : (s.judge b).timer.isSome = true) : ((hardFail b s).judge b).verdict = .down := by
  cases b with
  | radio => exact hardFail_radio_down fun _ => h
  | fibre =>
    have hjudged : s.judged .fibre = true := h
    unfold hardFail
    rw [if_pos hjudged]
    cases hv : s.fibreJudge.verdict with
    | up =>
      have hup : (s.judge .fibre).verdict = .up := hv
      rw [if_pos hup]
      exact fall_fibre_down _
    | down =>
      have hdown : (s.judge .fibre).verdict ≠ .up := by simp [State.judge, hv]
      rw [if_neg hdown]
      exact hv

/-- Hard-fail evidence at a bearer that is DOWN changes its judge's figures at most (R119). -/
theorem hardFail_of_down (h : (s.judge b).verdict = .down) : hardFail b s = s ∨ hardFail b s = s.mapJudge b Judge.hardFailed := by
  unfold hardFail
  dsimp only
  split
  · rw [h, if_neg (by simp)]
    exact .inr rfl
  · exact .inl rfl

/-! ## The rewind failures under the end of an event (R182) -/

@[simp] theorem rewindFailures_passCopy (b : Bearer) (c : Seq) (s : State) :
    (passCopy b c s).counts.carry.rewindFailures = s.counts.carry.rewindFailures := by
  unfold passCopy
  split
  · rfl
  · dsimp only
    split <;> simp [State.countCarry, CarryCounts.upVoided]

@[simp] theorem rewindFailures_nextFrame (o : Bool) (b : Bearer) (s : State) :
    (nextFrame o b s).counts.carry.rewindFailures = s.counts.carry.rewindFailures := by
  unfold nextFrame
  (repeat' split) <;> simp

theorem rewindFailures_serve (o : Bool) (b : Bearer) (s : State) :
    (serve o b s).counts.carry.rewindFailures = s.counts.carry.rewindFailures := by
  unfold serve
  split <;> simp

theorem rewindFailures_finish (joined : Bool) (before s : State) :
    (finish joined before s).counts.carry.rewindFailures = s.counts.carry.rewindFailures := by
  simp [finish, rewindFailures_serve]

/-! ## The expiry of the rewind timer (R92, R93) -/

theorem exec_rewindTimerExpiry (hr : s.resetHeld = false) :
    exec .rewindTimerExpiry s = .next (finish false s (rewindExpires s)) := by
  simp [exec, execRewindTimerExpiry, run, runWith, hr]

/-- The failure is reported and counted and the timer is stopped, before the evidence acts (R93; log entry 14). -/
def rewindFailed (s : State) : State := (report .rewindFailed (stopRewindTimer s)).countCarry .upRewindFailures

theorem rewindExpires_of_limit {due : Nat} (h : s.receiver.rewindTimer = some due) (ha : s.active = some b)
    (hl : s.carry.rewindLimit ≤ s.receiver.attempts) : rewindExpires s = hardFail b (rewindFailed (s.advanceTo due)) := by
  have hhere : (s.advanceTo due).active = some b := ha
  simp only [rewindExpires, h, ha, if_neg (Nat.not_lt.2 hl), rewindExhausted, hhere]
  rfl

theorem rewindFailed_writes (s : State) :
    (rewindFailed s).receiver = { s.receiver with rewindTimer := none }
      ∧ (rewindFailed s).counts.carry.rewindFailures = min (s.counts.carry.rewindFailures + 1) 4294967295
      ∧ (rewindFailed s).events.flags.getLsbD 13 = true
      ∧ (∀ b, (rewindFailed s).judge b = s.judge b)
      ∧ (rewindFailed s).selector = s.selector ∧ (rewindFailed s).session = s.session
      ∧ (rewindFailed s).clock = s.clock ∧ (rewindFailed s).home = s.home := by
  refine ⟨by simp [rewindFailed, stopRewindTimer], ?_, flag_report .rewindFailed _, fun b => ?_, by simp [rewindFailed]⟩
  · simp [rewindFailed, State.countCarry, CarryCounts.upRewindFailures, countUp, Config.countMax]
  · cases b <;> simp [rewindFailed, State.judge]

end

end Sys2Proof.Machine

open Sys2Proof.Machine in
/-- Settles O34: below the limit the stream is asked for again, and at the limit hard-fail evidence reaches the judge. -/
theorem rewindTimerExpires : Obligations.RewindTimerExpires := by
  intro s b due hr
  refine ⟨fun h => ?_, fun h ha hbelow => ?_, fun h ha hlimit => ?_⟩
  · simp only [exec_rewindTimerExpiry hr, rewindExpires, h]
  · intro merged
    refine ⟨s.sender.rewindPending || !s.sender.stream.any (fun m => m.kind == .rewind && m.bearer == b && !m.stopping), ?_, ?_⟩
    · have hmerged : s.sender.stream.any (fun m => m.kind == .rewind && m.bearer == b && !m.stopping) = true ↔ merged := by
        simp [merged, Option.any_eq_true, and_assoc]
      rw [Bool.or_eq_true, Bool.not_eq_true', ← Bool.not_eq_true, hmerged, or_comm]
    · have hhere : (s.advanceTo due).active = some b := ha
      have hasked : rewindExpires s = startRewindTimer b (s.receiver.attempts + 1) (requestRewind (s.advanceTo due)) := by
        simp only [rewindExpires, h, ha, if_pos hbelow]
      rw [exec_rewindTimerExpiry hr, hasked, requestRewind_eq, hhere]
      cases b <;> rfl
  · have hexpired := rewindExpires_of_limit h ha hlimit
    obtain ⟨hreceiver, hcount, hflag, hjudge, hselector, hsession, hclock, hhome⟩ := rewindFailed_writes (s.advanceTo due)
    set failed := rewindFailed (s.advanceTo due)
    have hverdict : ∀ x : State, ((finish false s x).judge b).verdict = (x.judge b).verdict := fun x => by
      cases b <;> simp [State.judge]
    have hsame : failed.judge b = s.judge b := (hjudge b).trans (by cases b <;> rfl)
    refine ⟨finish false s (hardFail b failed), by rw [exec_rewindTimerExpiry hr, hexpired],
      FlagsStand.finish _ _ _ 13 (FlagsStand.hardFail b failed 13 hflag), ?_, ?_, ?_, ?_, fun hjudged => ?_, fun hdown => ?_, ?_⟩
    · simp [hclock, State.advanceTo]
    · rw [rewindFailures_finish]
      simp [hcount]
    · simp [hreceiver]
    · simp [hreceiver]
    · rw [hverdict]
      exact hardFail_down (by rwa [hsame])
    · have hrest : (hardFail b failed).receiver = failed.receiver ∧ (hardFail b failed).selector = failed.selector
          ∧ (hardFail b failed).session = failed.session := by
        obtain he | he := hardFail_of_down (b := b) (s := failed) (by rwa [hsame]) <;> rw [he] <;> simp
      obtain ⟨hkr, hks, hko⟩ := hrest
      simp [hkr, hks, hko, hreceiver, hselector, hsession]
    · simp [hhome]
end

section
/-! PROOFS. The marks of a stream that leave (R83, R97, R169). -/

namespace Sys2Proof.Machine

section
variable {s : State} {b : Bearer} {m : MarkStream}

/-! ## The frame boundary of a stream that goes on (R83) -/

theorem passBoundary_of_going (h : s.sender.passStopping = false) : passBoundary b s = s := by simp [passBoundary, h]

/-- A unit offered again is the mark it was (log entry 38). -/
theorem atBoundary_of_reoffer (hpass : s.sender.passStopping = false) (hm : s.sender.stream = some m)
    (hgoes : m.stopping = false) : atBoundary b true s = s := by
  have hkept : (true && !s.sender.stream.any MarkStream.stopping) = true := by simp [hm, hgoes]
  rw [atBoundary, if_pos hkept, passBoundary_of_going hpass]

theorem streamBoundary_of_more (hm : s.sender.stream = some m) (hb : m.bearer = b) (hgoes : m.stopping = false)
    (hmore : 2 ≤ m.left) :
    streamBoundary b s = { s with sender := { s.sender with stream := some { m with left := m.left - 1 } } } := by
  have hleft : ¬m.left ≤ 1 := by omega
  simp [streamBoundary, hm, hb, hgoes, hleft]

theorem streamBoundary_of_last (hm : s.sender.stream = some m) (hb : m.bearer = b) (hgoes : m.stopping = false)
    (hlast : m.left ≤ 1) : streamBoundary b s = endStream m.kind s := by
  simp [streamBoundary, hm, hb, hgoes, hlast]

/-! ## The end of a REPLAY stream (R97) -/

/-- The stream is off the sender, its pause reason is gone, and it is counted among the replay passes (R83). -/
def replayStreamEnded (s : State) : State :=
  { s with
    sender := { s.sender with stream := none }
    pause := { s.pause with stream := false }
    counts := { s.counts with carry := s.counts.carry.upReplayPasses } }

theorem endStream_replay (s : State) : endStream .replay s =
    if s.sender.pass = .announcing then startResending (replayStreamEnded s) else replayStreamEnded s := rfl

theorem startResending_of_empty (h : s.sender.store = []) : startResending s = abandonPass s := by
  simp only [startResending, h]

theorem startResending_of_records (h : s.sender.store ≠ []) : startResending s =
    { s with sender := { s.sender with pass := .resending, cursor := s.sender.store.head?.map StoreRecord.seq } } := by
  unfold startResending
  split
  · next hnone => exact absurd hnone h
  · next hstore => simp only [hstore, List.head?_cons, Option.map_some]

/-- The end of a stream stops no pass. -/
theorem passStopping_endStream (k : MarkKind) (h : s.sender.passStopping = false) :
    (endStream k s).sender.passStopping = false := by
  cases k with
  | rewind => exact h
  | replay =>
    rw [endStream_replay]
    split
    · unfold startResending
      split
      · rfl
      · exact h
    · exact h

/-! ## A mark that has left (R61, R83) -/

/-- A mark raises no count of its own, so its completion clears the port and comes to the boundary (R61). -/
theorem completeDeparture_of_mark {l : Leaving} (hl : s.leaving b = some l) (hk : l.frame.kind = 5 ∨ l.frame.kind = 6) :
    completeDeparture b s = atBoundary b l.reoffer (clearPort b l s) := by
  have huncounted : countDeparture b l.frame (clearPort b l s) = clearPort b l s := by
    obtain hk | hk := hk <;> exact countDeparture_of_other (by simp [hk]) (by simp [hk]) (by simp [hk])
  simp only [completeDeparture, hl, huncounted, ite_self]

end

end Sys2Proof.Machine

open Sys2Proof.Machine in
/-- Settles O27: the completion of a mark is a boundary of its stream, which goes on or ends by the marks it has left. -/
theorem marksEndTheirStream : Obligations.MarksEndTheirStream := by
  intro s b l k left hr hpass hl hk hstream off carry up
  have hmark : l.frame.kind = 5 ∨ l.frame.kind = 6 := by cases k <;> simp [hk]
  have hexec : exec (.frameDepartureComplete b) s = .next (finish false s (atBoundary b l.reoffer off)) := by
    rw [exec_frameDepartureComplete hr, completeDeparture_of_mark hl hmark]
  have hkept : off.sender = s.sender ∧ off.pause = s.pause ∧ off.counts = s.counts := by simp [off]
  obtain ⟨hsender, hpause, hcounts⟩ := hkept
  have hrunning : off.sender.stream = some ⟨k, b, left, false⟩ := by rw [hsender, hstream]
  have hgoing : off.sender.passStopping = false := by rw [hsender, hpass]
  have hlast : left ≤ 1 → atBoundary b false off = endStream k off := fun h =>
    (congrArg (passBoundary b) (streamBoundary_of_last hrunning rfl rfl h)).trans
      (passBoundary_of_going (passStopping_endStream k hgoing))
  refine ⟨fun ho => ?_, fun ho hmore => ?_, fun ho hleft hrewind => ?_, fun ho hleft hreplay => ?_⟩
  · rw [hexec, ho, atBoundary_of_reoffer hgoing hrunning rfl]
  · have hlower : atBoundary b false off = { off with sender := { off.sender with stream := some ⟨k, b, left - 1, false⟩ } } :=
      (congrArg (passBoundary b) (streamBoundary_of_more hrunning rfl rfl hmore)).trans (passBoundary_of_going hgoing)
    rw [hexec, ho, hlower, hsender]
  · rw [hexec, ho, hlast hleft, hrewind, ← hsender, ← hpause]
    simp only [carry, ← hcounts]
    rfl
  · have hended : replayStreamEnded off = { off with
        sender := { s.sender with stream := none }
        pause := { s.pause with stream := false }
        counts := { s.counts with carry := { carry with replayPasses := up carry.replayPasses } } } := by
      simp only [replayStreamEnded, hsender, hpause, hcounts]
      rfl
    rw [hexec, ho, hlast hleft, hreplay, endStream_replay, hsender, hended]
    by_cases hannounced : s.sender.pass = .announcing
    · by_cases hempty : s.sender.store = []
      · rw [if_pos hannounced, startResending_of_empty]
        · simp [abandonPass, hannounced, hempty, hpass]
        · exact hempty
      · rw [if_pos hannounced, startResending_of_records]
        · simp [hannounced, hempty]
        · exact hempty
    · rw [if_neg hannounced]
      simp [hannounced]
end

section
/-! PROOFS. What waits, the fibre port and the judges at the end of an event (R54 to R56, R110). -/

namespace Sys2Proof.Machine

section
variable {s t u : State} {b c : Bearer} {v : WaitingFrame}

/-! ## The fibre port while the module port is served -/

/-- No frame waits for the fibre port, and no stream runs there. -/
structure FibreIdle (s : State) : Prop where
  waiting : s.sender.waitingFibre = []
  stream : ∀ m ∈ s.sender.stream, m.bearer = .radio

/-- A change of the sender that adds no frame on the fibre and starts no stream leaves the fibre idle. -/
theorem FibreIdle.of_fields (h : FibreIdle s) (hw : t.sender.waitingFibre = s.sender.waitingFibre)
    (hs : t.sender.stream = s.sender.stream ∨ t.sender.stream = none) : FibreIdle t := by
  refine ⟨hw.trans h.waiting, ?_⟩
  obtain hs | hs := hs <;> rw [hs]
  · exact h.stream
  · simp

/-- The fibre port and the fibre's judge are as they were, and an idle fibre stays idle. -/
structure FibrePortRests (s t : State) : Prop where
  port : t.fibre = s.fibre
  judge : t.fibreJudge = s.fibreJudge
  idle : FibreIdle s → FibreIdle t

namespace FibrePortRests

theorem refl (s : State) : FibrePortRests s s := ⟨rfl, rfl, id⟩

theorem trans (h : FibrePortRests s t) (h' : FibrePortRests t u) : FibrePortRests s u :=
  ⟨h'.port.trans h.port, h'.judge.trans h.judge, h'.idle ∘ h.idle⟩

theorem after (h' : FibrePortRests t u) (h : FibrePortRests s t) : FibrePortRests s u := h.trans h'

theorem of_eq (hp : t.fibre = s.fibre) (hj : t.fibreJudge = s.fibreJudge)
    (hw : t.sender.waitingFibre = s.sender.waitingFibre) (hs : t.sender.stream = s.sender.stream) : FibrePortRests s t :=
  ⟨hp, hj, fun h => h.of_fields hw (.inl hs)⟩

theorem startFrame (f : CarryFrame) (s : State) : FibrePortRests s (startFrame .radio f s) := by
  unfold Machine.startFrame settleTally
  split
  · exact ⟨by simp [putOnPort], by simp [putOnPort], fun h => ⟨by simp [clearTally, State.keepWaiting, putOnPort, h.waiting],
      by simpa [putOnPort] using h.stream⟩⟩
  · exact .of_eq rfl rfl rfl rfl

theorem startWaiting (w : WaitingFrame) (rest : List WaitingFrame) (s : State) :
    FibrePortRests s (startWaiting .radio w rest s) := by
  have hpopped : FibrePortRests s (s.setWaiting .radio rest) := .of_eq rfl rfl rfl rfl
  have hstarted := hpopped.trans (.startFrame (w.frame .radio s) _)
  have hentry : ∀ tag n (x : State), FibrePortRests x (createEntry .radio tag n x) := fun tag n x =>
    .of_eq (by simp) (by unfold createEntry; dsimp only; split <;> simp) (by simp) (by simp)
  unfold Machine.startWaiting
  dsimp only
  split
  · exact hstarted.trans (hentry _ _ _)
  · exact hstarted

theorem startStream (k : MarkKind) (s : State) : FibrePortRests s (startStream .radio k s) := by
  unfold Machine.startStream
  exact .after (.startFrame _ _) ⟨rfl, rfl, fun h => ⟨h.waiting, by simp⟩⟩

theorem passCopy (c : Seq) (s : State) : FibrePortRests s (passCopy .radio c s) := by
  unfold Machine.passCopy
  split
  · exact .of_eq rfl rfl rfl rfl
  · dsimp only
    refine .trans (.of_eq ?_ ?_ ?_ ?_) (.startFrame _ _) <;> split <;> simp

theorem sendHead (l : Lane) (f : QueuedFrame) (s : State) : FibrePortRests s (sendHead l f .radio s) := by
  unfold Machine.sendHead
  split
  · exact .after (.startFrame _ _) (.of_eq rfl rfl (by simp) (by simp))
  · exact .startFrame _ _

theorem dispatch (s : State) : FibrePortRests s (dispatch .radio s) := by
  have hexamined : FibrePortRests s (examineLanes laneOrder s).1 := .of_eq (by simp) (by simp) (by simp) (by simp)
  unfold Machine.dispatch
  split
  · next he =>
    rw [he] at hexamined
    exact hexamined
  · next he =>
    rw [he] at hexamined
    exact hexamined.trans (.sendHead _ _ _)

theorem nextFrame (o : Bool) (s : State) : FibrePortRests s (nextFrame o .radio s) := by
  unfold Machine.nextFrame
  split
  · exact .startFrame _ s
  · split
    · exact .startStream _ s
    · split
      · exact .startStream _ s
      · split
        · exact .startWaiting _ _ s
        · split
          · split
            · exact .passCopy _ s
            · split
              · exact .dispatch s
              · exact .refl s
          · exact .refl s

theorem serve (o : Bool) (s : State) : FibrePortRests s (serve o .radio s) := by
  unfold Machine.serve
  split
  · exact .trans (.of_eq (by simp) (by simp) (by simp) (by simp)) (.nextFrame _ _)
  · exact .refl s

/-- A fibre port whose link is down takes no frame, so that the event's end leaves it as it was (R54). -/
theorem finish (joined : Bool) (before : State) (hs : s.fibre.linkUp = false) : FibrePortRests s (finish joined before s) := by
  have hbusy : s.portFree .fibre = false := by simp [State.portFree, hs]
  unfold Machine.finish
  dsimp only
  rw [serve_of_busy hbusy]
  exact (FibrePortRests.serve (opportunityAfter joined before s) s).trans (.of_eq rfl rfl rfl rfl)

end FibrePortRests

/-! ## A frame that is due goes on waiting, or starts to leave (R55, R56) -/

/-- A waiting frame waits on a bearer, or is leaving it with the content fixed when it fell due (R56). -/
def FrameDue (b : Bearer) (w : WaitingFrame) (t : State) : Prop :=
  w ∈ t.waiting b ∨ ∃ l ∈ t.leaving b, ∃ x, l.frame = w.frame b x

/-- A frame that starts withdraws at most the TALLYs that wait (R59, R60). -/
theorem mem_waiting_startFrame (hv : v.isTally = false) (f : CarryFrame) (h : v ∈ s.waiting c) :
    v ∈ (startFrame b f s).waiting c := by
  have hport : v ∈ (putOnPort b ⟨f, wireOf b f s, false⟩ s).waiting c := by cases b <;> cases c <;> exact h
  unfold startFrame settleTally
  split
  · cases c <;> simp_all [State.waiting, clearTally, State.keepWaiting]
  · exact hport

theorem mem_waiting_dispatch (hv : v.isTally = false) (b : Bearer) (h : v ∈ s.waiting c) : v ∈ (dispatch b s).waiting c := by
  have hexamined : (examineLanes laneOrder s).1.waiting c = s.waiting c := by cases c <;> simp [State.waiting]
  rw [← hexamined] at h
  unfold dispatch
  split
  · next he => rwa [he] at h
  · next he =>
    rw [he] at h
    unfold sendHead
    split
    · exact mem_waiting_startFrame hv _ (by cases c <;> exact h)
    · exact mem_waiting_startFrame hv _ h

theorem mem_waiting_passCopy (hv : v.isTally = false) (b : Bearer) (q : Seq) (h : v ∈ s.waiting c) :
    v ∈ (passCopy b q s).waiting c := by
  unfold passCopy
  split
  · cases c <;> exact h
  · next r _ =>
    have hcounted : (if voidingTest s r then report .staleVoided (s.countCarry .upVoided) else s).waiting c = s.waiting c := by
      split
      · cases c <;> simp [State.waiting]
      · rfl
    rw [← hcounted] at h
    exact mem_waiting_startFrame hv _ (by cases c <;> exact h)

/-- Of the frames that wait, the next one on a port can only be the first of its bearer. -/
theorem FrameDue.nextFrame (hv : v.isTally = false) (h : v ∈ s.waiting c) (o : Bool) (b : Bearer) :
    FrameDue c v (nextFrame o b s) := by
  unfold Machine.nextFrame
  split
  · exact .inl (mem_waiting_startFrame hv _ h)
  · split
    · exact .inl (mem_waiting_startFrame hv _ (by cases c <;> exact h))
    · split
      · exact .inl (mem_waiting_startFrame hv _ (by cases c <;> exact h))
      · split
        · next w rest hw =>
          obtain rfl | rfl := eq_or_eq_other b c
          · obtain rfl | hrest := List.mem_cons.1 (hw ▸ h)
            · exact .inr ⟨_, (leaving_startWaiting _ _).1, _, rfl⟩
            · exact .inl (mem_waiting_startWaiting hv (by rwa [waiting_setWaiting]))
          · have hother : (s.setWaiting b rest).waiting b.other = s.waiting b.other := by cases b <;> rfl
            exact .inl (mem_waiting_startWaiting hv (by rwa [hother]))
        · split
          · split
            · exact .inl (mem_waiting_passCopy hv _ _ h)
            · split
              · exact .inl (mem_waiting_dispatch hv _ h)
              · exact .inl h
          · exact .inl h

/-- What starts on one port leaves the other port as it is. -/
theorem leaving_other_nextFrame (o : Bool) (b : Bearer) (s : State) :
    (Machine.nextFrame o b s).leaving b.other = s.leaving b.other := by
  cases b with
  | fibre => exact congrArg Radio.leaving (ModulePortRests.nextFrame o s).radio
  | radio => exact congrArg FibrePort.leaving (FibrePortRests.nextFrame o s).port

theorem FrameDue.serve (hv : v.isTally = false) (h : FrameDue c v t) (o : Bool) (b : Bearer) :
    FrameDue c v (Machine.serve o b t) := by
  unfold Machine.serve
  split
  · next hfree =>
    obtain hw | ⟨l, hl, hframe⟩ := h
    · exact .nextFrame hv (by rwa [waiting_endPassAt]) _ _
    · refine .inr ⟨l, ?_, hframe⟩
      obtain rfl | rfl := eq_or_eq_other b c
      · rw [portFree_eq_false_of_leaving (Option.isSome_iff_exists.2 ⟨l, hl⟩)] at hfree
        cases hfree
      · rwa [leaving_other_nextFrame, leaving_endPassAt]
  · exact h

/-- What is due at the end of an event waits after it, or is leaving (R55). -/
theorem FrameDue.finish (hv : v.isTally = false) (h : FrameDue c v t) (joined : Bool) (before : State) :
    FrameDue c v (Machine.finish joined before t) := by
  have hserved := (h.serve hv (opportunityAfter joined before t) .fibre).serve hv (opportunityAfter joined before t) .radio
  cases c <;> exact hserved

theorem FrameDue.openDueOn (h : FrameDue b (.opening t.session.epoch) t) : OpenDueOn b t :=
  h.imp_right fun ⟨l, hl, _, hframe⟩ => ⟨l, hl, by rw [hframe]; rfl, by rw [hframe]; rfl⟩

theorem FrameDue.probeDueOn {tag : Byte} {n : Nat} (h : FrameDue b (.probe tag (probeEpoch t.session.epoch) n) t) :
    ProbeDueOn b tag n t :=
  h.imp_right fun ⟨l, hl, _, hframe⟩ => ⟨l, hl, by rw [hframe]; rfl, by rw [hframe]; rfl, by rw [hframe]; rfl⟩

/-! ## A judge at the end of an event (R110) -/

/-- A judge without its probe table. -/
def Judge.untabled (j : Judge) : Judge := { j with table := [] }

theorem untabled_startWaiting (w : WaitingFrame) (rest : List WaitingFrame) :
    ((startWaiting b w rest s).judge c).untabled = (s.judge c).untabled := by
  have hentry : ∀ tag n (x : State), ((createEntry b tag n x).judge c).untabled = (x.judge c).untabled := fun tag n x => by
    unfold createEntry
    dsimp only
    split <;> cases b <;> cases c <;> rfl
  unfold startWaiting
  dsimp only
  split
  · rw [hentry, judge_startFrame, judge_setWaiting]
  · rw [judge_startFrame, judge_setWaiting]

theorem untabled_nextFrame (o : Bool) : ((nextFrame o b s).judge c).untabled = (s.judge c).untabled := by
  unfold nextFrame
  split
  · cases c <;> simp [State.judge]
  · split
    · cases c <;> simp [State.judge]
    · split
      · cases c <;> simp [State.judge]
      · split
        · exact untabled_startWaiting _ _
        · cases c <;> simp only [State.judge] <;> (repeat' split) <;> simp

theorem untabled_serve (o : Bool) : ((serve o b s).judge c).untabled = (s.judge c).untabled := by
  unfold serve
  split
  · rw [untabled_nextFrame]
    cases c <;> simp [State.judge]
  · rfl

/-- The end of an event writes nothing in a judge but its probe table (R110). -/
theorem judge_finish (joined : Bool) (before s : State) (c : Bearer) :
    ∃ q, (finish joined before s).judge c = { s.judge c with table := q } := by
  have hclosed : ∀ x : State, (closeEvent x).judge c = x.judge c := fun x => by cases c <;> rfl
  have huntabled : ((finish joined before s).judge c).untabled = (s.judge c).untabled := by
    rw [finish, hclosed, untabled_serve, untabled_serve]
  exact ⟨_, congrArg (fun j : Judge => { j with table := ((finish joined before s).judge c).table }) huntabled⟩

end

end Sys2Proof.Machine
end

section
/-! PROOFS. A bearer's fall and its rise at its judge and at the path selector (R117, R120, R125, R141 to R143, R150, R151). -/

namespace Sys2Proof.Machine

section
variable {s x : State} {b : Bearer}

/-! ## The judges while the selector acts (R155, R162, R164) -/

/-- A level that is handed over leaves a judge but for the eligibility noted, or clears the radio judge with the module's
release, which takes a level of NONE. -/
theorem judge_handWanted (c : Bearer) (s : State) :
    (∃ h, (handWanted s).judge c = { s.judge c with handed := h })
      ∨ (wantedLevel s = .none ∧ c = .radio ∧ (handWanted s).portOpen .radio = false
        ∧ ∃ h, (handWanted s).judge c = { (s.judge c).cleared with handed := h }) := by
  cases c with
  | fibre => exact .inl ⟨_, handWanted_fibreJudge s⟩
  | radio =>
    by_cases hlevel : wantedLevel s = s.selector.wanted
    · rw [handWanted_of_met hlevel]
      exact .inl ⟨_, rfl⟩
    · rw [handWanted_of_changed hlevel]
      obtain he | ⟨-, he⟩ | ⟨hready, -, he | ⟨-, he⟩ | ⟨hnone, he⟩⟩ := actOnLevel_cases (s.handed (wantedLevel s))
      case inr.inr.inr.inr =>
        rw [he]
        obtain ⟨-, -, hcleared, -⟩ := enterReleasing_of_ready .linger hready
        set released := enterReleasing .linger (s.handed (wantedLevel s))
        exact .inr ⟨hnone, rfl, rfl, _, congrArg (fun j : Judge => { j with handed := released.eligible .radio }) hcleared⟩
      all_goals
        rw [he]
        exact .inl ⟨_, rfl⟩

/-! ## A forced change (R141 to R143) -/

/-- A forced change after which no return hold is to run hands over the level with the record written. -/
theorem forceTo_of_no_hold {source : Option Bearer} (h : holdWanted (makeActive b source.isNone s) = false) :
    forceTo source b s = handWanted { makeActive b source.isNone s with
      selector := { (makeActive b source.isNone s).selector with
        record := some ⟨source, b, .forced, s.ms, some .done⟩, holdTimer := none } } := by
  have hms : (makeActive b source.isNone s).ms = s.ms := by simp [State.ms]
  have hwritten : holdWanted (writeRecord source b .forced (some .done) (makeActive b source.isNone s)) = false := h
  rw [forceTo, updateHold_of_not_wanted hwritten, writeRecord, hms]

/-- What a forced change with no return hold to run leaves at the selector (R140, R153). -/
theorem forceTo_takes {source : Option Bearer} (h : holdWanted (makeActive b source.isNone s) = false) :
    let t := forceTo source b s
    t.selector.status = .on b ∧ t.pause.selector = false ∧ t.selector.record = some ⟨source, b, .forced, t.ms, some .done⟩
      ∧ t.events.flags.getLsbD 7 = true ∧ t.session = (makeActive b source.isNone s).session := by
  intro t
  have hflag : t.events.flags.getLsbD 7 = true := by
    refine FlagsStand.after (FlagsStand.handWanted _) ?_ 7 (flag_makeActive b source.isNone s)
    exact .after (.updateHold _) (.of_eq rfl)
  have hms : t.ms = s.ms := by simp [t, State.ms]
  refine ⟨?_, ?_, ?_, hflag, ?_⟩
  · simp [t, forceTo_of_no_hold h]
  · simp [t, forceTo_of_no_hold h]
  · rw [hms]
    simp [t, forceTo_of_no_hold h]
  · simp [t, forceTo_of_no_hold h]

/-! ## A bearer that is lost (R142, R143, R150, R151) -/

/-- What the selector makes of a lost bearer before the wanted level is handed over: the active bearer stays or a drain goes back
to it, the other bearer is taken, or OUTAGE is entered. -/
inductive BearerLost (b : Bearer) (s : State) : State → Prop
  | stays (sel : Selector) (paused : Bool) :
    BearerLost b s { s with selector := sel, pause := { s.pause with selector := paused } }
  | moves (sel after : Selector) :
    BearerLost b s { makeActive b.other false { s with selector := sel } with selector := after }
  | outage (sel : Selector) : BearerLost b s (report .outageBegin (outageEntered { s with selector := sel }))

/-- With a bearer lost, no return hold is to run on the other one (R145). -/
theorem holdWanted_of_lost (hs : x.selector.status = .on b.other) (he : x.eligible b = false) : holdWanted x = false := by
  cases b with
  | fibre => simp [holdWanted, he]
  | radio => simp [holdWanted, hs, Bearer.other]

theorem holdWanted_makeActive_of_lost (n : Bool) (he : s.eligible b = false) :
    holdWanted (makeActive b.other n s) = false :=
  holdWanted_of_lost (b := b) (by simp) (by rwa [eligible_makeActive])

/-- The state whose return hold timer is stopped has the same bearers to offer. -/
theorem eligible_withHold (d : Timer) (c : Bearer) :
    ({ s with selector := { s.selector with holdTimer := d } } : State).eligible c = s.eligible c := by cases c <;> rfl

/-- An active bearer that is lost is left for the other one, or for OUTAGE (R142, R143). -/
theorem activeLeft_loseActive (he : s.eligible b = false) : ActiveLeft b s (loseActive b s) := by
  have hhold := holdWanted_makeActive_of_lost (some b).isNone ((eligible_withHold none b).trans he)
  obtain ⟨htaken, -, hrecord, hflag, -⟩ := forceTo_takes hhold
  unfold loseActive
  dsimp only
  refine ⟨fun hother => ?_, fun hother => ?_⟩
  · rw [if_pos hother]
    exact ⟨htaken, hflag, hrecord⟩
  · rw [hother, if_neg Bool.false_ne_true, enterOutage_eq]
    exact ⟨by simp, FlagsStand.handWanted _ 8 (flag_report .outageBegin _)⟩

theorem loseActive_of_lost (he : s.eligible b = false) : ∃ x, BearerLost b s x ∧ loseActive b s = handWanted x := by
  have hstopped := (eligible_withHold none b).trans he
  unfold loseActive
  dsimp only
  split
  · rw [forceTo_of_no_hold (holdWanted_makeActive_of_lost _ hstopped)]
    exact ⟨_, .moves _ _, rfl⟩
  · exact ⟨_, .outage _, enterOutage_eq _⟩

theorem switchDrain_of_lost (he : s.eligible b = false) (o : HandoverOutcome) :
    ∃ x, BearerLost b s x ∧ switchDrain updateHold b o s = handWanted x := by
  have hstopped : ({ s with selector := { s.selector with drainTimer := none } } : State).eligible b = false := by
    cases b <;> exact he
  have hhold : holdWanted (completeRecord o (makeActive b.other false
      { s with selector := { s.selector with drainTimer := none } })) = false :=
    holdWanted_makeActive_of_lost false hstopped
  rw [switchDrain, updateHold_of_not_wanted hhold]
  exact ⟨_, .moves _ _, rfl⟩

theorem abandonDrain_of_lost (he : s.eligible b = false) (o : HandoverOutcome) :
    ∃ x, BearerLost b s x ∧ abandonDrain b.other o s = handWanted x := by
  unfold abandonDrain
  dsimp only
  split
  · rw [updateHold_of_not_wanted (holdWanted_of_lost (b := b) rfl (by cases b <;> exact he))]
    exact ⟨_, .stays _ _, rfl⟩
  · exact ⟨_, .outage _, enterOutage_eq _⟩

/-- The selector acts on a lost bearer by handing one level over, or not at all (R142, R143, R150, R151). -/
theorem onEligibility_of_lost (he : s.eligible b = false) :
    ∃ x, BearerLost b s x ∧ (onEligibility b s = x ∨ onEligibility b s = handWanted x) := by
  have hsame : ∃ x, BearerLost b s x ∧ (s = x ∨ s = handWanted x) := ⟨s, .stays s.selector s.pause.selector, .inl rfl⟩
  unfold onEligibility
  split
  · exact hsame
  · have hbarred : ¬s.mayTake b = true := by simp [State.mayTake, he]
    rwa [if_neg hbarred]
  · next c hs =>
    obtain rfl | rfl := eq_or_eq_other b c
    · rw [if_pos rfl, he, if_neg Bool.false_ne_true]
      exact (loseActive_of_lost he).imp fun _ h => h.imp_right .inr
    · rw [if_neg (other_ne b)]
      split
      · rw [updateHold_of_not_wanted (holdWanted_of_lost hs he)]
        exact ⟨_, .stays _ s.pause.selector, .inl rfl⟩
      · exact hsame
  · next source hs =>
    rw [he, if_neg Bool.false_ne_true]
    obtain rfl | rfl := eq_or_eq_other b source
    · rw [if_pos rfl]
      exact (switchDrain_of_lost he _).imp fun _ h => h.imp_right .inr
    · rw [if_neg (other_ne b).symm]
      exact (abandonDrain_of_lost he _).imp fun _ h => h.imp_right .inr

/-- The eligibility that is noted, and what the selector makes of it (R121). -/
theorem rework_of_lost (he : s.eligible b = false) :
    rework b s = s ∨ ∃ x, BearerLost b (noted b s) x ∧ (rework b s = x ∨ rework b s = handWanted x) := by
  rw [rework_eq]
  split
  · exact .inl rfl
  · exact .inr (onEligibility_of_lost (by rwa [eligible_noted]))

namespace BearerLost

theorem judge (h : BearerLost b s x) (c : Bearer) : x.judge c = s.judge c := by
  cases h <;> cases c <;> simp [State.judge]

end BearerLost

/-! ## A fall (R120, R125) -/

/-- A judge that falls: DOWN, with one step of the penalty and the suppression that it sets (R125). -/
def Judge.fallen (j : Judge) : Judge :=
  let p := min j.damping.ceiling (j.penalty + j.damping.step)
  { j with verdict := .down, penalty := p, suppressed := j.suppressed || decide (j.damping.suppress ≤ p) }

/-- The fall at the judge, before its eligibility is worked out. -/
def fellDown (b : Bearer) (s : State) : State :=
  flapStep b (report (downFlag b) (s.mapJudge b (fun j => { j with verdict := .down })))

theorem fall_eq (b : Bearer) (s : State) : fall b s = rework b (fellDown b s) := rfl

/-- One step of the penalty at a judge, with the suppression that it sets (R125). -/
theorem judge_flapStep (b : Bearer) (s : State) :
    (flapStep b s).judge b = { s.judge b with
        penalty := (s.judge b).fallen.penalty, suppressed := (s.judge b).fallen.suppressed }
      ∧ (flapStep b s).judge b.other = s.judge b.other := by
  set stepped := s.mapJudge b (fun j => { j with penalty := j.damping.stepped j.penalty }) with hstepped
  have hb : stepped.judge b = { s.judge b with penalty := (s.judge b).fallen.penalty } := by cases b <;> rfl
  have ho : stepped.judge b.other = s.judge b.other := by cases b <;> rfl
  have hflap : flapStep b s = if !(s.judge b).suppressed && decide ((s.judge b).damping.suppress ≤ (s.judge b).fallen.penalty)
      then setSuppressed b true stepped else stepped := by
    unfold flapStep
    rw [← hstepped]
    simp only [hb]
  have hset : (setSuppressed b true stepped).judge b = { stepped.judge b with suppressed := true }
      ∧ (setSuppressed b true stepped).judge b.other = stepped.judge b.other := by
    cases b <;> simp [setSuppressed, State.judge, Bearer.other]
  have hsum : (s.judge b).fallen.suppressed
      = ((s.judge b).suppressed || decide ((s.judge b).damping.suppress ≤ (s.judge b).fallen.penalty)) := rfl
  rw [hflap, hsum]
  cases hs : (s.judge b).suppressed <;> cases decide ((s.judge b).damping.suppress ≤ (s.judge b).fallen.penalty) <;>
    simp [hset, hb, ho, hs]

theorem judge_fellDown (b : Bearer) (s : State) :
    (fellDown b s).judge b = (s.judge b).fallen ∧ (fellDown b s).judge b.other = s.judge b.other := by
  obtain ⟨hb, ho⟩ := judge_flapStep b (report (downFlag b) (s.mapJudge b (fun j => { j with verdict := .down })))
  rw [fellDown, hb, ho]
  cases b <;> simp [State.judge, Bearer.other, Judge.fallen]

theorem eligible_fellDown (b : Bearer) (s : State) : (fellDown b s).eligible b = false :=
  eligible_of_down (by rw [(judge_fellDown b s).1]; rfl)

/-- A fall leaves its judge fallen, or, where it releases the module, fallen and then reset (R120, R125, R162). -/
theorem judge_fall (b : Bearer) (s : State) :
    (∃ h, (fall b s).judge b = { (s.judge b).fallen with handed := h })
      ∨ (b = .radio ∧ (fall b s).portOpen b = false
        ∧ ∃ h, (fall b s).judge b = { (s.judge b).fallen.cleared with handed := h }) := by
  have hjudge := (judge_fellDown b s).1
  rw [fall_eq]
  obtain he | ⟨x, hx, hend⟩ := rework_of_lost (eligible_fellDown b s)
  · rw [he, hjudge]
    exact .inl ⟨_, rfl⟩
  · have hkept : x.judge b = { (s.judge b).fallen with handed := (fellDown b s).eligible b } := by
      rw [hx.judge, noted, ← hjudge]
      cases b <;> rfl
    obtain he | he := hend <;> rw [he]
    · exact .inl ⟨_, hkept⟩
    · obtain ⟨h, hj⟩ | ⟨-, rfl, hclosed, h, hj⟩ := judge_handWanted b x
      · exact .inl ⟨h, by rw [hj, hkept]⟩
      · exact .inr ⟨rfl, hclosed, h, by rw [hj, hkept]; rfl⟩

theorem flag_fall (b : Bearer) (s : State) : (fall b s).events.flags.getLsbD (downFlag b).number = true :=
  FlagsStand.after (.rework b _) (.flapStep b _) _ (flag_report (downFlag b) _)

/-- A fall of the active bearer, eligible as the selector was told, leaves it (R142, R143). -/
theorem activeLeft_fall (hs : s.selector.status = .on b) (hh : (s.judge b).handed = true) : ActiveLeft b s (fall b s) := by
  have hlost := eligible_fellDown b s
  have htold : ((fellDown b s).judge b).handed = true := by
    rw [(judge_fellDown b s).1]
    exact hh
  have hon : (fellDown b s).selector = s.selector := by simp [fellDown]
  have hleft : fall b s = loseActive b (noted b (fellDown b s)) := by
    rw [fall_eq, rework_eq, hlost, htold, if_neg Bool.false_ne_true]
    simp [onEligibility, hon, hs, hlost]
  have hmay : (noted b (fellDown b s)).mayTake b.other = s.mayTake b.other := by
    rw [mayTake_noted]
    simp only [State.mayTake, State.eligible, (judge_fellDown b s).2, hon]
  have hnoted : (noted b (fellDown b s)).eligible b = false := by rwa [eligible_noted]
  obtain ⟨htaken, hout⟩ := activeLeft_loseActive hnoted
  rw [hleft]
  exact ⟨hmay ▸ htaken, hmay ▸ hout⟩

end

end Sys2Proof.Machine
end

section
/-! PROOFS. The fibre's link: its loss as hard-fail evidence, and its return (R54, R56, R85, R113, R118, R119). -/

namespace Sys2Proof.Machine

section
variable {s x : State}

/-! ## The fibre stays idle while it is lost (R56, R85) -/

theorem fibreIdle_endActive (h : FibreIdle s) : FibreIdle (endActive s) :=
  ⟨by simp [endActive, abandonPass, abandonStreams, clearTally, State.keepWaiting, h.waiting],
    by simp [endActive, abandonPass, abandonStreams]⟩

theorem fibreIdle_sessionOn_radio (h : FibreIdle s) : FibreIdle (sessionOn .radio s) := by
  refine ⟨?_, by simpa using h.stream⟩
  unfold sessionOn
  split
  · simp [sendOpen_eq, enterOpening, State.waiting, h.waiting]
  · simp [sendOpen_eq, State.waiting, h.waiting]
  · simp [h.waiting]

theorem fibreIdle_makeActive_radio (n : Bool) (h : FibreIdle s) : FibreIdle (makeActive .radio n s) := by
  have hentered : FibreIdle { s with
      selector := { s.selector with status := .on .radio }, pause := { s.pause with selector := false } } := ⟨h.waiting, h.stream⟩
  exact (fibreIdle_sessionOn_radio (fibreIdle_endActive hentered)).of_fields (by simp [makeActive]) (.inl (by simp [makeActive]))

theorem BearerLost.fibreIdle (h : BearerLost .fibre s x) (hi : FibreIdle s) : FibreIdle x := by
  cases h with
  | stays sel paused => exact ⟨hi.waiting, hi.stream⟩
  | moves sel after =>
    have hmoved : FibreIdle (makeActive .radio false { s with selector := sel }) :=
      fibreIdle_makeActive_radio false ⟨hi.waiting, hi.stream⟩
    exact ⟨hmoved.waiting, hmoved.stream⟩
  | outage sel =>
    have hended := fibreIdle_endActive (s := { s with
      selector := { sel with status := .outage, holdTimer := none }, pause := { s.pause with selector := true } })
      ⟨hi.waiting, hi.stream⟩
    exact hended.of_fields (by simp [outageEntered, stopRewindTimer]) (.inl (by simp [outageEntered, stopRewindTimer]))

theorem fibreIdle_fall (h : FibreIdle s) : FibreIdle (fall .fibre s) := by
  have hfallen : FibreIdle (fellDown .fibre s) := h.of_fields (by simp [fellDown]) (.inl (by simp [fellDown]))
  rw [fall_eq]
  obtain he | ⟨x, hx, hend⟩ := rework_of_lost (eligible_fellDown .fibre s)
  · rwa [he]
  · have hidle := hx.fibreIdle (hfallen.of_fields (by simp [noted]) (.inl (by simp [noted])))
    obtain he | he := hend <;> rw [he]
    · exact hidle
    · obtain ⟨hstream, hwaiting, -⟩ := handWanted_ports x
      exact hidle.of_fields hwaiting hstream

theorem fibreIdle_hardFail (h : FibreIdle s) : FibreIdle (hardFail .fibre s) := by
  have hzeroed : FibreIdle (s.mapJudge .fibre Judge.hardFailed) := ⟨h.waiting, h.stream⟩
  unfold hardFail
  dsimp only
  split
  · split
    · exact fibreIdle_fall hzeroed
    · exact hzeroed
  · exact h

/-! ## The link's loss -/

/-- The port is closed and the running interval BAD, before the evidence reaches the judge (R56, R85, R113). -/
def fibreLinkCut (s : State) : State :=
  closePort .fibre ((s.setFibreLink false).mapJudge .fibre (fun j => { j with linkHeld := false }))

theorem fibreLinkLost_of_up (h : s.fibre.linkUp = true) : fibreLinkLost s = hardFail .fibre (fibreLinkCut s) := if_pos h

theorem fibreLinkLost_of_down (h : s.fibre.linkUp = false) : fibreLinkLost s = s := by simp [fibreLinkLost, h]

theorem fibreIdle_closePort (s : State) : FibreIdle (closePort .fibre s) := by
  have hstream : ∀ m ∈ (closePort .fibre s).sender.stream, m.bearer = .radio := by
    unfold closePort endStreamOn
    split
    · next m hm =>
      split
      · simp
      · next hb =>
        rintro n hn
        obtain rfl : m = n := Option.some.inj (hm.symm.trans hn)
        cases hn : m.bearer with
        | fibre => exact absurd hn hb
        | radio => rfl
    · next hm =>
    rw [hm]
    simp
  refine ⟨?_, hstream⟩
  unfold closePort endStreamOn
  split
  · split <;> rfl
  · rfl

theorem fibreLinkCut_writes (s : State) :
    (fibreLinkCut s).fibre = { s.fibre with linkUp := false }
      ∧ (fibreLinkCut s).fibreJudge = { s.fibreJudge with linkHeld := false }
      ∧ (fibreLinkCut s).selector = s.selector ∧ (fibreLinkCut s).session = s.session
      ∧ (fibreLinkCut s).mayTake .radio = s.mayTake .radio
      ∧ (fibreLinkCut s).receiver = s.receiver ∧ (fibreLinkCut s).home = s.home := by
  simp [fibreLinkCut, State.setFibreLink, State.mayTake, State.eligible, State.judge]

/-! ## Hard-fail evidence at a judge (R119) -/

section
variable {b : Bearer}

theorem hardFail_of_unjudged (hj : (s.judge b).timer = none) : hardFail b s = s := by simp [hardFail, State.judged, hj]

/-- At a bearer that is UP the evidence is a fall with all figures 0. -/
theorem hardFail_of_up (hj : (s.judge b).timer.isSome = true) (hv : (s.judge b).verdict = .up) :
    hardFail b s = fall b (s.mapJudge b Judge.hardFailed) := by
  simp [hardFail, State.judged, hj, hv]

theorem hardFail_of_judged_down (hj : (s.judge b).timer.isSome = true) (hv : (s.judge b).verdict = .down) :
    hardFail b s = s.mapJudge b Judge.hardFailed := by
  simp [hardFail, State.judged, hj, hv]

end

theorem fibreJudge_hardFail_of_up (hj : s.fibreJudge.timer.isSome = true) (hv : s.fibreJudge.verdict = .up) :
    ∃ h, (hardFail .fibre s).fibreJudge = { s.fibreJudge.hardFailed.fallen with handed := h } := by
  rw [hardFail_of_up (b := .fibre) hj hv]
  exact (judge_fall .fibre (s.mapJudge .fibre Judge.hardFailed)).resolve_right fun ⟨hradio, _⟩ => by cases hradio

/-- The evidence keeps what it does not zero, and leaves the verdict DOWN (R119). -/
theorem fibreJudge_hardFail (hj : s.fibreJudge.timer.isSome = true) :
    let j := (hardFail .fibre s).fibreJudge
    j.goodRun = 0 ∧ j.badRun = 0 ∧ j.tally = 0 ∧ j.cleanRun = 0 ∧ j.position = 0 ∧ j.noWindow = false ∧ j.verdict = .down
      ∧ j.timer = s.fibreJudge.timer ∧ j.srtt = s.fibreJudge.srtt ∧ j.table = s.fibreJudge.table
      ∧ j.linkHeld = s.fibreJudge.linkHeld := by
  cases hv : s.fibreJudge.verdict with
  | up =>
    obtain ⟨h, he⟩ := fibreJudge_hardFail_of_up hj hv
    rw [he]
    exact ⟨rfl, rfl, rfl, rfl, rfl, rfl, rfl, rfl, rfl, rfl, rfl⟩
  | down =>
    rw [hardFail_of_judged_down (b := .fibre) hj hv]
    exact ⟨rfl, rfl, rfl, rfl, rfl, rfl, hv, rfl, rfl, rfl, rfl⟩

/-! ## The commands -/

theorem exec_fibreLinkDown (hr : s.resetHeld = false) : exec .fibreLinkDown s = .next (finish false s (fibreLinkLost s)) := by
  simp [exec, execFibreLinkDown, run, runWith, hr]

theorem exec_fibreLinkUp (hr : s.resetHeld = false) :
    exec .fibreLinkUp s = .next (finish false s (s.setFibreLink true)) := by
  simp [exec, execFibreLinkUp, run, runWith, hr]

end

end Sys2Proof.Machine

open Sys2Proof.Machine in
/-- Settles O37: the port closes for the rest of the event, and the evidence falls on the judge as it then stands. -/
theorem fibreLinkChanges : Obligations.FibreLinkChanges := by
  intro s hr
  refine ⟨exec_fibreLinkUp hr, fun hdown => by rw [exec_fibreLinkDown hr, fibreLinkLost_of_down hdown], fun hup => ?_⟩
  intro j
  obtain ⟨hport, hjudge, hselector, hsession, hmay, hreceiver, hhome⟩ := fibreLinkCut_writes s
  set cut := fibreLinkCut s with hcut
  have hclosed : (hardFail .fibre cut).fibre = { s.fibre with linkUp := false } := by simp [hport]
  obtain ⟨hports, hsame, hidle⟩ := FibrePortRests.finish false s (s := hardFail .fibre cut) (by rw [hclosed])
  obtain ⟨hwaiting, hstream⟩ := hidle (fibreIdle_hardFail (fibreIdle_closePort _))
  have hkept : (finish false s (hardFail .fibre cut)).selector = (hardFail .fibre cut).selector := by simp
  have htimer : cut.fibreJudge.timer = j.timer := by rw [hjudge]
  refine ⟨finish false s (hardFail .fibre cut), by rw [exec_fibreLinkDown hr, fibreLinkLost_of_up hup], hports.trans hclosed,
    hwaiting, hstream, ?_, fun hj => ?_, fun hj hv => ?_, fun hv => ?_, by simp [hreceiver], by simp [hhome]⟩
  · rw [hsame]
    cases hj : j.timer with
    | none =>
      rw [hardFail_of_unjudged (b := .fibre) (htimer.trans hj), hjudge]
    | some moment =>
      obtain ⟨-, -, -, -, -, -, -, -, -, -, hlink⟩ := fibreJudge_hardFail (s := cut) (by rw [htimer, hj]; rfl)
      rw [hlink, hjudge]
  · obtain ⟨hgood, hbad, htally, hclean, hposition, hwindow, hverdict, hclock, hsrtt, htable, -⟩ :=
      fibreJudge_hardFail (s := cut) (by rw [htimer, hj])
    rw [hsame]
    exact ⟨hgood, hbad, htally, hclean, hposition, hwindow, hverdict, hclock.trans htimer, hsrtt.trans (by rw [hjudge]),
      htable.trans (by rw [hjudge])⟩
  · have hcutup : cut.fibreJudge.verdict = .up := by rw [hjudge]; exact hv
    have hcutjudged : cut.fibreJudge.timer.isSome = true := by rw [htimer, hj]
    obtain ⟨h, he⟩ := fibreJudge_hardFail_of_up hcutjudged hcutup
    have hfall := hardFail_of_up (b := .fibre) hcutjudged hcutup
    refine ⟨by rw [hsame, he, hjudge]; rfl, ?_, fun hs hh => ?_⟩
    · rw [hfall]
      exact FlagsStand.finish _ _ _ 2 (flag_fall .fibre _)
    · obtain ⟨htaken, hout⟩ := activeLeft_fall (b := .fibre) (s := cut.mapJudge .fibre Judge.hardFailed)
        (by simpa [hselector] using hs) (by simpa [State.judge, Judge.hardFailed, hjudge] using hh)
      have hsame : (cut.mapJudge .fibre Judge.hardFailed).mayTake .radio = s.mayTake .radio := hmay
      rw [← hfall] at htaken hout
      refine ⟨fun hother => ?_, fun hother => ?_⟩
      · rw [hkept]
        exact (htaken (hsame.trans hother)).1
      · rw [hkept]
        exact (hout (hsame.trans hother)).1
  · have hcutdown : (cut.judge .fibre).verdict = .down := by rw [State.judge, hjudge]; exact hv
    have hrest : (hardFail .fibre cut).fibreJudge.penalty = j.penalty ∧ (hardFail .fibre cut).selector = s.selector
        ∧ (hardFail .fibre cut).session = s.session := by
      obtain he | he := hardFail_of_down hcutdown <;> rw [he] <;> simp [hjudge, hselector, hsession, Judge.hardFailed, j]
    obtain ⟨hpenalty, hsel, hses⟩ := hrest
    rw [hsame]
    exact ⟨hpenalty, by simp [hsel], by simp [hses]⟩
end

section
/-! PROOFS. The start of an interval, its figures at the end, and a rise (R107, R109, R113 to R117, R120, R122, R141). -/

namespace Sys2Proof.Machine

section
variable {s t : State} {b c : Bearer}

/-! ## An interval starts (R107, R109, R113, R114) -/

/-- An interval is numbered and its evidence empty, before its PROBE falls due. -/
def intervalNumbered (b : Bearer) (start : Nat) (s : State) : State :=
  s.mapJudge b fun j => { j with
    count := j.count + 1
    answered := false
    linkHeld := s.portOpen b
    timer := some (start + j.settings.interval * 1000) }

theorem startInterval_eq (b : Bearer) (start : Nat) (together : Bool) (s : State) : startInterval b start together s =
    match b with
    | .fibre => probeDue .fibre together (intervalNumbered .fibre start s)
    | .radio => askSignal (probeDue .radio together (intervalNumbered .radio start s)) := by cases b <;> rfl

theorem startInterval_keeps (start : Nat) (together : Bool) :
    (startInterval b start together s).judge c = (probeDue b together (intervalNumbered b start s)).judge c
      ∧ (startInterval b start together s).waiting c = (probeDue b together (intervalNumbered b start s)).waiting c := by
  rw [startInterval_eq]
  cases b <;> cases c <;> simp [State.judge, State.waiting]

theorem portOpen_intervalNumbered (start : Nat) : (intervalNumbered b start s).portOpen c = s.portOpen c := by
  cases b <;> cases c <;> rfl

theorem portOpen_startInterval (start : Nat) (together : Bool) : (startInterval b start together s).portOpen c = s.portOpen c := by
  cases c <;> simp [State.portOpen]

/-- A PROBE that falls due takes the next tag (R109). -/
theorem judge_probeDue (together : Bool) : (probeDue b together s).judge b
    = { s.judge b with tag := if s.portOpen b then (s.judge b).tag + 1 else (s.judge b).tag } := by
  unfold probeDue
  dsimp only
  split
  · (repeat' split) <;> cases b <;> rfl
  · rfl

/-- Where the port is open a PROBE joins what waits, behind all of it or before an OPEN of the same event (R55, R109; log entry
23). -/
theorem waiting_probeDue (together : Bool) (h : s.portOpen b = true) :
    let w := WaitingFrame.probe (s.judge b).tag (probeEpoch s.session.epoch) (s.judge b).count
    (probeDue b together s).waiting b = fallDue w (s.waiting b)
      ∨ (probeDue b together s).waiting b = fallDueBeforeOpen w (s.waiting b) := by
  unfold probeDue
  rw [if_pos h]
  dsimp only
  split
  · split
    · exact .inr (waiting_setWaiting b _ _)
    · exact .inl (by cases b <;> rfl)
  · exact .inl (by cases b <;> rfl)

theorem probeDue_of_closed (together : Bool) (h : s.portOpen b = false) : probeDue b together s = s := by simp [probeDue, h]

theorem probe_waits (together : Bool) (h : s.portOpen b = true) :
    .probe (s.judge b).tag (probeEpoch s.session.epoch) (s.judge b).count ∈ (probeDue b together s).waiting b := by
  obtain hw | hw := waiting_probeDue together h <;> rw [hw]
  · simp [fallDue, WaitingFrame.isTally]
  · simp [fallDueBeforeOpen]

/-- An OPEN that waits goes on waiting when a PROBE falls due (R55, R56). -/
theorem opening_waits {e : BitVec 16} (together : Bool) (h : .opening e ∈ s.waiting b) :
    .opening e ∈ (probeDue b together s).waiting b := by
  cases hp : s.portOpen b with
  | false => rwa [probeDue_of_closed together hp]
  | true =>
    obtain hw | hw := waiting_probeDue together hp <;> rw [hw]
    · simp [fallDue, WaitingFrame.isTally, h, WaitingFrame.sameKind]
    · simp [fallDueBeforeOpen, h, WaitingFrame.sameKind, WaitingFrame.isOpen]

/-- The judge at the start of an interval (R107, R109, R113). -/
theorem judge_startInterval (start : Nat) (together : Bool) : (startInterval b start together s).judge b = { s.judge b with
    count := (s.judge b).count + 1
    answered := false
    linkHeld := s.portOpen b
    timer := some (start + (s.judge b).settings.interval * 1000)
    tag := if s.portOpen b then (s.judge b).tag + 1 else (s.judge b).tag } := by
  rw [(startInterval_keeps start together).1, judge_probeDue, portOpen_intervalNumbered]
  cases b <;> rfl

theorem frameDue_probe_startInterval (start : Nat) (together : Bool) (h : s.portOpen b = true) :
    FrameDue b (.probe (s.judge b).tag (probeEpoch s.session.epoch) ((s.judge b).count + 1))
      (startInterval b start together s) := by
  refine .inl ?_
  rw [(startInterval_keeps start together).2]
  have hwaits := probe_waits (s := intervalNumbered b start s) together ((portOpen_intervalNumbered start).trans h)
  cases b <;> exact hwaits

theorem frameDue_opening_startInterval {e : BitVec 16} (start : Nat) (together : Bool) (h : .opening e ∈ s.waiting b) :
    FrameDue b (.opening e) (startInterval b start together s) := by
  refine .inl ?_
  rw [(startInterval_keeps start together).2]
  exact opening_waits together (by cases b <;> exact h)

/-- A radio interval asks a READY module for its level (R114, R167). -/
theorem outstanding_startInterval (start : Nat) (together : Bool) (hs : s.radio.status = .ready) (ho : s.radio.outstanding = none) :
    (startInterval .radio start together s).radio.outstanding = some ⟨.signal, s.clock + 2000000⟩ := by
  simp [startInterval_eq, intervalNumbered, askSignal, hs, ho, Config.responseMicros]

/-! ## An interval ends (R113 to R117, R122) -/

/-- The mark of a radio interval (R114, R115). -/
theorem intervalGood_radio (j : Judge) : j.intervalGood .radio = (j.answered && j.reading.any fun r =>
    decide (j.count ≤ r.interval + 3) && decide (j.settings.floor ≤ r.level)) := by
  unfold Judge.intervalGood Judge.signalOk Judge.usableReading
  cases hreading : j.reading with
  | none => rfl
  | some r =>
    by_cases hfresh : j.count ≤ r.interval + 3 <;> simp [hfresh]

/-- The figures of a judge after an interval is counted and its window moved on (R116, R122). -/
theorem counted_windowed (good : Bool) (j : Judge) : (j.counted good).windowed =
    let tally := if good = false ∧ j.noWindow = false then j.tally + 1 else j.tally
    let closes : Prop := j.noWindow = false ∧ (j.position + 1) % j.settings.window = 0
    { j with
      goodRun := if good then min (j.goodRun + 1) 65535 else 0
      badRun := if good then 0 else min (j.badRun + 1) 65535
      tally := if closes then 0 else tally
      position := if j.noWindow then j.position else j.position + 1
      noWindow := false
      cleanRun := if closes then (if tally ≤ j.settings.tolerance then min (j.cleanRun + 1) 255 else 0) else j.cleanRun } := by
  unfold Judge.windowed
  cases hwindow : j.noWindow <;> cases good <;> by_cases hmod : (j.position + 1) % j.settings.window = 0 <;>
    simp [Judge.counted, hwindow, hmod]

theorem rises_iff (j : Judge) : j.rises = true ↔
    (0 < j.settings.riseWindows ∧ j.settings.riseWindows ≤ j.cleanRun)
      ∨ (j.settings.riseWindows = 0 ∧ j.settings.riseRun ≤ j.goodRun) := by
  unfold Judge.rises
  split
  · next h => simp [h]
  · next h => simp [h, Nat.pos_of_ne_zero h]

theorem exec_intervalEnd (hr : s.resetHeld = false) (b : Bearer) :
    exec (.intervalEnd b) s = .next (finish false s (endInterval b s)) := by
  simp [exec, execIntervalEnd, run, runWith, hr]

/-- The interval that ends is counted, at its end or past it, before the verdict is tested. -/
def intervalCounted (b : Bearer) (moment : Nat) (s : State) : State :=
  (s.advanceTo moment).mapJudge b (fun j => (j.counted ((s.judge b).intervalGood b)).windowed)

theorem intervalCounted_writes (b : Bearer) (moment : Nat) (s : State) :
    (intervalCounted b moment s).judge b = ((s.judge b).counted ((s.judge b).intervalGood b)).windowed
      ∧ (intervalCounted b moment s).judge b.other = s.judge b.other
      ∧ (intervalCounted b moment s).clock = max s.clock moment
      ∧ (intervalCounted b moment s).selector = s.selector ∧ (intervalCounted b moment s).session = s.session
      ∧ (intervalCounted b moment s).receiver = s.receiver ∧ (intervalCounted b moment s).home = s.home
      ∧ (intervalCounted b moment s).radio = s.radio ∧ (intervalCounted b moment s).fibre = s.fibre := by
  cases b <;> exact ⟨rfl, rfl, rfl, rfl, rfl, rfl, rfl, rfl, rfl⟩

theorem endInterval_of_running {moment : Nat} (h : (s.judge b).timer = some moment) : endInterval b s =
    let tested := verdictTest b (intervalCounted b moment s)
    if tested.judged b then startInterval b moment (openFellDue b s tested) tested else tested := by
  simp only [endInterval, h]
  rfl

theorem lawful_intervalCounted (h : Lawful s) (b : Bearer) (moment : Nat) : Lawful (intervalCounted b moment s) :=
  h.congr ((lawView_mapJudge b _ (lawView_counted_windowed _)).trans (lawView_advanceTo moment s))

theorem verdictTest_of_down_rises (hv : (s.judge b).verdict = .down) (h : (s.judge b).rises = true) :
    verdictTest b s = rise b s := by simp only [verdictTest, hv, h, if_true]

theorem verdictTest_of_down (hv : (s.judge b).verdict = .down) (h : (s.judge b).rises = false) : verdictTest b s = s := by
  simp only [verdictTest, hv, h, Bool.false_eq_true, if_false]

theorem verdictTest_of_up_falls (hv : (s.judge b).verdict = .up) (h : (s.judge b).settings.fallRun ≤ (s.judge b).badRun) :
    verdictTest b s = fall b (s.mapJudge b (fun k => { k with goodRun := 0, cleanRun := 0 })) := by
  simp only [verdictTest, hv, if_pos h]

theorem verdictTest_of_up (hv : (s.judge b).verdict = .up) (h : (s.judge b).badRun < (s.judge b).settings.fallRun) :
    verdictTest b s = s := by
  simp only [verdictTest, hv, if_neg (Nat.not_le.2 h)]

/-! ## A rise (R117, R120, R141) -/

/-- The rise at the judge, before its eligibility is worked out. -/
def roseUp (b : Bearer) (s : State) : State := report (upFlag b) (s.mapJudge b (fun j => { j with verdict := .up }))

theorem rise_eq (b : Bearer) (s : State) : rise b s = rework b (roseUp b s) := rfl

theorem judge_roseUp (b : Bearer) (s : State) :
    (roseUp b s).judge b = { s.judge b with verdict := .up } ∧ (roseUp b s).judge b.other = s.judge b.other := by
  cases b <;> simp [roseUp, State.judge, Bearer.other]

theorem roseUp_keeps (b : Bearer) (s : State) :
    (roseUp b s).selector = s.selector ∧ (roseUp b s).session = s.session ∧ (roseUp b s).clock = s.clock := by simp [roseUp]

theorem flag_rise (b : Bearer) (s : State) : (rise b s).events.flags.getLsbD (upFlag b).number = true :=
  FlagsStand.rework b _ _ (flag_report (upFlag b) _)

/-- The selector takes a bearer that has become eligible only from OUTAGE, and otherwise works out the return hold at most (R141,
R145). -/
theorem onEligibility_of_gained (he : s.eligible b = true) :
    onEligibility b s = s
      ∨ (s.selector.status = .outage ∧ s.mayTake b = true ∧ onEligibility b s = forceTo none b s)
      ∨ (b = .fibre ∧ onEligibility b s = updateHold s) := by
  unfold onEligibility
  split
  · exact .inl rfl
  · next hs =>
    split
    · next hm => exact .inr (.inl ⟨hs, hm, rfl⟩)
    · exact .inl rfl
  · next c hs =>
    obtain rfl | rfl := eq_or_eq_other b c
    · rw [if_pos rfl, if_pos he]
      exact .inl rfl
    · rw [if_neg (other_ne b)]
      split
      · next hradio => exact .inr (.inr ⟨by cases b <;> simp_all [Bearer.other], rfl⟩)
      · exact .inl rfl
  · rw [if_pos he]
    exact .inl rfl

/-- In OUTAGE under AUTO the fibre is not eligible, so a bearer that is taken there starts no return hold (R141, R145). -/
theorem holdWanted_makeActive_of_outage (h : Lawful s) (hs : s.selector.status = .outage) (hj : ∀ c, c ≠ b → t.judge c = s.judge c)
    (hp : t.selector = s.selector) : holdWanted (makeActive b true t) = false := by
  cases b with
  | fibre => simp [holdWanted]
  | radio =>
    by_cases hauto : s.selector.pin = .auto
    · have hbarred := h.placed.outage hs .fibre
      have hsame : t.eligible .fibre = s.eligible .fibre := by simp only [State.eligible, hj .fibre (by simp), hp]
      have hnot : t.eligible .fibre = false := by simpa [hsame, State.mayTake, PinValue.permits, hauto] using hbarred
      simp [holdWanted, hnot]
    · simp [holdWanted, hp, hauto]

end

end Sys2Proof.Machine
end

section
/-! PROOFS. A judged bearer's interval from its end to the next one's start (R107, R113 to R117, R120, R125, R141). -/

namespace Sys2Proof.Machine

section
variable {s t u : State} {b : Bearer}

/-! ## The judge of a bearer that rises (R117, R120) -/

theorem judge_noted (b : Bearer) (s : State) : (noted b s).judge b = { s.judge b with handed := s.eligible b } := by
  cases b <;> rfl

theorem judge_noted_of_ne {c : Bearer} (h : c ≠ b) : (noted b s).judge c = s.judge c := by
  obtain rfl | rfl := eq_or_eq_other b c
  · exact absurd rfl h
  · exact (noted_writes b s).2

/-- In OUTAGE a risen bearer that is taken starts no return hold (R141, R145). -/
theorem holdWanted_makeActive_of_risen (h : Lawful s) (hs : s.selector.status = .outage) :
    holdWanted (makeActive b (none : Option Bearer).isNone (noted b (roseUp b s))) = false := by
  refine holdWanted_makeActive_of_outage h hs (fun c hc => ?_) ?_
  · rw [judge_noted_of_ne hc]
    obtain rfl | rfl := eq_or_eq_other b c
    · exact absurd rfl hc
    · exact (judge_roseUp b s).2
  · rw [noted_selector]
    exact (roseUp_keeps b s).1

/-- A forced change to a bearer leaves its judge but for the eligibility noted: the level is then no reason to release the module
(R155). -/
theorem judge_forceTo {source : Option Bearer} (h : holdWanted (makeActive b source.isNone s) = false) :
    ∃ e, (forceTo source b s).judge b = { s.judge b with handed := e } := by
  have hmade : ∀ sel, ({ makeActive b source.isNone s with selector := sel } : State).judge b = s.judge b := fun sel => by
    cases b <;> simp [State.judge]
  rw [forceTo_of_no_hold h]
  obtain ⟨e, hkept⟩ | ⟨hnone, rfl, -⟩ := judge_handWanted b { makeActive b source.isNone s with
    selector := { (makeActive b source.isNone s).selector with
      record := some ⟨source, b, .forced, s.ms, some .done⟩, holdTimer := none } }
  · exact ⟨e, by rw [hkept, hmade]⟩
  · simp [wantedLevel] at hnone

/-- A rise leaves its judge UP and otherwise as it was, but for the eligibility noted (R117). -/
theorem judge_rise (h : Lawful s) (hv : (s.judge b).verdict = .down) :
    ∃ e, (rise b s).judge b = { s.judge b with verdict := .up, handed := e } := by
  have hrose := (judge_roseUp b s).1
  rw [rise_eq, rework_eq]
  split
  · exact ⟨_, hrose⟩
  · next hchanged =>
    have htold : ((roseUp b s).judge b).handed = false := by
      rw [hrose]
      exact (h.placed.handed b).trans (eligible_of_down hv)
    have hgained : (roseUp b s).eligible b = true := by simpa [htold] using hchanged
    have hnoted : (noted b (roseUp b s)).judge b = { s.judge b with verdict := .up, handed := true } := by
      rw [judge_noted, hrose, hgained]
    have hfree : (noted b (roseUp b s)).eligible b = true := (eligible_noted b b _).trans hgained
    obtain he | ⟨hout, -, he⟩ | ⟨rfl, he⟩ := onEligibility_of_gained hfree <;> rw [he]
    · exact ⟨_, hnoted⟩
    · have hs : s.selector.status = .outage := by rwa [noted_selector, (roseUp_keeps b s).1] at hout
      obtain ⟨e, hkept⟩ := judge_forceTo (holdWanted_makeActive_of_risen (b := b) h hs)
      exact ⟨e, by rw [hkept, hnoted]⟩
    · exact ⟨true, (updateHold_fibreJudge _).trans hnoted⟩

/-! ## A rise in OUTAGE (R14, R15, R140, R141) -/

/-- An eligible bearer that the pin permits is taken by its rise. -/
theorem rise_of_outage (h : Lawful s) (hv : (s.judge b).verdict = .down) (hs : s.selector.status = .outage)
    (hp : s.selector.pin.permits b = true)
    (hfree : (s.judge b).suppressed = false ∨ (b = .fibre ∧ s.selector.pin = .only .fibre)) :
    rise b s = forceTo none b (noted b (roseUp b s)) := by
  obtain ⟨hsel, -⟩ := roseUp_keeps b s
  have hrose := (judge_roseUp b s).1
  have hgained : (roseUp b s).eligible b = true := by
    rw [State.eligible, hrose, hsel]
    obtain hfree | ⟨hb, hpin⟩ := hfree
    · simp [hfree]
    · simp [hb, hpin]
  have hchanged : (roseUp b s).eligible b ≠ ((roseUp b s).judge b).handed := by
    have htold : (s.judge b).handed = false := (h.placed.handed b).trans (eligible_of_down hv)
    rw [hgained, hrose]
    simp [htold]
  have hmay : (noted b (roseUp b s)).mayTake b = true := by
    rw [mayTake_noted, State.mayTake, hgained, hsel, hp]
    rfl
  have hout : (noted b (roseUp b s)).selector.status = .outage := by rw [noted_selector, hsel, hs]
  rw [rise_eq, rework_eq, if_neg hchanged, onEligibility]
  simp only [hout, if_pos hmay]

/-- A change from none reports OUTAGE_END, which is flag 9 (R140; log entry 10). -/
theorem flag_makeActive_of_none (b : Bearer) (s : State) : (makeActive b true s).events.flags.getLsbD 9 = true :=
  FlagsStand.report .handover _ 9 (flag_report .outageEnd _)

/-- The session of a change to a bearer outside OPEN: it opens, or its OPEN is sent again (R14, R15). -/
theorem session_makeActive (n : Bool) :
    (s.session.status = .closed → (makeActive b n s).session = ⟨.opening, nextEpoch s.session.epoch, some (s.clock + 1000000)⟩)
      ∧ (s.session.status = .opening → (makeActive b n s).session = ⟨.opening, s.session.epoch, some (s.clock + 1000000)⟩) := by
  refine ⟨fun hc => ?_, fun ho => ?_⟩
  · simp [makeActive, sessionOn, hc, sendOpen_eq, enterOpening]
  · simp [makeActive, sessionOn, ho, sendOpen_eq]

/-- A change to a bearer outside OPEN sends OPEN there (R14, R15). -/
theorem openSent_makeActive_of_unopened (h : s.session.status ≠ .opened) (n : Bool) : OpenSent (makeActive b n s) := by
  cases hs : s.session.status with
  | closed =>
    set entered : State := { s with selector := { s.selector with status := .on b }, pause := { s.pause with selector := false } }
      with hentered
    have hmade : makeActive b n s = report .handover (reportIf n .outageEnd (sendOpen b (enterOpening (endActive entered)))) := by
      simp [makeActive, sessionOn, hs, hentered]
    have hactive : (enterOpening (endActive entered)).active = some b := by
      simp [State.active, enterOpening, hentered, SelectorStatus.active]
    rw [hmade]
    exact ((openSent_sendOpen hactive).reportIf _ _).report _
  | opening => exact openSent_makeActive hs n
  | opened => exact absurd hs h

/-- A forced change outside OPEN has its OPEN on the way when the level is handed over. -/
theorem openSent_forceTo {source : Option Bearer} (hs : s.session.status ≠ .opened)
    (hh : holdWanted (makeActive b source.isNone s) = false) : OpenSent (forceTo source b s) := by
  have hmade : OpenSent (makeActive b source.isNone s) := openSent_makeActive_of_unopened hs _
  rw [forceTo_of_no_hold hh]
  exact OpenSent.handWanted (hmade.of_fields rfl rfl rfl fun a _ => by cases a <;> rfl)

theorem TakenFromOutage.after (h : TakenFromOutage b u) (hs : t.selector = u.selector) (hp : t.pause.selector = u.pause.selector)
    (hc : t.clock = u.clock) (hf : FlagsStand u t) : TakenFromOutage b t := by
  obtain ⟨hon, hpause, hrecord, h7, h9⟩ := h
  have hms : t.ms = u.ms := by simp [State.ms, hc]
  exact ⟨hs ▸ hon, hp.trans hpause, by rw [hs, hms, hrecord], hf 7 h7, hf 9 h9⟩

theorem ActiveLeft.after (h : ActiveLeft b s u) (hs : t.selector = u.selector) (hc : t.clock = u.clock) (hf : FlagsStand u t) :
    ActiveLeft b s t := by
  obtain ⟨htaken, hout⟩ := h
  have hms : t.ms = u.ms := by simp [State.ms, hc]
  refine ⟨fun hm => ?_, fun hm => ?_⟩
  · obtain ⟨hon, h7, hrecord⟩ := htaken hm
    exact ⟨hs ▸ hon, hf 7 h7, by rw [hs, hms, hrecord]⟩
  · obtain ⟨hout, h8⟩ := hout hm
    exact ⟨hs ▸ hout, hf 8 h8⟩

/-- A rise in OUTAGE takes its bearer, and outside OPEN sends OPEN there (R14, R15, R140, R141). -/
theorem rise_takes (h : Lawful s) (hv : (s.judge b).verdict = .down) (hs : s.selector.status = .outage)
    (hp : s.selector.pin.permits b = true)
    (hfree : (s.judge b).suppressed = false ∨ (b = .fibre ∧ s.selector.pin = .only .fibre)) :
    TakenFromOutage b (rise b s)
      ∧ (s.session.status = .closed → (rise b s).session = ⟨.opening, nextEpoch s.session.epoch, some (s.clock + 1000000)⟩)
      ∧ (s.session.status = .opening → (rise b s).session = ⟨.opening, s.session.epoch, some (s.clock + 1000000)⟩)
      ∧ (s.session.status ≠ .opened → .opening (rise b s).session.epoch ∈ (rise b s).waiting b) := by
  have hhold := holdWanted_makeActive_of_risen (b := b) h hs
  have hsession : (noted b (roseUp b s)).session = s.session := by simp [noted, (roseUp_keeps b s).2.1]
  have hclock : (noted b (roseUp b s)).clock = s.clock := by simp [noted, (roseUp_keeps b s).2.2]
  obtain ⟨hon, hpause, hrecord, h7, hopened⟩ := forceTo_takes hhold
  obtain ⟨hclosed, hopening⟩ := session_makeActive (s := noted b (roseUp b s)) (b := b) (none : Option Bearer).isNone
  rw [hsession, hclock] at hclosed hopening
  rw [rise_of_outage h hv hs hp hfree]
  refine ⟨⟨hon, hpause, hrecord, h7, ?_⟩, fun hc => hopened.trans (hclosed hc), fun ho => hopened.trans (hopening ho), fun hn => ?_⟩
  · exact FlagsStand.after (.handWanted _) (.after (.updateHold _) (.of_eq rfl)) 9 (flag_makeActive_of_none b _)
  · exact (openSent_forceTo (by rwa [hsession]) hhold).waits b (by rw [State.active, hon]; rfl)

/-! ## The next interval and the end of the event (R107, R109) -/

/-- The next interval starts where the bearer is still judged. -/
def nextInterval (b : Bearer) (moment : Nat) (together : Bool) (u : State) : State :=
  if u.judged b then startInterval b moment together u else u

/-- What the next interval and the end of the event leave as the verdict test left it. -/
theorem finish_nextInterval_keeps (b : Bearer) (moment : Nat) (together : Bool) (s u : State) :
    let t := finish false s (nextInterval b moment together u)
    t.clock = u.clock ∧ t.selector = u.selector ∧ t.session = u.session ∧ t.receiver = u.receiver ∧ t.home = u.home
      ∧ t.pause.selector = u.pause.selector ∧ t.portOpen b = u.portOpen b ∧ FlagsStand u t := by
  have hport : ∀ x : State, (finish false s x).portOpen b = x.portOpen b := fun x => by cases b <;> simp [State.portOpen]
  unfold nextInterval
  split
  · exact ⟨by simp, by simp, by simp, by simp, by simp, by simp, (hport _).trans (portOpen_startInterval _ _),
      .after (.finish _ _ _) (.of_eq (by simp))⟩
  · exact ⟨by simp, by simp, by simp, by simp, by simp, by simp, hport _, .finish _ _ _⟩

/-- The next interval leaves the verdict, the penalty and the runs of its judge (R107). -/
theorem judge_finish_nextInterval (b : Bearer) (moment : Nat) (together : Bool) (s u : State) :
    let k := (finish false s (nextInterval b moment together u)).judge b
    let j := u.judge b
    k.verdict = j.verdict ∧ k.penalty = j.penalty ∧ k.suppressed = j.suppressed ∧ k.goodRun = j.goodRun
      ∧ k.cleanRun = j.cleanRun := by
  obtain ⟨q, hq⟩ := judge_finish false s (nextInterval b moment together u) b
  rw [hq]
  unfold nextInterval
  split
  · rw [judge_startInterval]
    exact ⟨rfl, rfl, rfl, rfl, rfl⟩
  · exact ⟨rfl, rfl, rfl, rfl, rfl⟩

/-- The PROBE of the next interval is due where the port is open (R109). -/
theorem probe_of_nextInterval {moment : Nat} {together : Bool} (hj : u.judged b = true) (hp : u.portOpen b = true) :
    let t := finish false s (nextInterval b moment together u)
    (t.judge b).tag = (u.judge b).tag + 1 ∧ ProbeDueOn b (u.judge b).tag ((u.judge b).count + 1) t := by
  have hnext : nextInterval b moment together u = startInterval b moment together u := if_pos hj
  have hdue := (frameDue_probe_startInterval moment together hp).finish rfl false s
  obtain ⟨q, hq⟩ := judge_finish false s (startInterval b moment together u) b
  rw [hnext]
  refine ⟨?_, FrameDue.probeDueOn (by simpa using hdue)⟩
  rw [hq, judge_startInterval, hp]
  rfl

theorem open_of_nextInterval {moment : Nat} {together : Bool} (h : .opening u.session.epoch ∈ u.waiting b) :
    OpenDueOn b (finish false s (nextInterval b moment together u)) := by
  refine FrameDue.openDueOn ?_
  obtain ⟨-, -, hsession, -⟩ := finish_nextInterval_keeps b moment together s u
  rw [hsession]
  refine FrameDue.finish rfl ?_ false s
  unfold nextInterval
  split
  · exact frameDue_opening_startInterval _ _ h
  · exact .inl h

/-! ## The event's end after a rise, and after a fall -/

/-- The command's end after a rise of a lawful state's judged bearer (R117, R120, R141). -/
theorem rise_and_next (h : Lawful u) (hj : u.judged b = true) (hv : (u.judge b).verdict = .down) (moment : Nat)
    (together : Bool) (s : State) :
    let t := finish false s (nextInterval b moment together (rise b u))
    t.clock = u.clock ∧ (t.judge b).verdict = .up ∧ (t.judge b).penalty = (u.judge b).penalty
      ∧ t.events.flags.getLsbD (upFlag b).number = true
      ∧ (u.selector.status = .outage → u.selector.pin.permits b = true →
        (u.judge b).suppressed = false ∨ (b = .fibre ∧ u.selector.pin = .only .fibre) →
        TakenFromOutage b t
          ∧ (u.session.status = .closed → t.session = ⟨.opening, nextEpoch u.session.epoch, some (u.clock + 1000000)⟩)
          ∧ (u.session.status = .opening → t.session = ⟨.opening, u.session.epoch, some (u.clock + 1000000)⟩)
          ∧ (u.session.status ≠ .opened → OpenDueOn b t))
      ∧ (t.portOpen b = true → (t.judge b).tag = (u.judge b).tag + 1 ∧ ProbeDueOn b (u.judge b).tag ((u.judge b).count + 1) t)
      ∧ t.receiver.e = u.receiver.e ∧ t.home = u.home := by
  intro t
  obtain ⟨e, hrisen⟩ := judge_rise h hv
  obtain ⟨hclock, hselector, hsession, hreceiver, hhome, hpause, hport, hflags⟩ :=
    finish_nextInterval_keeps b moment together s (rise b u)
  obtain ⟨hverdict, hpenalty, -⟩ := judge_finish_nextInterval b moment together s (rise b u)
  refine ⟨hclock.trans (by simp), hverdict.trans (by rw [hrisen]), hpenalty.trans (by rw [hrisen]), hflags _ (flag_rise b u),
    fun hs hp hfree => ?_, fun hopen => ?_, (congrArg Receiver.e hreceiver).trans (by simp), hhome.trans (by simp)⟩
  · obtain ⟨htaken, hclosed, hopening, hsent⟩ := rise_takes h hv hs hp hfree
    exact ⟨htaken.after hselector hpause hclock hflags, fun hc => hsession.trans (hclosed hc),
      fun ho => hsession.trans (hopening ho), fun hn => open_of_nextInterval (hsent hn)⟩
  · have hjudged : (rise b u).judged b = true := by rw [State.judged, hrisen]; exact hj
    have hprobe := probe_of_nextInterval (s := s) (moment := moment) (together := together) hjudged (hport.symm.trans hopen)
    rw [hrisen] at hprobe
    exact hprobe

/-- The command's end after a fall of a judged bearer; where the fall releases the module its port is closed and no interval
starts (R117, R120, R125, R142, R143). -/
theorem fall_and_next (hj : u.judged b = true) (moment : Nat) (together : Bool) (s : State) :
    let t := finish false s (nextInterval b moment together (fall b u))
    let j := (u.judge b).fallen
    t.clock = u.clock ∧ (t.judge b).verdict = .down ∧ (t.judge b).penalty = j.penalty ∧ (t.judge b).suppressed = j.suppressed
      ∧ ((u.judge b).goodRun = 0 → (t.judge b).goodRun = 0) ∧ ((u.judge b).cleanRun = 0 → (t.judge b).cleanRun = 0)
      ∧ t.events.flags.getLsbD (downFlag b).number = true
      ∧ (u.selector.status = .on b → (u.judge b).handed = true → ActiveLeft b u t)
      ∧ (t.portOpen b = true → (t.judge b).tag = (u.judge b).tag + 1 ∧ ProbeDueOn b (u.judge b).tag ((u.judge b).count + 1) t)
      ∧ t.receiver.e = u.receiver.e ∧ t.home = u.home := by
  intro t j
  obtain ⟨hclock, hselector, -, hreceiver, hhome, -, hport, hflags⟩ := finish_nextInterval_keeps b moment together s (fall b u)
  obtain ⟨hverdict, hpenalty, hsuppressed, hgoodRun, hcleanRun⟩ := judge_finish_nextInterval b moment together s (fall b u)
  have hfell : ((fall b u).judge b).verdict = .down ∧ ((fall b u).judge b).penalty = j.penalty
      ∧ ((fall b u).judge b).suppressed = j.suppressed
      ∧ ((u.judge b).goodRun = 0 → ((fall b u).judge b).goodRun = 0)
      ∧ ((u.judge b).cleanRun = 0 → ((fall b u).judge b).cleanRun = 0) := by
    obtain ⟨e, he⟩ | ⟨-, -, e, he⟩ := judge_fall b u <;> rw [he]
    · exact ⟨rfl, rfl, rfl, id, id⟩
    · exact ⟨rfl, rfl, rfl, fun _ => rfl, fun _ => rfl⟩
  obtain ⟨hdown, hstep, hset, hgood, hclean⟩ := hfell
  refine ⟨hclock.trans (by simp), hverdict.trans hdown, hpenalty.trans hstep, hsuppressed.trans hset,
    fun h => hgoodRun.trans (hgood h), fun h => hcleanRun.trans (hclean h), hflags _ (flag_fall b u),
    fun hs hh => (activeLeft_fall hs hh).after hselector hclock hflags, fun hopen => ?_,
    (congrArg Receiver.e hreceiver).trans (by simp), hhome.trans (by simp)⟩
  obtain ⟨e, he⟩ | ⟨-, hclosed, -⟩ := judge_fall b u
  · have hjudged : (fall b u).judged b = true := by rw [State.judged, he]; exact hj
    have hprobe := probe_of_nextInterval (s := s) (moment := moment) (together := together) hjudged (hport.symm.trans hopen)
    rw [he] at hprobe
    exact hprobe
  · rw [show t.portOpen b = false from hport.trans hclosed] at hopen
    cases hopen

end

end Sys2Proof.Machine

open Sys2Proof.Machine in
/-- Settles O35: the verdict is tested on the figures of the interval that ends, and the next interval starts after it. -/
theorem intervalEndCountsAndTests : Obligations.IntervalEndCountsAndTests := by
  intro s b moment hr
  refine ⟨fun h => by rw [exec_intervalEnd hr]; simp only [endInterval, h], fun h => ?_⟩
  intro j good goodRun badRun tally closes cleanRun rises penalty
  obtain ⟨hcounted, hother, hclock, hselector, hsession, hreceiver, hhome, hradio, hfibre⟩ := intervalCounted_writes b moment s
  set counted := intervalCounted b moment s with hdef
  have hgood : j.intervalGood b = good := by
    cases b with
    | fibre => rfl
    | radio => exact intervalGood_radio j
  have hfigures : counted.judge b = { j with
      goodRun := goodRun
      badRun := badRun
      tally := if closes then 0 else tally
      position := if j.noWindow then j.position else j.position + 1
      noWindow := false
      cleanRun := cleanRun } := by rw [hcounted, hgood, counted_windowed]
  have hrises : (counted.judge b).rises = true ↔ rises := by
    rw [hfigures]
    exact rises_iff _
  have hjudged : (counted.judge b).timer.isSome = true := by rw [hfigures, show j.timer = some moment from h]; rfl
  have hport : counted.portOpen b = s.portOpen b := by cases b <;> simp only [State.portOpen, hradio, hfibre]
  have hends := endInterval_of_running h
  change endInterval b s = nextInterval b moment (openFellDue b s (verdictTest b counted)) (verdictTest b counted) at hends
  generalize openFellDue b s (verdictTest b counted) = together at hends
  refine ⟨fun hstays => ?_, fun hlawful hdown hrise => ?_, fun hup hfalls => ?_⟩
  · have htest : verdictTest b counted = counted := by
      obtain ⟨hv, hnot⟩ | ⟨hv, hnot⟩ := hstays
      · exact verdictTest_of_down (by rw [hfigures]; exact hv) (by rwa [← Bool.not_eq_true, hrises])
      · exact verdictTest_of_up (by rw [hfigures]; exact hv) (by rw [hfigures]; exact hnot)
    have hnext : nextInterval b moment together counted = startInterval b moment together counted := if_pos hjudged
    obtain ⟨hclk, hsel, hses, hrec, hhom, -⟩ := finish_nextInterval_keeps b moment together s counted
    refine ⟨finish false s (nextInterval b moment together counted), by rw [exec_intervalEnd hr, hends, htest],
      hclk.trans hclock, ?_, fun hopen => ?_, ?_, hsel.trans hselector, hses.trans hsession, hrec.trans hreceiver,
      hhom.trans hhome⟩
    · obtain ⟨q, hq⟩ := judge_finish false s (startInterval b moment together counted) b
      rw [hnext, hq, judge_startInterval, hport, hfigures]
    · have hprobe := probe_of_nextInterval (s := s) (moment := moment) (together := together) hjudged (hport.trans hopen)
      rw [hfigures] at hprobe
      exact hprobe.2
    · rintro rfl hready hnone
      have hasked := outstanding_startInterval moment together ((congrArg Radio.status hradio).trans hready)
        ((congrArg Radio.outstanding hradio).trans hnone)
      rw [hclock] at hasked
      simpa [hnext] using hasked
  · have hv : (counted.judge b).verdict = .down := by rw [hfigures]; exact hdown
    have htest : verdictTest b counted = rise b counted := verdictTest_of_down_rises hv (hrises.2 hrise)
    have hend := rise_and_next (lawful_intervalCounted hlawful b moment) hjudged hv moment together s
    rw [← hdef, hfigures, hclock, hselector, hsession, hreceiver, hhome] at hend
    obtain ⟨hclk, hup, hpenalty, hflag, htaken, hprobe, hrest⟩ := hend
    refine ⟨_, by rw [exec_intervalEnd hr, hends, htest], hclk, hup, hpenalty, ?_, htaken, hprobe, hrest⟩
    cases b <;> exact hflag
  · set zeroed := counted.mapJudge b (fun k => { k with goodRun := 0, cleanRun := 0 }) with hzeroed
    have htest : verdictTest b counted = fall b zeroed :=
      verdictTest_of_up_falls (by rw [hfigures]; exact hup) (by rw [hfigures]; exact hfalls)
    have hzero : zeroed.judge b = { counted.judge b with goodRun := 0, cleanRun := 0 } := by cases b <;> rfl
    have hkeeps : zeroed.clock = counted.clock ∧ zeroed.selector = counted.selector ∧ zeroed.receiver = counted.receiver
        ∧ zeroed.home = counted.home ∧ zeroed.judge b.other = counted.judge b.other := by
      cases b <;> exact ⟨rfl, rfl, rfl, rfl, rfl⟩
    obtain ⟨hzclock, hzselector, hzreceiver, hzhome, hzother⟩ := hkeeps
    have hmay : zeroed.mayTake b.other = s.mayTake b.other := by
      simp only [State.mayTake, State.eligible, hzother, hother, hzselector, hselector]
    have hend := fall_and_next (u := zeroed) (b := b) (by rw [State.judged, hzero]; exact hjudged) moment together s
    rw [hzclock, hclock, hzselector, hselector, hzreceiver, hreceiver, hzhome, hhome, hzero, hfigures] at hend
    obtain ⟨hclk, hdown, hpenalty, hset, hgoodRun, hcleanRun, hflag, hleft, hprobe, hrest⟩ := hend
    refine ⟨_, by rw [exec_intervalEnd hr, hends, htest], hclk, hdown, hpenalty, hset, hgoodRun rfl, hcleanRun rfl, ?_,
      fun hs hh => ?_, hprobe, hrest⟩
    · cases b <;> exact hflag
    · have hgone := hleft hs hh
      rwa [ActiveLeft, hmay] at hgone
end

section
/-! PROOFS. The lengths that the round-trip time and the pace rate give (R133 to R135). -/

namespace Sys2Proof.Machine

/-- The pacing gap at the pace rate spans the unit's bits, and no shorter gap does (R135). -/
theorem pacingGap_mul_bounds {rate : Nat} (bytes : Nat) (h : 1 ≤ rate) :
    bytes * 8000 ≤ pacingGap bytes rate * rate ∧ pacingGap bytes rate * rate < bytes * 8000 + rate := by
  have hdiv : pacingGap bytes rate * rate + (bytes * 8000 + rate - 1) % rate = bytes * 8000 + rate - 1 := Nat.div_add_mod' _ _
  have hmod : (bytes * 8000 + rate - 1) % rate < rate := Nat.mod_lt _ h
  omega

end Sys2Proof.Machine

open Sys2Proof.Machine in
/-- Settles O33: the first two lengths stand as R133 and R134 give them, and the third is a quotient rounded up. -/
theorem derivedLengths : Obligations.DerivedLengths := fun _ _ bytes _ =>
  ⟨rfl, rfl, rfl, rfl, pacingGap_mul_bounds bytes⟩
end

section
/-! PROOFS. A bearer's suppression that turns, at its judge and at the path selector (R121, R128, R141 to R143, R145). -/

namespace Sys2Proof.Machine

section
variable {s y : State} {b : Bearer} {v : Bool}

/-! ## Suppression at the judge (R128) -/

/-- The suppression state is set at one judge, and nothing else of the judges is written. -/
theorem judge_setSuppressed (b : Bearer) (v : Bool) (s : State) :
    (setSuppressed b v s).judge b = { s.judge b with suppressed := v }
      ∧ (setSuppressed b v s).judge b.other = s.judge b.other := by
  cases b <;> simp [setSuppressed, State.judge, Bearer.other]

/-- The fibre's suppression is reported by flag 5 and its release by flag 6 (R128). -/
theorem flag_setSuppressed (v : Bool) (s : State) :
    (setSuppressed .fibre v s).events.flags.getLsbD (if v then 5 else 6) = true := by
  cases v
  · exact flag_report .fibreReleased _
  · exact flag_report .fibreSuppressed _

/-- The selector's action leaves what the damping keeps at either judge (R124). -/
theorem damping_rework (b c : Bearer) (s : State) :
    ((rework b s).judge c).damping = (s.judge c).damping ∧ ((rework b s).judge c).penalty = (s.judge c).penalty
      ∧ ((rework b s).judge c).suppressed = (s.judge c).suppressed ∧ ((rework b s).judge c).decay = (s.judge c).decay := by
  cases c <;> simp [State.judge]

/-- The suppression state turns, and the eligibility is worked out (R121, R128). -/
def resuppress (b : Bearer) (v : Bool) (s : State) : State := rework b (setSuppressed b v s)

theorem damping_resuppress (b : Bearer) (v : Bool) (s : State) :
    ((resuppress b v s).judge b).damping = (s.judge b).damping ∧ ((resuppress b v s).judge b).penalty = (s.judge b).penalty
      ∧ ((resuppress b v s).judge b).suppressed = v ∧ ((resuppress b v s).judge b).decay = (s.judge b).decay := by
  obtain ⟨hdamping, hpenalty, hsuppressed, hdecay⟩ := damping_rework b b (setSuppressed b v s)
  have hset := (judge_setSuppressed b v s).1
  rw [hset] at hdamping hpenalty hsuppressed hdecay
  exact ⟨hdamping, hpenalty, hsuppressed, hdecay⟩

theorem damping_other_resuppress (b : Bearer) (v : Bool) (s : State) :
    ((resuppress b v s).judge b.other).damping = (s.judge b.other).damping
      ∧ ((resuppress b v s).judge b.other).penalty = (s.judge b.other).penalty
      ∧ ((resuppress b v s).judge b.other).suppressed = (s.judge b.other).suppressed := by
  obtain ⟨hdamping, hpenalty, hsuppressed, -⟩ := damping_rework b b.other (setSuppressed b v s)
  have hset := (judge_setSuppressed b v s).2
  rw [hset] at hdamping hpenalty hsuppressed
  exact ⟨hdamping, hpenalty, hsuppressed⟩

theorem flag_resuppress (v : Bool) (s : State) :
    (resuppress .fibre v s).events.flags.getLsbD (if v then 5 else 6) = true :=
  FlagsStand.rework .fibre _ _ (flag_setSuppressed v s)

/-! ## Whose eligibility is read off its suppression (R121) -/

/-- The bearer is UP, and it is not the fibre under a pin of FIBRE, which suppression does not bar (R121). -/
abbrev HeedsSuppression (b : Bearer) (s : State) : Prop :=
  (s.judge b).verdict = .up ∧ ¬(b = .fibre ∧ s.selector.pin = .only .fibre)

theorem eligible_of_heeding (h : HeedsSuppression b s) : s.eligible b = !(s.judge b).suppressed := by
  obtain ⟨hup, hpin⟩ := h
  have hbarred : (b == .fibre && s.selector.pin == .only .fibre) = false := by simpa using hpin
  simp [State.eligible, hup, hbarred]

/-- What suppression does not bar is eligible by its verdict alone. -/
theorem eligible_of_heedless (h : ¬HeedsSuppression b s) : s.eligible b = decide ((s.judge b).verdict = .up) := by
  cases hv : (s.judge b).verdict with
  | down => simpa using eligible_of_down hv
  | up =>
    obtain ⟨rfl, hpin⟩ : b = .fibre ∧ s.selector.pin = .only .fibre := not_not.1 fun hn => h ⟨hv, hn⟩
    simp [State.eligible, hv, hpin]

/-- One bearer's damping parameters, penalty and decay clock may differ between the two states, and blocks that are none of the
selector's: what it reads of either bearer, but for that one's suppression, is the same. -/
structure Redamped (b : Bearer) (s y : State) : Prop where
  selector : y.selector = s.selector
  verdict : (y.judge b).verdict = (s.judge b).verdict
  handed : (y.judge b).handed = (s.judge b).handed
  other : y.judge b.other = s.judge b.other

/-! ## The selector's action where it is not bound to a drain -/

theorem onEligibility_of_active (hs : s.selector.status = .on b) (he : s.eligible b = false) :
    onEligibility b s = loseActive b s := by simp [onEligibility, hs, he]

/-- On the radio the fibre's eligibility is worked out for the return hold (R145). -/
theorem onEligibility_fibre_of_onRadio (hs : s.selector.status = .on .radio) : onEligibility .fibre s = updateHold s := by
  simp [onEligibility, hs]

/-- Outside a drain the selector leaves a lost bearer only where it is active, and otherwise works out the return hold at most
(R142, R143, R145). -/
theorem onEligibility_of_lost_undrained (he : s.eligible b = false) (hd : s.draining = false) :
    onEligibility b s = s ∨ s.selector.status = .on b ∨ (b = .fibre ∧ onEligibility b s = updateHold s) := by
  cases hs : s.selector.status with
  | stopped => exact .inl (by simp [onEligibility, hs])
  | outage => exact .inl (by simp [onEligibility, hs, State.mayTake, he])
  | on c =>
    obtain rfl | rfl := eq_or_eq_other b c
    · exact .inr (.inl rfl)
    · cases b with
      | fibre => exact .inr (.inr ⟨rfl, onEligibility_fibre_of_onRadio hs⟩)
      | radio => exact .inl (by simp [onEligibility, hs, Bearer.other])
  | draining source => simp [State.draining, hs] at hd

/-- Where no return hold runs, and the selector is not on the radio under AUTO, none is started or stopped (R145). -/
theorem selector_updateHold_of_away (ht : s.selector.holdTimer = none)
    (h : ¬(s.selector.status = .on .radio ∧ s.selector.pin = .auto)) : (updateHold s).selector = s.selector := by
  have hnot : holdWanted s = false := by
    by_contra hwanted
    exact h (by simp_all [holdWanted])
  rw [updateHold_of_not_wanted hnot, ← ht]

namespace Redamped

/-! ## What the selector does with a suppression that turns -/

section
variable (h : Redamped b s y)
include h

theorem eligible_other : (setSuppressed b v y).eligible b.other = s.eligible b.other := by
  simp only [State.eligible, (judge_setSuppressed b v y).2, h.other, setSuppressed_frame, h.selector]

theorem mayTake_other : (setSuppressed b v y).mayTake b.other = s.mayTake b.other := by
  simp only [State.mayTake, h.eligible_other, setSuppressed_frame, h.selector]

theorem heeds_iff : HeedsSuppression b (setSuppressed b v y) ↔ HeedsSuppression b s := by
  simp only [HeedsSuppression, (judge_setSuppressed b v y).1, h.verdict, setSuppressed_frame, h.selector]

theorem handed_setSuppressed : ((setSuppressed b v y).judge b).handed = (s.judge b).handed := by
  rw [(judge_setSuppressed b v y).1]
  exact h.handed

theorem eligible_of_heeding (hh : HeedsSuppression b s) : (setSuppressed b v y).eligible b = !v := by
  rw [Machine.eligible_of_heeding (h.heeds_iff.2 hh), (judge_setSuppressed b v y).1]

/-- Where suppression does not bar the bearer, the selector has nothing to act on. -/
theorem resuppress_of_heedless (hl : Lawful s) (hh : ¬HeedsSuppression b s) : resuppress b v y = setSuppressed b v y := by
  have hsame : (setSuppressed b v y).eligible b = s.eligible b := by
    rw [eligible_of_heedless (mt h.heeds_iff.1 hh), eligible_of_heedless hh, (judge_setSuppressed b v y).1]
    simp only [h.verdict]
  rw [resuppress, rework_eq, if_pos (hsame.trans ((hl.placed.handed b).symm.trans h.handed_setSuppressed.symm))]

/-- Where it bars the bearer, the changed eligibility goes to the selector. -/
theorem resuppress_of_heeding (hl : Lawful s) (hv : (s.judge b).suppressed = !v) (hh : HeedsSuppression b s) :
    resuppress b v y = onEligibility b (noted b (setSuppressed b v y)) := by
  have hchanged : (setSuppressed b v y).eligible b ≠ ((setSuppressed b v y).judge b).handed := by
    rw [h.eligible_of_heeding hh, h.handed_setSuppressed, hl.placed.handed b, Machine.eligible_of_heeding hh, hv]
    cases v <;> decide
  rw [resuppress, rework_eq, if_neg hchanged]

theorem selector_noted : (noted b (setSuppressed b v y)).selector = s.selector := by simp [h.selector]

/-- A return hold that is not to run on the radio under AUTO is left alone. -/
theorem selector_updateHold (hl : Lawful s) (haway : ¬(s.selector.status = .on .radio ∧ s.selector.pin = .auto)) :
    (updateHold (noted b (setSuppressed b v y))).selector = s.selector := by
  have hidle : s.selector.holdTimer = none := by
    by_contra hruns
    have hwanted := hl.placed.hold.1 (Option.isSome_iff_ne_none.2 hruns)
    exact haway (by simp_all [holdWanted])
  have hsame := h.selector_noted (v := v)
  rw [selector_updateHold_of_away (by rw [hsame]; exact hidle) (by rw [hsame]; exact haway), hsame]

end

/-- A released bearer that the pin permits is taken in OUTAGE (R141). -/
theorem takenFromOutage (h : Redamped b s y) (hl : Lawful s) (hv : (s.judge b).suppressed = true)
    (hh : HeedsSuppression b s) (hs : s.selector.status = .outage) (hp : s.selector.pin.permits b = true) :
    TakenFromOutage b (resuppress b false y) := by
  have hsame := h.selector_noted (v := false)
  have hmay : (noted b (setSuppressed b false y)).mayTake b = true := by
    rw [State.mayTake, eligible_noted, h.eligible_of_heeding hh, hsame, hp]
    rfl
  have hforced : resuppress b false y = forceTo none b (noted b (setSuppressed b false y)) := by
    rw [h.resuppress_of_heeding (v := false) hl hv hh]
    simp only [onEligibility, hsame, hs, if_pos hmay]
  have hhold : holdWanted (makeActive b (none : Option Bearer).isNone (noted b (setSuppressed b false y))) = false := by
    refine holdWanted_makeActive_of_outage hl hs (fun c hc => ?_) hsame
    obtain rfl | rfl := eq_or_eq_other b c
    · exact absurd rfl hc
    · rw [judge_noted_of_ne hc, (judge_setSuppressed b false y).2, h.other]
  obtain ⟨hon, hpause, hrecord, h7, -⟩ := forceTo_takes hhold
  rw [hforced]
  exact ⟨hon, hpause, hrecord, h7,
    FlagsStand.after (.handWanted _) (.after (.updateHold _) (.of_eq rfl)) 9 (flag_makeActive_of_none b _)⟩

/-- A release is no matter of the selector, where the bearer is not taken and no return hold is to start (R121, R145). -/
theorem selector_released (h : Redamped b s y) (hl : Lawful s) (hv : (s.judge b).suppressed = true)
    (htaken : ¬(HeedsSuppression b s ∧ s.selector.status = .outage ∧ s.selector.pin.permits b = true))
    (hhold : ¬(HeedsSuppression b s ∧ b = .fibre ∧ s.selector.status = .on .radio ∧ s.selector.pin = .auto)) :
    (resuppress b false y).selector = s.selector := by
  by_cases hh : HeedsSuppression b s
  · have hsame := h.selector_noted (v := false)
    have hfree : (noted b (setSuppressed b false y)).eligible b = true := by
      rw [eligible_noted, h.eligible_of_heeding hh]
      rfl
    rw [h.resuppress_of_heeding (v := false) hl hv hh]
    obtain he | ⟨hs, hmay, -⟩ | ⟨rfl, he⟩ := onEligibility_of_gained hfree
    · rw [he, hsame]
    · rw [hsame] at hs
      rw [State.mayTake, hfree, hsame, Bool.true_and] at hmay
      exact absurd ⟨hh, hs, hmay⟩ htaken
    · rw [he]
      exact h.selector_updateHold hl fun haway => hhold ⟨hh, rfl, haway⟩
  · rw [h.resuppress_of_heedless hl hh]
    simp [h.selector]

/-- The active bearer is left when it is suppressed (R142, R143). -/
theorem activeLeft (h : Redamped b s y) (hl : Lawful s) (hv : (s.judge b).suppressed = false) (hh : HeedsSuppression b s)
    (hs : s.selector.status = .on b) : ActiveLeft b s (resuppress b true y) := by
  have hlost : (noted b (setSuppressed b true y)).eligible b = false := (eligible_noted b b _).trans (h.eligible_of_heeding hh)
  have hmay : (noted b (setSuppressed b true y)).mayTake b.other = s.mayTake b.other := (mayTake_noted b _ _).trans h.mayTake_other
  obtain ⟨htaken, hout⟩ := activeLeft_loseActive hlost
  rw [h.resuppress_of_heeding (v := true) hl hv hh, onEligibility_of_active (h.selector_noted.symm ▸ hs) hlost]
  exact ⟨hmay ▸ htaken, hmay ▸ hout⟩

/-- On the radio a suppressed fibre stops the return hold (R145). -/
theorem selector_of_held (h : Redamped .fibre s y) (hl : Lawful s) (hv : s.fibreJudge.suppressed = false)
    (hh : HeedsSuppression .fibre s) (hs : s.selector.status = .on .radio) :
    (resuppress .fibre true y).selector = { s.selector with holdTimer := none } := by
  have hsame := h.selector_noted (v := true)
  have hlost : (noted .fibre (setSuppressed .fibre true y)).eligible .fibre = false :=
    (eligible_noted .fibre .fibre _).trans (h.eligible_of_heeding hh)
  rw [h.resuppress_of_heeding (v := true) hl hv hh, onEligibility_fibre_of_onRadio (hsame.symm ▸ hs),
    updateHold_of_not_wanted (by simp [holdWanted, hlost]), hsame]

/-- Outside a drain a suppression is no matter of the selector, where the bearer is not active and no return hold is to stop. -/
theorem selector_suppressed (h : Redamped b s y) (hl : Lawful s) (hv : (s.judge b).suppressed = false)
    (hd : s.draining = false) (hleft : ¬(HeedsSuppression b s ∧ s.selector.status = .on b))
    (hhold : ¬(HeedsSuppression b s ∧ b = .fibre ∧ s.selector.status = .on .radio ∧ s.selector.pin = .auto)) :
    (resuppress b true y).selector = s.selector := by
  by_cases hh : HeedsSuppression b s
  · have hsame := h.selector_noted (v := true)
    have hlost : (noted b (setSuppressed b true y)).eligible b = false := (eligible_noted b b _).trans (h.eligible_of_heeding hh)
    have hundrained : (noted b (setSuppressed b true y)).draining = false := by
      rw [State.draining, hsame]
      exact hd
    rw [h.resuppress_of_heeding (v := true) hl hv hh]
    obtain he | hs | ⟨rfl, he⟩ := onEligibility_of_lost_undrained hlost hundrained
    · rw [he, hsame]
    · exact absurd ⟨hh, hsame ▸ hs⟩ hleft
    · rw [he]
      exact h.selector_updateHold hl fun haway => hhold ⟨hh, rfl, haway⟩
  · rw [h.resuppress_of_heedless hl hh]
    simp [h.selector]

/-- What the selector does with a suppression state that turns outside a drain (R128, R141 to R143, R145). -/
theorem selector_acts (h : Redamped b s y) (hl : Lawful s) (hd : s.draining = false) (hv : v ≠ (s.judge b).suppressed) :
    let t := resuppress b v y
    let taken : Prop := HeedsSuppression b s ∧ v = false ∧ s.selector.status = .outage ∧ s.selector.pin.permits b = true
    let left : Prop := HeedsSuppression b s ∧ v = true ∧ s.selector.status = .on b
    let hold : Prop := HeedsSuppression b s ∧ b = .fibre ∧ s.selector.status = .on .radio ∧ s.selector.pin = .auto
    (taken → TakenFromOutage b t) ∧ (left → ActiveLeft b s t)
      ∧ (hold → v = true → t.selector = { s.selector with holdTimer := none })
      ∧ (¬taken → ¬left → ¬hold → t.selector = s.selector) := by
  intro t taken left hold
  cases v with
  | false =>
    have hbarred : (s.judge b).suppressed = true := by simpa using hv.symm
    exact ⟨fun ⟨hh, _, hs, hp⟩ => h.takenFromOutage hl hbarred hh hs hp, fun ⟨_, hset, _⟩ => (nomatch hset),
      fun _ hset => (nomatch hset),
      fun htaken _ hhold => h.selector_released hl hbarred (fun ⟨hh, hout⟩ => htaken ⟨hh, rfl, hout⟩) hhold⟩
  | true =>
    have hfree : (s.judge b).suppressed = false := by simpa using hv.symm
    refine ⟨fun ⟨_, hset, _⟩ => (nomatch hset), fun ⟨hh, _, hs⟩ => h.activeLeft hl hfree hh hs, ?_,
      fun _ hleft hhold => h.selector_suppressed hl hfree hd (fun ⟨hh, hs⟩ => hleft ⟨hh, rfl, hs⟩) hhold⟩
    rintro ⟨hh, rfl, hs, -⟩ -
    exact h.selector_of_held hl hfree hh hs

end Redamped

end

/-! ## The end of the event -/

/-- What the end of an event leaves of the selector's state, and of what its statements read (R177). -/
theorem finish_keeps_selector (s u : State) :
    (finish false s u).selector = u.selector ∧ (finish false s u).pause.selector = u.pause.selector
      ∧ (finish false s u).clock = u.clock ∧ FlagsStand u (finish false s u) :=
  ⟨by simp, by simp, by simp, .finish _ _ _⟩

/-- The end of an event leaves what the damping keeps at a judge (R110). -/
theorem damping_finish (s u : State) (c : Bearer) :
    ((finish false s u).judge c).damping = (u.judge c).damping ∧ ((finish false s u).judge c).penalty = (u.judge c).penalty
      ∧ ((finish false s u).judge c).suppressed = (u.judge c).suppressed
      ∧ ((finish false s u).judge c).decay = (u.judge c).decay := by
  obtain ⟨q, hq⟩ := judge_finish false s u c
  rw [hq]
  exact ⟨rfl, rfl, rfl, rfl⟩

end Sys2Proof.Machine
end

section
/-! PROOFS. The decay tick (R126 to R128). -/

namespace Sys2Proof.Machine

section
variable {s : State} {b : Bearer} {due : Nat}

/-- The penalty after a decay tick; a penalty of 0 stays (R127). -/
def Judge.tickedPenalty (j : Judge) : Nat := if j.penalty = 0 then 0 else j.damping.decayed j.penalty

/-- A decay tick releases the bearer: its penalty has come down to the reuse level (R128). -/
abbrev Judge.ReleasedByTick (j : Judge) : Prop := j.penalty ≠ 0 ∧ j.suppressed = true ∧ j.tickedPenalty ≤ j.damping.reuse

/-- The tick at the judge, before its suppression is tested: the next tick is one period after this one, and the penalty has
decayed (R126, R127). -/
def tickCounted (b : Bearer) (due : Nat) (s : State) : State :=
  (s.advanceTo due).mapJudge b fun j =>
    { j with decay := some (due + j.damping.period * 1000000), penalty := j.tickedPenalty }

theorem judge_tickCounted (b : Bearer) (due : Nat) (s : State) : (tickCounted b due s).judge b = { s.judge b with
    decay := some (due + (s.judge b).damping.period * 1000000), penalty := (s.judge b).tickedPenalty } := by
  cases b <;> rfl

theorem redamped_tickCounted (b : Bearer) (due : Nat) (s : State) : Redamped b s (tickCounted b due s) := by
  cases b <;> exact ⟨rfl, rfl, rfl, rfl⟩

theorem tickCounted_keeps (b : Bearer) (due : Nat) (s : State) :
    (tickCounted b due s).clock = max s.clock due ∧ (tickCounted b due s).receiver = s.receiver
      ∧ (tickCounted b due s).home = s.home := by
  cases b <;> exact ⟨rfl, rfl, rfl⟩

theorem tick_of_stopped (h : (s.judge b).decay = none) : tick b s = s := by simp only [tick, h]

/-- What a tick of a running clock comes to (R126 to R128). -/
theorem tick_of_running (h : (s.judge b).decay = some due) :
    tick b s = if (s.judge b).ReleasedByTick then resuppress b false (tickCounted b due s) else tickCounted b due s := by
  set clocked := (s.advanceTo due).mapJudge b (fun j => { j with decay := some (due + j.damping.period * 1000000) })
    with hclocked
  have htick : tick b s = decayBy b clocked := by simp only [tick, h, hclocked]
  have hpenalty : (clocked.judge b).penalty = (s.judge b).penalty := by cases b <;> rfl
  rw [htick, decayBy]
  by_cases hzero : (s.judge b).penalty = 0
  · have hsame : clocked = tickCounted b due s := by
      cases b <;> simp_all [tickCounted, Judge.tickedPenalty, State.judge, State.mapJudge]
    rw [if_pos (hpenalty.trans hzero), if_neg fun ⟨hsome, _⟩ => hsome hzero, hsame]
  · have hcounted : clocked.mapJudge b (fun j => { j with penalty := j.damping.decayed j.penalty }) = tickCounted b due s := by
      cases b <;> simp_all [tickCounted, Judge.tickedPenalty, State.judge, State.mapJudge]
    rw [if_neg (fun hz => hzero (hpenalty.symm.trans hz)), hcounted]
    simp [judge_tickCounted, Judge.ReleasedByTick, hzero, resuppress]

theorem exec_decayTick (hr : s.resetHeld = false) (b : Bearer) : exec (.decayTick b) s = .next (finish false s (tick b s)) := by
  simp [exec, execDecayTick, run, runWith, hr]

end

end Sys2Proof.Machine

open Sys2Proof.Machine in
/-- Settles O36: a release is the one outcome of a tick that goes to the selector. -/
theorem decayTickLowersThePenalty : Obligations.DecayTickLowersThePenalty := by
  intro s b due hr
  refine ⟨fun h => by rw [exec_decayTick hr, tick_of_stopped h], fun h => ?_⟩
  intro j here next p releases
  have hcounted := judge_tickCounted b due s
  have hticked := tick_of_running h
  have hredamped := redamped_tickCounted b due s
  obtain ⟨hclock, hreceiver, hhome⟩ := tickCounted_keeps b due s
  refine ⟨fun hstays => ?_, fun hreleases => ?_⟩
  · have hcountedOnly : tick b s = tickCounted b due s := hticked.trans (if_neg hstays)
    rw [exec_decayTick hr, hcountedOnly]
    cases b <;> rfl
  · have ⟨_, hbarred, _⟩ := hreleases
    set y := tickCounted b due s
    have hreleased : tick b s = resuppress b false y := hticked.trans (if_pos hreleases)
    obtain ⟨hselector, hpause, hsameClock, hflags⟩ := finish_keeps_selector s (resuppress b false y)
    obtain ⟨-, hfinPenalty, hfinSuppressed, hfinDecay⟩ := damping_finish s (resuppress b false y) b
    obtain ⟨-, hpenalty, hsuppressed, hdecay⟩ := damping_resuppress b false y
    obtain ⟨-, hfinPenaltyOther, -⟩ := damping_finish s (resuppress b false y) b.other
    obtain ⟨-, hpenaltyOther, -⟩ := damping_other_resuppress b false y
    refine ⟨_, by rw [exec_decayTick hr, hreleased], ?_, ?_, hfinSuppressed.trans hsuppressed, ?_, ?_, ?_,
      fun hlawful => ?_, ?_, ?_⟩
    · simp [resuppress, hclock]
    · rw [hfinPenalty, hpenalty, hcounted]
      rfl
    · rw [hfinDecay, hdecay, hcounted]
    · rintro rfl
      exact hflags 6 (flag_resuppress false y)
    · rw [hfinPenaltyOther, hpenaltyOther, hredamped.other]
    · intro rises taken hold
      refine ⟨fun ⟨hrises, hs, hp⟩ => ?_, fun htaken hhold => ?_⟩
      · exact (hredamped.takenFromOutage hlawful hbarred hrises hs hp).after hselector hpause hsameClock hflags
      · exact hselector.trans (hredamped.selector_released hlawful hbarred htaken hhold)
    · simp [resuppress, hreceiver]
    · simp [resuppress, hhome]
end

section
/-! PROOFS. SET_DAMPING (R128, R130). -/

namespace Sys2Proof.Machine

section
variable {s : State} {tag : Byte} {body : List Byte} {b : Bearer} {d : Damping}

/-! ## The decay clock (R130) -/

/-- A running decay clock restarts where the period changes (R130 step 4). -/
theorem restartDecay_eq (b : Bearer) (old new : Nat) (s : State) : restartDecay b old new s = s.mapJudge b fun j =>
    { j with decay := if new = old then j.decay else j.decay.map fun _ => s.clock + new * 1000000 } := by
  have hclock : ∀ o : Timer, (if o.isSome = true then some (s.inSeconds new) else none)
      = o.map fun _ => s.clock + new * 1000000 := fun o => by cases o <;> rfl
  unfold restartDecay
  by_cases hsame : old = new
  · simp only [if_pos hsame, if_pos hsame.symm]
    cases b <;> rfl
  · simp only [if_neg hsame, if_neg (Ne.symm hsame), hclock]

theorem judge_restartDecay (b : Bearer) (old new : Nat) (s : State) :
    (restartDecay b old new s).judge b = { s.judge b with
        decay := if new = old then (s.judge b).decay else (s.judge b).decay.map fun _ => s.clock + new * 1000000 }
      ∧ (restartDecay b old new s).judge b.other = s.judge b.other := by
  rw [restartDecay_eq]
  cases b <;> exact ⟨rfl, rfl⟩

/-- The decay clock and the end of the event are no matter of the selector. -/
theorem finish_restartDecay_keeps (b : Bearer) (old new : Nat) (s u : State) :
    let t := finish false s (restartDecay b old new u)
    t.selector = u.selector ∧ t.pause.selector = u.pause.selector ∧ t.clock = u.clock ∧ FlagsStand u t :=
  ⟨by simp, by simp, by simp, .after (.finish _ _ _) (.of_eq (by simp))⟩

theorem damping_finish_restartDecay (b : Bearer) (old new : Nat) (s u : State) :
    let t := finish false s (restartDecay b old new u)
    (t.judge b).damping = (u.judge b).damping ∧ (t.judge b).penalty = (u.judge b).penalty
      ∧ (t.judge b).suppressed = (u.judge b).suppressed
      ∧ (t.judge b).decay = (if new = old then (u.judge b).decay else (u.judge b).decay.map fun _ => u.clock + new * 1000000)
      ∧ (t.judge b.other).damping = (u.judge b.other).damping
      ∧ (t.judge b.other).suppressed = (u.judge b.other).suppressed := by
  obtain ⟨hdamping, hpenalty, hsuppressed, hdecay⟩ := damping_finish s (restartDecay b old new u) b
  obtain ⟨hdampingOther, -, hsuppressedOther, -⟩ := damping_finish s (restartDecay b old new u) b.other
  obtain ⟨hrestarted, hother⟩ := judge_restartDecay b old new u
  rw [hrestarted] at hdamping hpenalty hsuppressed hdecay
  rw [hother] at hdampingOther hsuppressedOther
  exact ⟨hdamping, hpenalty, hsuppressed, hdecay, hdampingOther, hsuppressedOther⟩

/-! ## The suppression test (R130) -/

/-- The suppression state that new parameters leave (R130 step 3). -/
def Judge.retested (j : Judge) : Bool :=
  if j.suppressed then decide (j.damping.reuse < j.penalty) else decide (j.damping.suppress ≤ j.penalty)

/-- The test turns the suppression state, or leaves it (R130 step 3). -/
theorem retestSuppression_eq (b : Bearer) (s : State) : retestSuppression b s =
    if (s.judge b).retested = (s.judge b).suppressed then s else resuppress b (s.judge b).retested s := by
  unfold retestSuppression Judge.retested
  dsimp only
  cases hs : (s.judge b).suppressed
  · by_cases hset : (s.judge b).damping.suppress ≤ (s.judge b).penalty <;> simp [hset, resuppress]
  · by_cases hreuse : (s.judge b).penalty ≤ (s.judge b).damping.reuse <;>
      simp [hreuse, Nat.not_lt.2, Nat.lt_of_not_le, resuppress]

/-- The test leaves the parameters, the penalty and the decay clock of the judge, and the other judge's damping (R130 step 3). -/
theorem damping_retestSuppression (b : Bearer) (s : State) :
    let t := retestSuppression b s
    (t.judge b).damping = (s.judge b).damping ∧ (t.judge b).penalty = (s.judge b).penalty
      ∧ (t.judge b).suppressed = (s.judge b).retested ∧ (t.judge b).decay = (s.judge b).decay
      ∧ (t.judge b.other).damping = (s.judge b.other).damping
      ∧ (t.judge b.other).suppressed = (s.judge b.other).suppressed := by
  intro t
  have htest : t = if (s.judge b).retested = (s.judge b).suppressed then s else resuppress b (s.judge b).retested s :=
    retestSuppression_eq b s
  by_cases hsame : (s.judge b).retested = (s.judge b).suppressed
  · rw [htest, if_pos hsame, hsame]
    exact ⟨rfl, rfl, rfl, rfl, rfl, rfl⟩
  · obtain ⟨hdamping, hpenalty, hsuppressed, hdecay⟩ := damping_resuppress b (s.judge b).retested s
    obtain ⟨hdampingOther, -, hsuppressedOther⟩ := damping_other_resuppress b (s.judge b).retested s
    rw [htest, if_neg hsame]
    exact ⟨hdamping, hpenalty, hsuppressed, hdecay, hdampingOther, hsuppressedOther⟩

/-! ## The request -/

/-- The reply to an accepted SET_DAMPING has its place and the judge its parameters, before its suppression is tested (R130). -/
def State.damped (b : Bearer) (d : Damping) (tag : Byte) (s : State) : State :=
  (s.replied 0x09 tag [0]).mapJudge b (Judge.withDamping d)

theorem judge_damped (b : Bearer) (d : Damping) (tag : Byte) (s : State) :
    (s.damped b d tag).judge b = { s.judge b with damping := d, penalty := min (s.judge b).penalty d.ceiling } := by
  cases b <;> rfl

theorem redamped_damped (b : Bearer) (d : Damping) (tag : Byte) (s : State) : Redamped b s (s.damped b d tag) := by
  cases b <;> exact ⟨rfl, rfl, rfl, rfl⟩

theorem clock_damped (b : Bearer) (d : Damping) (tag : Byte) (s : State) : (s.damped b d tag).clock = s.clock := by
  cases b <;> rfl

theorem exec_setDamping_of_takes {a : Answer} (h : Takes s 0x09 tag body) (hl : body.length = 12)
    (ha : answerSetDamping body s = a) :
    exec .setDamping s = .next (finish a.opportunity s (a.effect (s.replied 0x09 tag a.body))) :=
  runActing_of_takes h hl rfl ha

theorem answerSetDamping_of_draining (h : s.draining = true) : answerSetDamping body s = .refuse .busy := if_pos h

theorem answerSetDamping_of_idle (h : s.draining = false) :
    answerSetDamping body s = .withBody (readDampingBody body) fun v => .apply (setDamping v.1 v.2) := by
  rw [answerSetDamping, h, if_neg Bool.false_ne_true]

theorem exec_setDamping_of_read (h : Takes s 0x09 tag body) (hl : body.length = 12) (hd : s.draining = false)
    (hb : readDampingBody body = some (b, d)) : exec .setDamping s = .next (finish false s
      (restartDecay b (s.judge b).damping.period d.period (retestSuppression b (s.damped b d tag)))) := by
  rw [exec_setDamping_of_takes h hl ((answerSetDamping_of_idle hd).trans (withBody_of_some hb))]
  cases b <;> rfl

end

end Sys2Proof.Machine

open Sys2Proof.Machine in
/-- Settles O14: the decay clock is no matter of the selector, so what a suppression that turns leaves there stands. -/
theorem setDampingWrites : Obligations.SetDampingWrites := by
  intro s tag body b d h hlength
  refine ⟨fun hdraining => ?_, fun hidle hbad => ?_, fun hidle hread => ?_⟩
  · rw [exec_setDamping_of_takes h hlength (answerSetDamping_of_draining hdraining)]
    rfl
  · rw [exec_setDamping_of_takes h hlength ((answerSetDamping_of_idle hidle).trans (withBody_of_none hbad))]
    rfl
  intro p held clock
  have hexec := exec_setDamping_of_read h hlength hidle hread
  have hdamped := judge_damped b d tag s
  have hredamped := redamped_damped b d tag s
  set y := s.damped b d tag with hy
  have hretested : (y.judge b).retested = held := by rw [hdamped]; rfl
  have hbefore : (y.judge b).suppressed = (s.judge b).suppressed := by rw [hdamped]
  have htest := retestSuppression_eq b y
  have hclock : (retestSuppression b y).clock = s.clock := by simp [hy, clock_damped]
  obtain ⟨hdamping, hpenalty, hsuppressed, hdecay, hdampingOther, hsuppressedOther⟩ := damping_retestSuppression b y
  rw [hretested, hbefore] at htest
  set tested := retestSuppression b y
  refine ⟨fun hsame => ?_, ?_⟩
  · rw [if_pos hsame] at htest
    have hended : restartDecay b (s.judge b).damping.period d.period tested
        = (s.replied 0x09 tag [0]).mapJudge b fun j => { j with damping := d, penalty := p, decay := clock } := by
      rw [htest, hy, restartDecay_eq]
      cases b <;> rfl
    rw [hexec, hended]
  obtain ⟨hselector, hpause, hsameClock, hflags⟩ := finish_restartDecay_keeps b (s.judge b).damping.period d.period s tested
  obtain ⟨hendDamping, hendPenalty, hendSuppressed, hendDecay, hendDampingOther, hendSuppressedOther⟩ :=
    damping_finish_restartDecay b (s.judge b).damping.period d.period s tested
  set t := finish false s (restartDecay b (s.judge b).damping.period d.period tested)
  have hreported : b = .fibre → held ≠ (s.judge b).suppressed → t.events.flags.getLsbD (if held then 5 else 6) = true := by
    rintro rfl hturned
    rw [if_neg hturned] at htest
    exact hflags _ (htest ▸ flag_resuppress held y)
  refine ⟨t, hexec, ?_, ?_, ?_, ?_, ?_, ?_, ?_, ?_, ?_⟩
  · rw [hendDamping, hdamping, hdamped]
  · rw [hendPenalty, hpenalty, hdamped]
  · rw [hendSuppressed, hsuppressed, hretested]
  · rw [hendDecay, hdecay, hdamped, hclock]
  · rw [hendDampingOther, hdampingOther, hredamped.other]
  · rw [hendSuppressedOther, hsuppressedOther, hredamped.other]
  · rintro hset hfree rfl
    have hflag := hreported rfl (by rw [hset, hfree]; decide)
    rwa [hset] at hflag
  · rintro hset hbarred rfl
    have hflag := hreported rfl (by rw [hset, hbarred]; decide)
    rwa [hset] at hflag
  · intro hlawful changes taken left hold
    by_cases hsame : held = (s.judge b).suppressed
    · have hunchanged : ¬changes := fun ⟨hturned, _⟩ => hturned hsame
      rw [if_pos hsame] at htest
      exact ⟨fun ⟨hc, _⟩ => absurd hc hunchanged, fun ⟨hc, _⟩ => absurd hc hunchanged, fun ⟨hc, _⟩ => absurd hc hunchanged,
        fun _ _ _ => by rw [hselector, htest, hredamped.selector]⟩
    · have hchanges : changes ↔ HeedsSuppression b s := and_iff_right hsame
      rw [if_neg hsame] at htest
      obtain ⟨htakes, hleaves, hstops, hrests⟩ := hredamped.selector_acts hlawful hidle hsame
      rw [← htest, ← hchanges] at htakes hleaves hstops hrests
      exact ⟨fun h => (htakes h).after hselector hpause hsameClock hflags, fun h => (hleaves h).after hselector hsameClock hflags,
        fun h hheld => hselector.trans (hstops h hheld), fun hnt hnl hnh => hselector.trans (hrests hnt hnl hnh)⟩
end

section
/-! PROOFS. What a data port can start at the end of an event, and what that leaves where DATA is held back (R31, R55, R58, R97). -/

namespace Sys2Proof.Machine

section
variable {s t : State} {b : Bearer}

/-! ## What a free port can start (R55) -/

/-- What the next frame at a free port can be, by the order of R55: nothing, a mark of the stream in progress, the first mark of a
stream that was asked for (a REWIND before a REPLAY), the first frame that waits, a copy of the pass, or DATA. -/
inductive PortServed (b : Bearer) (s : State) : State → Prop
  | rests : PortServed b s s
  | mark (k : MarkKind) (running : streamOn s b = some k) : PortServed b s (startMark b k s)
  | stream (k : MarkKind) (idle : streamOn s b = none) (active : s.active = some b)
      (asked : k = .replay → s.sender.rewindPending = false ∧ s.sender.announcePending = true) :
      PortServed b s (startStream b k s)
  | waiting (w : WaitingFrame) (rest : List WaitingFrame) (first : s.waiting b = w :: rest) :
      PortServed b s (startWaiting b w rest s)
  | copy (c : Seq) (active : s.active = some b) (resending : s.sender.pass = .resending) : PortServed b s (passCopy b c s)
  | data (active : s.active = some b) (going : s.pause.any = false) : PortServed b s (dispatch b s)

theorem nextFrame_served (o : Bool) (b : Bearer) (s : State) : PortServed b s (nextFrame o b s) := by
  unfold nextFrame
  split
  · next k hk => exact .mark k hk
  next hidle =>
  split
  · next h =>
    simp only [Bool.and_eq_true, beq_iff_eq] at h
    exact .stream .rewind hidle h.1 (by simp)
  next hrewind =>
  split
  · next h =>
    simp only [Bool.and_eq_true, beq_iff_eq] at h
    exact .stream .replay hidle h.1 fun _ => ⟨by simpa [h.1] using hrewind, h.2⟩
  split
  · next w rest hw => exact .waiting w rest hw
  split
  · next ha =>
    have ha : s.active = some b := by simpa using ha
    split
    · next hp _ => exact .copy _ ha hp
    · split
      · next hgo =>
        simp only [Bool.and_eq_true, Bool.not_eq_true'] at hgo
        exact .data ha hgo.2
      · exact .rests
  · exact .rests

/-- The pass's end leaves whether a port is free. -/
theorem portFree_endPassAt (b c : Bearer) (s : State) : (endPassAt b s).portFree c = s.portFree c := by
  cases c <;> simp [State.portFree]

/-- What every frame that a free port starts keeps, and the end of a pass too, the end of an event keeps (R55). -/
theorem finish_induction {P : State → Prop} (h : P s) (ended : ∀ t, P t → t.sender.pass = .resending → P (abandonPass t))
    (served : ∀ b t u, P t → t.portFree b = true → PortServed b t u → P u) (closed : ∀ t, P t → P (closeEvent t))
    (joined : Bool) (before : State) : P (finish joined before s) := by
  have hpass : ∀ b t, P t → P (endPassAt b t) := fun b t ht => by
    unfold endPassAt
    split
    · next he =>
      simp only [Bool.and_eq_true, beq_iff_eq] at he
      exact ended t ht he.1.2
    · exact ht
  have hserve : ∀ o b t, P t → P (serve o b t) := fun o b t ht => by
    unfold serve
    split
    · next hfree => exact served b _ _ (hpass b t ht) ((portFree_endPassAt b b t).trans hfree) (nextFrame_served _ _ _)
    · exact ht
  exact closed _ (hserve _ _ _ (hserve _ _ _ h))

/-! ## DATA held back (R31) -/

/-- No DATA can leave: no bearer is active, or a pause reason other than a pass's stands (R31, R136). -/
def DataHeld (s : State) : Prop :=
  s.active = none ∨ s.pause.session = true ∨ s.pause.selector = true ∨ s.pause.stream = true

theorem DataHeld.not_going (h : DataHeld s) (ha : s.active = some b) : s.pause.any = true := by
  obtain h | h | h | h := h
  · rw [ha] at h
    cases h
  all_goals simp [Pause.any, h]

/-- What no frame but DATA changes: the lanes, N, and how many records are held; and with no copy to send, the records. -/
structure DataKept (s t : State) : Prop where
  held : DataHeld t
  lanes : t.lanes = s.lanes
  n : t.sender.n = s.sender.n
  length : t.sender.store.length = s.sender.store.length
  store : s.sender.pass ≠ .resending → t.sender.pass ≠ .resending ∧ t.sender.store = s.sender.store

theorem DataKept.refl (h : DataHeld s) : DataKept s s := ⟨h, rfl, rfl, rfl, fun hp => ⟨hp, rfl⟩⟩

theorem length_passCopy (b : Bearer) (c : Seq) (s : State) : (passCopy b c s).sender.store.length = s.sender.store.length := by
  unfold passCopy
  split
  · rfl
  · dsimp only
    split <;> simp

theorem DataKept.served {u : State} (h : DataKept s t) (hu : PortServed b t u) : DataKept s u := by
  obtain ⟨hheld, hlanes, hn, hlength, hstore⟩ := h
  cases hu with
  | rests => exact ⟨hheld, hlanes, hn, hlength, hstore⟩
  | mark k _ =>
    exact ⟨by simpa [DataHeld, State.active] using hheld, by simpa using hlanes, by simpa using hn, by simpa using hlength,
      by simpa using hstore⟩
  | stream k _ _ _ =>
    have hpass : (startStream b k t).sender.pass = if k = .replay then .announcing else t.sender.pass := by
      simp [startStream]
    refine ⟨.inr (.inr (.inr (startStream_writes k).2.2.1)), by simpa using hlanes, by simpa using hn, by simpa using hlength,
      fun hp => ?_⟩
    obtain ⟨hnot, hsame⟩ := hstore hp
    refine ⟨?_, by simpa using hsame⟩
    rw [hpass]
    split
    · simp
    · exact hnot
  | waiting w rest _ =>
    exact ⟨by simpa [DataHeld, State.active] using hheld, by simpa using hlanes, by simpa using hn, by simpa using hlength,
      by simpa using hstore⟩
  | copy c _ hresending =>
    exact ⟨by simpa [DataHeld, State.active] using hheld, by simpa using hlanes, by simpa using hn,
      (length_passCopy b c t).trans hlength, fun hp => absurd hresending (hstore hp).1⟩
  | data ha hgoing =>
    rw [hheld.not_going ha] at hgoing
    cases hgoing

/-- Where DATA is held back, the end of an event leaves the lanes, N and the records (R31, R55). -/
theorem DataHeld.finish (h : DataHeld s) (joined : Bool) (before : State) : DataKept s (finish joined before s) := by
  refine finish_induction (DataKept.refl h) (fun t ht _ => ?_) (fun b t u ht _ hu => ht.served hu) (fun t ht => ?_) joined before
  · obtain ⟨hheld, hlanes, hn, hlength, hstore⟩ := ht
    exact ⟨hheld, hlanes, hn, hlength, fun hp => ⟨by simp [abandonPass], (hstore hp).2⟩⟩
  · obtain ⟨hheld, hlanes, hn, hlength, hstore⟩ := ht
    exact ⟨hheld, hlanes, hn, hlength, hstore⟩

end

end Sys2Proof.Machine
end

section
/-! PROOFS. A planned handover: the drain that starts, its switch, and the take-up on the target (R102, R140, R147 to R149). -/

namespace Sys2Proof.Machine

section
variable {s t : State} {b : Bearer} {hold : State → State} {o : HandoverOutcome}

/-! ## The wanted level at the selector (R155) -/

theorem selector_handWanted (s : State) : (handWanted s).selector = { s.selector with wanted := wantedLevel s } := by
  by_cases h : wantedLevel s = s.selector.wanted
  · rw [handWanted_of_met h, h]
  · rw [handWanted_of_changed h]
    simp [State.handed]

/-! ## A drain starts (R148) -/

theorem startDrain_of_records (h : s.sender.store ≠ []) : startDrain hold b s = handWanted (enterDrain b s) := by
  simp [startDrain, h]

theorem startDrain_of_empty (h : s.sender.store = []) :
    startDrain hold b s = switchDrain hold b .emptied (handWanted (enterDrain b s)) := by
  simp [startDrain, h]

/-- The selector in a drain that has started, the radio wanted (R148, R155). -/
theorem selector_drainStarted (b : Bearer) (s : State) : (handWanted (enterDrain b s)).selector = { s.selector with
    status := .draining b
    holdTimer := none
    drainTimer := some (s.clock + drainLimit (s.judge b).srtt s.carry.drainMargin * 1000)
    record := some ⟨some b, b.other, .planned, s.ms, none⟩
    wanted := .active } := selector_handWanted _

/-! ## A drain switches (R149) -/

/-- The target is active and the record has its outcome, before the return hold and the wanted level are worked out (R149). -/
def switched (source : Bearer) (o : HandoverOutcome) (s : State) : State :=
  completeRecord o (makeActive source.other false { s with selector := { s.selector with drainTimer := none } })

theorem switchDrain_eq (hold : State → State) (source : Bearer) (o : HandoverOutcome) (s : State) :
    switchDrain hold source o s = handWanted (hold (switched source o s)) := rfl

theorem switched_writes (source : Bearer) (o : HandoverOutcome) (s : State) :
    (switched source o s).selector = { s.selector with
        status := .on source.other
        drainTimer := none
        record := s.selector.record.map fun r => { r with outcome := some o } }
      ∧ (switched source o s).pause.selector = false ∧ (switched source o s).clock = s.clock
      ∧ (switched source o s).carry = s.carry := by
  simp [switched, completeRecord, makeActive]

/-- Where no return hold of 0 s turns it back, the switch leaves of the return hold its timer at most (R145). -/
theorem switchDrain_of_no_return (h : s.carry.returnHold ≠ 0 ∨ b = .radio ∨ s.selector.pin ≠ .auto) :
    ∃ timer, switchDrain updateHold b o s
      = handWanted { switched b o s with selector := { (switched b o s).selector with holdTimer := timer } } := by
  obtain ⟨hselector, -, -, hcarry⟩ := switched_writes b o s
  have hstays : (switched b o s).carry.returnHold ≠ 0 ∨ (switched b o s).selector.status ≠ .on .radio
      ∨ (switched b o s).selector.pin ≠ .auto := by
    rw [hcarry, hselector]
    exact h.imp_right (.imp_left fun hb => by simp [hb, Bearer.other])
  obtain ⟨timer, ht⟩ := updateHold_writes_timer hstays
  exact ⟨timer, by rw [switchDrain_eq, ht]⟩

/-! ## The commands that hand over (R145, R147) -/

section
variable {tag : Byte} {due : Nat}

theorem exec_handoverNow_of_takes {a : Answer} (h : Takes s 0x10 tag []) (ha : answerHandoverNow [] s = a) :
    exec .handoverNow s = .next (finish a.opportunity s (a.effect (s.replied 0x10 tag a.body))) :=
  runActing_of_takes h rfl rfl ha

theorem answerHandoverNow_of_draining (h : s.draining = true) : answerHandoverNow [] s = .refuse .busy := by
  unfold State.draining at h
  unfold answerHandoverNow
  split at h
  · next source hs => rw [hs]
  · cases h

theorem answerHandoverNow_of_inactive (h : s.selector.status = .stopped ∨ s.selector.status = .outage) :
    answerHandoverNow [] s = .refuse .wrongState := by
  obtain h | h := h <;> simp [answerHandoverNow, h]

theorem answerHandoverNow_of_barred (hs : s.selector.status = .on b) (h : s.mayTake b.other = false) :
    answerHandoverNow [] s = .refuse .notEligible := by simp [answerHandoverNow, hs, h]

theorem answerHandoverNow_of_free (hs : s.selector.status = .on b) (h : s.mayTake b.other = true) :
    answerHandoverNow [] s = .apply (startDrain updateHold b) := by simp [answerHandoverNow, hs, h]

theorem exec_returnHoldExpiry (hr : s.resetHeld = false) :
    exec .returnHoldExpiry s = .next (finish false s (holdExpires s)) := by
  simp [exec, execReturnHoldExpiry, run, runWith, hr]

theorem exec_drainTimerExpiry (hr : s.resetHeld = false) :
    exec .drainTimerExpiry s = .next (finish false s (drainExpires s)) := by
  simp [exec, execDrainTimerExpiry, run, runWith, hr]

/-- The return hold has expired: its timer is stopped and the clock is at its moment or past it (R145; log entry 4). -/
def holdExpired (due : Nat) (s : State) : State :=
  { s.advanceTo due with selector := { s.selector with holdTimer := none } }

theorem holdExpires_on_radio (h : s.selector.holdTimer = some due) (hs : s.selector.status = .on .radio) :
    holdExpires s = startDrain updateHold .radio (holdExpired due s) := by
  simp only [holdExpires, h, hs, if_true]
  rfl

theorem drainExpires_of_draining (h : s.selector.drainTimer = some due) (hs : s.selector.status = .draining b) :
    drainExpires s = switchDrain updateHold b .expired (s.advanceTo due) := by
  simp only [drainExpires, h, hs]

end

/-- The moment at which a drain is to start: but for the clock, the control link and the return hold's timer the state is as it
was. -/
structure DrainBegins (b : Bearer) (due : Nat) (s x : State) : Prop where
  clock : x.clock = max s.clock due
  selector : { x.selector with holdTimer := none } = { s.selector with holdTimer := none }
  judge : x.judge b = s.judge b
  carry : x.carry = s.carry
  sender : x.sender = s.sender
  lanes : x.lanes = s.lanes
  session : x.session = s.session
  receiver : x.receiver = s.receiver
  home : x.home = s.home

namespace DrainBegins

variable {due : Nat} {x : State}

theorem replied (h : due = s.clock) (tag : Byte) : DrainBegins b due s (s.replied 0x10 tag [0]) :=
  ⟨by simp [State.replied, h], rfl, by cases b <;> rfl, rfl, rfl, rfl, rfl, rfl, rfl⟩

theorem expired (due : Nat) (s : State) : DrainBegins b due s (holdExpired due s) :=
  ⟨rfl, rfl, by cases b <;> rfl, rfl, rfl, rfl, rfl, rfl, rfl⟩

theorem ms (h : DrainBegins b due s x) : x.ms = BitVec.ofNat 32 (max s.clock due / 1000) := by rw [State.ms, h.clock]

/-- The selector in the drain that has started. -/
theorem selector_started (h : DrainBegins b due s x) : (handWanted (enterDrain b x)).selector = { s.selector with
    status := .draining b
    holdTimer := none
    drainTimer := some (max s.clock due + drainLimit (s.judge b).srtt s.carry.drainMargin * 1000)
    record := some ⟨some b, b.other, .planned, BitVec.ofNat 32 (max s.clock due / 1000), none⟩
    wanted := .active } := by
  rw [selector_drainStarted, h.ms, h.clock, h.judge, h.carry]
  exact congrArg (fun k : Selector => { k with
    status := .draining b
    drainTimer := some (max s.clock due + drainLimit (s.judge b).srtt s.carry.drainMargin * 1000)
    record := some ⟨some b, b.other, .planned, BitVec.ofNat 32 (max s.clock due / 1000), none⟩
    wanted := .active }) h.selector

/-- With a record held the drain goes on, and holds DATA back (R148). -/
theorem of_records (h : DrainBegins b due s x) (hs : s.sender.store ≠ []) (before : State) :
    let t := finish false before (startDrain updateHold b x)
    t.selector = { s.selector with
        status := .draining b
        holdTimer := none
        drainTimer := some (max s.clock due + drainLimit (s.judge b).srtt s.carry.drainMargin * 1000)
        record := some ⟨some b, b.other, .planned, BitVec.ofNat 32 (max s.clock due / 1000), none⟩
        wanted := .active }
      ∧ t.pause.selector = true ∧ t.lanes = s.lanes ∧ t.sender.n = s.sender.n
      ∧ t.sender.store.length = s.sender.store.length ∧ t.session = s.session ∧ t.receiver = s.receiver
      ∧ t.home = s.home := by
  intro t
  have hpaused : (handWanted (enterDrain b x)).pause.selector = true := by simp [enterDrain]
  have hkept := DataHeld.finish (.inr (.inr (.inl hpaused))) false before
  have ht : t = finish false before (handWanted (enterDrain b x)) := by
    simp only [t, startDrain_of_records (s := x) (by rwa [h.sender])]
  rw [ht]
  refine ⟨?_, by simp, hkept.lanes.trans ?_, hkept.n.trans ?_, hkept.length.trans ?_, ?_, ?_, ?_⟩
  · simpa using h.selector_started
  · simp [h.lanes]
  · simp [h.sender]
  · simp [h.sender]
  · simp [h.session]
  · simp [h.receiver]
  · simp [h.home]

/-- With an empty store the drain switches at once (R148). -/
theorem of_empty (h : DrainBegins b due s x) (hs : s.sender.store = [])
    (hr : s.carry.returnHold ≠ 0 ∨ b = .radio ∨ s.selector.pin ≠ .auto) (before : State) :
    let t := finish false before (startDrain updateHold b x)
    t.selector.status = .on b.other ∧ t.selector.pin = s.selector.pin ∧ t.selector.drainTimer = none
      ∧ t.selector.record = some ⟨some b, b.other, .planned, BitVec.ofNat 32 (max s.clock due / 1000), some .emptied⟩
      ∧ t.pause.selector = false ∧ t.events.flags.getLsbD 7 = true ∧ t.home = s.home := by
  intro t
  have hstarted := h.selector_started
  set begun := handWanted (enterDrain b x)
  have ht : t = finish false before (switchDrain updateHold b .emptied begun) := by
    simp only [t, startDrain_of_empty (s := x) (by rwa [h.sender]), begun]
  obtain ⟨hon, htimer, hpause, hrecord⟩ := switchDrain_takes (s := begun) (source := b) (o := .emptied)
    (by simpa [hstarted, begun, h.carry] using hr)
  rw [hstarted] at hrecord
  rw [ht]
  refine ⟨by simpa using hon, ?_, by simpa using htimer, by simpa using hrecord, by simpa using hpause,
    FlagsStand.finish _ _ _ 7 (flag_switchDrain _ _ _), by simp [begun, h.home]⟩
  simp [hstarted]

end DrainBegins

end

end Sys2Proof.Machine

open Sys2Proof.Machine in
/-- Settles O19: a request that is accepted and a return hold that expires come to the same drain. -/
theorem plannedHandoverStarts : Obligations.PlannedHandoverStarts := by
  intro s tag b c due
  refine ⟨fun h => ⟨fun hd => ?_, fun hs => ?_, fun hs hm => ?_⟩, fun hr hn => ?_, fun hstarts => ?_⟩
  · rw [exec_handoverNow_of_takes h (answerHandoverNow_of_draining hd)]
    rfl
  · rw [exec_handoverNow_of_takes h (answerHandoverNow_of_inactive hs)]
    rfl
  · rw [exec_handoverNow_of_takes h (answerHandoverNow_of_barred hs hm)]
    rfl
  · rw [exec_returnHoldExpiry hr]
    simp only [holdExpires, hn]
  · have hbegins : ∃ x, DrainBegins b due s x ∧ exec c s = .next (finish false s (startDrain updateHold b x)) := by
      obtain ⟨rfl, h, hs, hm, hdue⟩ | ⟨rfl, hr, hs, rfl, hdue⟩ := hstarts
      · refine ⟨s.replied 0x10 tag [0], .replied hdue tag, ?_⟩
        rw [exec_handoverNow_of_takes h (answerHandoverNow_of_free hs hm)]
        rfl
      · exact ⟨holdExpired due s, .expired due s, by rw [exec_returnHoldExpiry hr, holdExpires_on_radio hdue hs]⟩
    obtain ⟨x, hx, hexec⟩ := hbegins
    exact ⟨fun hs => ⟨_, hexec, hx.of_records hs s⟩, fun hs hr => ⟨_, hexec, hx.of_empty hs hr s⟩⟩
end

section
/-! PROOFS. The take-up on a new active bearer, and the drain timer's expiry (R14, R15, R102, R103, R140, R149). -/

namespace Sys2Proof.Machine

section
variable {s t u : State} {b : Bearer} {p : PassPhase} {o : HandoverOutcome}

/-! ## The take-up is asked for (R102, R103, R140) -/

/-- A take-up has been asked for on the active bearer, and none of its marks has left: the REWIND stream is pending with its pause
reason, and the pass stands as the take-up left it. -/
structure TakeUpAsked (b : Bearer) (p : PassPhase) (t : State) : Prop where
  active : t.active = some b
  paused : t.pause.stream = true
  idle : t.sender.stream = none
  rewind : t.sender.rewindPending = true
  pass : t.sender.pass = p

theorem TakeUpAsked.of_fields (h : TakeUpAsked b p t) (ha : u.active = t.active) (hp : u.pause.stream = t.pause.stream)
    (hs : u.sender.stream = t.sender.stream) (hr : u.sender.rewindPending = t.sender.rewindPending)
    (hpass : u.sender.pass = t.sender.pass) : TakeUpAsked b p u :=
  ⟨ha.trans h.active, hp.trans h.paused, hs.trans h.idle, hr.trans h.rewind, hpass.trans h.pass⟩

theorem TakeUpAsked.withSelector (h : TakeUpAsked b p t) (x : Selector) (hx : x.status = t.selector.status) :
    TakeUpAsked b p { t with selector := x } :=
  h.of_fields (congrArg SelectorStatus.active hx) rfl rfl rfl rfl

/-- Where no stream is in progress a port that closes gives up its waiting frames alone (R85). -/
theorem closePort_of_idle (h : s.sender.stream = none) (c : Bearer) : closePort c s = s.setWaiting c [] := by
  have hs : (s.setWaiting c []).sender.stream = none := by cases c <;> exact h
  simp only [closePort, endStreamOn, hs]

theorem TakeUpAsked.closePort (h : TakeUpAsked b p t) (c : Bearer) : TakeUpAsked b p (closePort c t) := by
  rw [closePort_of_idle h.idle]
  cases c <;> exact h.of_fields rfl rfl rfl rfl rfl

theorem TakeUpAsked.leaveReady (h : TakeUpAsked b p t) : TakeUpAsked b p (leaveReady t) :=
  (h.closePort .radio).of_fields (by simp [State.active]) (by simp [Machine.leaveReady, resetJudge])
    (by simp [Machine.leaveReady, resetJudge]) (by simp) (by simp)

theorem TakeUpAsked.enterReleasing (h : TakeUpAsked b p t) (c : ReleaseCause) : TakeUpAsked b p (enterReleasing c t) := by
  unfold Machine.enterReleasing
  split
  · exact h.leaveReady.of_fields rfl rfl rfl rfl rfl
  · exact h.of_fields rfl rfl rfl rfl rfl

theorem TakeUpAsked.handWanted (h : TakeUpAsked b p t) : TakeUpAsked b p (handWanted t) := by
  unfold Machine.handWanted
  split
  · exact h
  · set given : State := { t with
      selector := { t.selector with wanted := wantedLevel t }
      radio := { t.radio with wantedHeld := wantedLevel t } } with hg
    have hgiven : TakeUpAsked b p given := h.of_fields rfl rfl rfl rfl rfl
    have hacted : TakeUpAsked b p (actOnLevel given) := by
      obtain he | ⟨-, he⟩ | ⟨-, -, he | ⟨-, he⟩ | ⟨-, he⟩⟩ := actOnLevel_cases given <;> rw [he]
      · exact hgiven
      · exact hgiven.of_fields rfl rfl rfl rfl rfl
      · exact hgiven.of_fields rfl rfl rfl rfl rfl
      · exact hgiven.of_fields rfl rfl rfl rfl rfl
      · exact hgiven.enterReleasing _
    exact hacted.of_fields rfl rfl rfl rfl rfl

/-- With the session OPEN the new active bearer is taken up: a REWIND stream is asked for, a pass starts with a record held or a
pass owed, and in discard state the stream is attempt 1 (R102, R103). -/
theorem makeActive_takesUp (hs : s.session.status = .opened) (n : Bool) :
    TakeUpAsked b (if s.sender.store = [] ∧ s.sender.passOwed = false then .none else .waiting) (makeActive b n s)
      ∧ (makeActive b n s).session = s.session ∧ (makeActive b n s).sender.passOwed = false
      ∧ (makeActive b n s).receiver.attempts = if s.receiver.discard then 1 else s.receiver.attempts := by
  set entered : State := { s with selector := { s.selector with status := .on b }, pause := { s.pause with selector := false } }
    with hentered
  have hmade : makeActive b n s
      = report .handover (reportIf n .outageEnd (takeUpReceiver b (takeUpSender (endActive entered)))) := by
    simp [makeActive, sessionOn, hs, hentered]
  have hreceiver : (makeActive b n s).receiver.attempts = if s.receiver.discard then 1 else s.receiver.attempts := by
    cases hd : s.receiver.discard <;> simp [hmade, takeUpReceiver, startRewindTimer, hentered, hd]
  refine ⟨⟨by simp [State.active, SelectorStatus.active], ?_, ?_, ?_, ?_⟩, by simp [hmade, hentered], ?_, hreceiver⟩
  all_goals
    by_cases hstore : s.sender.store = [] <;> cases howed : s.sender.passOwed <;>
      simp [hmade, takeUpSender, requestRewind, rewindRuns, startPass, endActive, abandonPass, abandonStreams, clearTally,
        State.keepWaiting, State.active, SelectorStatus.active, hentered, hstore, howed]

/-! ## The take-up at the end of an event (R55) -/

/-- A take-up stands: its REWIND stream is asked for, or in progress on the active bearer. -/
structure TakenUp (b : Bearer) (p : PassPhase) (t : State) : Prop where
  active : t.active = some b
  paused : t.pause.stream = true
  rewind : t.sender.stream = none ∧ t.sender.rewindPending = true ∨ ∃ n, t.sender.stream = some ⟨.rewind, b, n, false⟩
  pass : t.sender.pass = p

theorem TakeUpAsked.takenUp (h : TakeUpAsked b p t) : TakenUp b p t := ⟨h.active, h.paused, .inl ⟨h.idle, h.rewind⟩, h.pass⟩

theorem TakenUp.of_fields (h : TakenUp b p t) (ha : u.active = t.active) (hp : u.pause.stream = t.pause.stream)
    (hs : u.sender.stream = t.sender.stream) (hr : u.sender.rewindPending = t.sender.rewindPending)
    (hpass : u.sender.pass = t.sender.pass) : TakenUp b p u :=
  ⟨ha.trans h.active, hp.trans h.paused, by rw [hs, hr]; exact h.rewind, hpass.trans h.pass⟩

theorem TakenUp.rewindDueOn (h : TakenUp b p t) : RewindDueOn b t :=
  ⟨h.paused, h.rewind.imp And.right fun ⟨_, hs⟩ => ⟨_, hs, rfl, rfl⟩⟩

/-- The one stream that a take-up lets start is its REWIND, and DATA and copies are held back (R31, R55). -/
theorem TakenUp.served {c : Bearer} (h : TakenUp b p t) (hp : p ≠ .resending) (hu : PortServed c t u) : TakenUp b p u := by
  cases hu with
  | rests => exact h
  | mark k _ => exact h.of_fields (by simp [State.active]) (by simp) (by simp) (by simp) (by simp)
  | waiting w rest _ => exact h.of_fields (by simp [State.active]) (by simp) (by simp) (by simp) (by simp)
  | copy q _ hresending => exact absurd (h.pass.symm.trans hresending) hp
  | data ha hgoing => rw [DataHeld.not_going (.inr (.inr (.inr h.paused))) ha] at hgoing; cases hgoing
  | stream k hidle ha hasked =>
    obtain rfl : b = c := Option.some.inj (h.active.symm.trans ha)
    obtain ⟨-, hpending⟩ | ⟨n, hruns⟩ := h.rewind
    · cases k with
      | rewind =>
        refine ⟨by simpa [State.active] using h.active, (startStream_writes _).2.2.1, .inr ⟨_, (startStream_writes _).2.1⟩, ?_⟩
        simpa [startStream] using h.pass
      | replay => rw [(hasked rfl).1] at hpending; cases hpending
    · simp [streamOn, hruns] at hidle

theorem TakenUp.finish (h : TakenUp b p t) (hp : p ≠ .resending) (joined : Bool) (before : State) :
    TakenUp b p (finish joined before t) :=
  finish_induction h (fun _ ht he => absurd (ht.pass.symm.trans he) hp) (fun _ _ _ ht _ hu => ht.served hp hu)
    (fun _ ht => ht.of_fields rfl rfl rfl rfl rfl) joined before

/-! ## The switch of a drain that no return hold turns back -/

/-- With the session OPEN a drain that switches asks for the take-up on its target (R102, R140, R149). -/
theorem switchDrain_takesUp (hr : s.carry.returnHold ≠ 0 ∨ b = .radio ∨ s.selector.pin ≠ .auto)
    (hs : s.session.status = .opened) :
    TakeUpAsked b.other (if s.sender.store = [] ∧ s.sender.passOwed = false then .none else .waiting)
        (switchDrain updateHold b o s)
      ∧ (switchDrain updateHold b o s).session = s.session ∧ (switchDrain updateHold b o s).sender.passOwed = false
      ∧ (switchDrain updateHold b o s).receiver.attempts = if s.receiver.discard then 1 else s.receiver.attempts := by
  obtain ⟨timer, he⟩ := switchDrain_of_no_return (o := o) hr
  obtain ⟨hasked, hsession, howed, hattempts⟩ :=
    makeActive_takesUp (b := b.other) (s := { s with selector := { s.selector with drainTimer := none } }) hs false
  have hswitched := (hasked.withSelector (switched b o s).selector rfl).withSelector
    { (switched b o s).selector with holdTimer := timer } rfl
  rw [he]
  exact ⟨hswitched.handWanted, by simpa [switched, completeRecord] using hsession,
    by simpa [switched, completeRecord] using howed, by simpa [switched, completeRecord] using hattempts⟩

/-- Outside OPEN a drain that switches sends OPEN on its target (R14, R15, R149). -/
theorem switchDrain_sendsOpen (hr : s.carry.returnHold ≠ 0 ∨ b = .radio ∨ s.selector.pin ≠ .auto)
    (hs : s.session.status ≠ .opened) :
    OpenSent (switchDrain updateHold b o s)
      ∧ (s.session.status = .closed →
        (switchDrain updateHold b o s).session = ⟨.opening, nextEpoch s.session.epoch, some (s.clock + 1000000)⟩)
      ∧ (s.session.status = .opening →
        (switchDrain updateHold b o s).session = ⟨.opening, s.session.epoch, some (s.clock + 1000000)⟩) := by
  obtain ⟨timer, he⟩ := switchDrain_of_no_return (o := o) hr
  set stopped : State := { s with selector := { s.selector with drainTimer := none } }
  have hsent := openSent_makeActive_of_unopened (b := b.other) (s := stopped) hs false
  obtain ⟨hclosed, hopening⟩ := session_makeActive (b := b.other) (s := stopped) false
  have hswitched : OpenSent { switched b o s with selector := { (switched b o s).selector with holdTimer := timer } } :=
    hsent.of_fields rfl rfl rfl fun a _ => by cases a <;> rfl
  rw [he]
  exact ⟨hswitched.handWanted, fun hc => by simpa [switched, completeRecord] using hclosed hc,
    fun ho => by simpa [switched, completeRecord] using hopening ho⟩

end

end Sys2Proof.Machine

open Sys2Proof.Machine in
/-- Settles O20: the switch that an EMPTIED drain makes too, with what the take-up or the OPEN leaves at the event's end. -/
theorem drainTimerExpirySwitches : Obligations.DrainTimerExpirySwitches := by
  intro s b due hr
  refine ⟨fun hn => ?_, fun htimer hs hhold => ?_⟩
  · rw [exec_drainTimerExpiry hr]
    simp only [drainExpires, hn]
  rw [exec_drainTimerExpiry hr, drainExpires_of_draining htimer hs]
  set x := s.advanceTo due
  set u := switchDrain updateHold b .expired x with hu
  obtain ⟨hon, hstopped, hpause, hrecord⟩ := switchDrain_takes (s := x) (source := b) (o := .expired) hhold
  have hactive : (finish false s u).active = some b.other := by simp [State.active, SelectorStatus.active, hu, hon]
  refine ⟨_, rfl, by simpa using hon, by simpa using hstopped, by simp [hu, x], by simpa [x] using hrecord, by simpa using hpause,
    FlagsStand.finish _ _ _ 7 (flag_switchDrain _ _ _), by simp [hu, x, State.advanceTo], fun ho => ?_, fun hc => ?_, fun ho => ?_,
    by simp [hu, x]⟩
  · obtain ⟨hasked, hsession, howed, hattempts⟩ := switchDrain_takesUp (s := x) (b := b) (o := .expired) hhold ho
    have hnot : (if s.sender.store = [] ∧ s.sender.passOwed = false then PassPhase.none else .waiting) ≠ .resending := by
      split <;> simp
    have htaken := hasked.takenUp.finish hnot false s
    have hkept := DataHeld.finish (.inr (.inr (.inr hasked.paused))) false s
    obtain ⟨-, hstore⟩ := hkept.store (by rw [hasked.pass]; exact hnot)
    exact ⟨by simpa [x] using hsession, htaken.rewindDueOn, hkept.n.trans (by simp [x]), hstore.trans (by simp [x]),
      hkept.lanes.trans (by simp [x]), by simpa using howed, htaken.pass, by simpa [x] using hattempts⟩
  · obtain ⟨-, hclosed, -⟩ := switchDrain_sendsOpen (s := x) (b := b) (o := .expired) hhold (by simp [x, hc])
    simp [hu, hclosed hc, x]
  · obtain ⟨hsent, hclosed, hopening⟩ := switchDrain_sendsOpen (s := x) (b := b) (o := .expired) hhold ho
    have hdue := FrameDue.finish rfl (.inl (hsent.waits b.other (by simpa [State.active] using hactive))) false s
    have hsession : u.session.status = .opening ∧ u.session.retry = some (max s.clock due + 1000000) := by
      cases hstatus : s.session.status with
      | closed => rw [hu, hclosed hstatus]; exact ⟨rfl, rfl⟩
      | opening => rw [hu, hopening hstatus]; exact ⟨rfl, rfl⟩
      | opened => exact absurd hstatus ho
    exact ⟨by simpa using hsession.1, by simpa using hsession.2, FrameDue.openDueOn (by simpa using hdue)⟩
end

section
/-! PROOFS. START: the judges that begin, and the wanted level as it is handed over from NONE (R106, R107, R109, R126, R138, R160). -/

namespace Sys2Proof.Machine

section
variable {s t u : State} {b : Bearer} {tag : Byte}

/-! ## Judging begins (R106, R107, R109) -/

/-- A judge at the start of its first interval: a cleared one, numbered 1, with the next tag where its port is open. -/
def Judge.begun (portOpen : Bool) (clock : Nat) (j : Judge) : Judge :=
  { j.cleared with
    count := 1
    linkHeld := portOpen
    timer := some (clock + j.settings.interval * 1000)
    tag := if portOpen then j.tag + 1 else j.tag }

theorem judge_beginJudging (b : Bearer) (s : State) :
    (beginJudging b s).judge b = (s.judge b).begun (s.portOpen b) s.clock := by
  have hcleared : (s.mapJudge b Judge.cleared).judge b = (s.judge b).cleared := by cases b <;> rfl
  have hopen : (s.mapJudge b Judge.cleared).portOpen b = s.portOpen b := by cases b <;> rfl
  rw [beginJudging, judge_startInterval, hcleared, hopen]
  rfl

/-- The PROBE of the first interval waits where the port is open. -/
theorem probe_beginJudging (h : s.portOpen b = true) :
    .probe (s.judge b).tag (probeEpoch s.session.epoch) 1 ∈ (beginJudging b s).waiting b := by
  have hopen : (intervalNumbered b s.clock (s.mapJudge b Judge.cleared)).portOpen b = true := by cases b <;> exact h
  have hwaits := probe_waits false hopen
  rw [beginJudging, (startInterval_keeps s.clock false).2]
  cases b <;> exact hwaits

theorem waiting_other_beginJudging (b : Bearer) (s : State) : (beginJudging b s).waiting b.other = s.waiting b.other := by
  have hprobe : ∀ x : State, (probeDue b false x).waiting b.other = x.waiting b.other := fun x => by
    unfold probeDue
    split <;> cases b <;> rfl
  rw [beginJudging, (startInterval_keeps s.clock false).2, hprobe]
  cases b <;> rfl

@[simp] theorem startedJudging_rests (s : State) :
    (startedJudging s).clock = s.clock ∧ (startedJudging s).home = s.home ∧ (startedJudging s).lanes = s.lanes
      ∧ (startedJudging s).radio.settings = s.radio.settings := by
  unfold startedJudging
  dsimp only
  split <;> simp

/-- The fibre's judge at START (R138). -/
theorem startedJudging_fibre (s : State) : (startedJudging s).fibreJudge = s.fibreJudge.begun s.fibre.linkUp s.clock
    ∧ (s.fibre.linkUp = true →
      .probe s.fibreJudge.tag (probeEpoch s.session.epoch) 1 ∈ (startedJudging s).waiting .fibre) := by
  set outage : State := { s with selector := { s.selector with status := .outage } }
  have hfibre := judge_beginJudging .fibre outage
  have hprobe := probe_beginJudging (b := .fibre) (s := outage)
  have hkept := waiting_other_beginJudging .radio (beginJudging .fibre outage)
  unfold startedJudging
  dsimp only
  split
  · exact ⟨(beginJudging_radio _).2.2.trans hfibre, fun hup => hkept.symm ▸ hprobe hup⟩
  · exact ⟨hfibre, hprobe⟩

/-- The radio's judge at START, with the SIGNAL that goes out before the level is handed over (R114, R138, R167; log entry 41). -/
theorem startedJudging_radio (h : s.radio.status = .ready) :
    (startedJudging s).radioJudge = s.radioJudge.begun true s.clock
      ∧ .probe s.radioJudge.tag (probeEpoch s.session.epoch) 1 ∈ (startedJudging s).waiting .radio
      ∧ (startedJudging s).radio.outstanding.isSome = true ∧ (startedJudging s).radio.linger = s.radio.linger
      ∧ (s.radio.outstanding = none → (startedJudging s).radio.outstanding = some ⟨.signal, s.clock + 2000000⟩) := by
  obtain ⟨fibre, hbegun⟩ : ∃ x, x = beginJudging .fibre { s with selector := { s.selector with status := .outage } } := ⟨_, rfl⟩
  have hradio : fibre.radio = s.radio ∧ fibre.radioJudge = s.radioJudge ∧ fibre.session = s.session ∧ fibre.clock = s.clock := by
    simp [hbegun]
  obtain ⟨hmodule, hjudge, hsession, hclock⟩ := hradio
  have hstarted : startedJudging s = beginJudging .radio fibre := by
    rw [hbegun]
    exact if_pos (by simpa using h)
  have hopen : fibre.portOpen .radio = true := by simp [State.portOpen, hmodule, h]
  have hbegins := judge_beginJudging .radio fibre
  have hwaits := probe_beginJudging hopen
  rw [hopen, hclock] at hbegins
  rw [hsession] at hwaits
  simp only [State.judge, hjudge] at hbegins hwaits
  rw [hstarted]
  refine ⟨hbegins, hwaits, ?_, by simp [hmodule], fun hidle => ?_⟩
  · rw [beginJudging, startInterval_eq]
    cases ho : s.radio.outstanding <;> simp [askSignal, intervalNumbered, hmodule, h, ho]
  · rw [← hclock]
    exact outstanding_startInterval _ _ (by simpa [hmodule] using h) (by simpa [hmodule] using hidle)

/-! ## A wanted level that was NONE (R155, R160, R164) -/

/-- A level that was NONE moves nothing but the module, and notes the radio's eligibility. -/
theorem handWanted_of_unwanted (h : s.selector.wanted = .none) : ∃ r handed, handWanted s = { s with
    selector := { s.selector with wanted := wantedLevel s }
    radio := r
    radioJudge := { s.radioJudge with handed := handed } } := by
  by_cases hmet : wantedLevel s = s.selector.wanted
  · exact ⟨s.radio, s.radioJudge.handed, by rw [handWanted_of_met hmet, hmet]⟩
  · have hlevel : wantedLevel s = .active := by
      cases hw : wantedLevel s with
      | none => exact absurd (hw.trans h.symm) hmet
      | active => rfl
    have hacted : ∃ r, actOnLevel (s.handed (wantedLevel s)) = { s.handed (wantedLevel s) with radio := r } := by
      obtain he | ⟨-, he⟩ | ⟨-, -, he | ⟨-, he⟩ | ⟨hnone, -⟩⟩ := actOnLevel_cases (s.handed (wantedLevel s))
      · exact ⟨_, he⟩
      · exact ⟨_, he⟩
      · exact ⟨_, he⟩
      · exact ⟨_, he⟩
      · exact absurd (hlevel.symm.trans hnone) (by decide)
    obtain ⟨r, hr⟩ := hacted
    rw [handWanted_of_changed hmet, hr]
    exact ⟨r, _, rfl⟩

/-- A module with a command outstanding, or with a level that has not changed, goes on as it was but for the level it holds. -/
theorem radio_handWanted_of_outstanding (h : s.radio.outstanding.isSome = true) (hs : s.radio.status = .ready) :
    (handWanted s).radio.outstanding = s.radio.outstanding ∧ (handWanted s).radio.linger = s.radio.linger := by
  by_cases hmet : wantedLevel s = s.selector.wanted
  · rw [handWanted_of_met hmet]
    exact ⟨rfl, rfl⟩
  · rw [handWanted_of_changed hmet]
    simp [actOnLevel, State.handed, hs, h]

/-- A level that becomes ACTIVE wakes a module that is OFF (R160). -/
theorem radio_handWanted_of_off (hs : s.radio.status = .off) (hw : s.selector.wanted = .none) (hlevel : wantedLevel s = .active) :
    (handWanted s).radio.status = .waking ∧ (handWanted s).radio.modPwr = true
      ∧ (handWanted s).radio.outstanding = some ⟨.powerUp, s.clock + s.radio.settings.wakeLimit * 1000000⟩ := by
  rw [handWanted_of_changed (by simp [hw, hlevel]), actOnLevel_of_off (by simpa [State.handed] using hs) hlevel]
  exact ⟨rfl, rfl, rfl⟩

/-! ## The records where no bearer is active -/

/-- With no bearer active the end of an event leaves the records: no copy leaves (R55, R97). -/
theorem store_finish_of_inactive (h : s.active = none) (joined : Bool) (before : State) :
    (finish joined before s).sender.store = s.sender.store := by
  have hkept : (finish joined before s).active = none ∧ (finish joined before s).sender.store = s.sender.store :=
    finish_induction (P := fun t => t.active = none ∧ t.sender.store = s.sender.store) ⟨h, rfl⟩
      (fun _ ht _ => ht) (fun _ _ _ ⟨hnone, hstore⟩ _ hu => by
        cases hu with
        | rests => exact ⟨hnone, hstore⟩
        | mark k _ => exact ⟨by simpa [State.active] using hnone, by simpa using hstore⟩
        | waiting w rest _ => exact ⟨by simpa [State.active] using hnone, by simpa using hstore⟩
        | stream _ _ ha _ => rw [hnone] at ha; cases ha
        | copy _ ha _ => rw [hnone] at ha; cases ha
        | data ha _ => rw [hnone] at ha; cases ha)
      (fun _ ht => ht) joined before
  exact hkept.2

/-! ## START (R138) -/

theorem exec_start_of_takes {a : Answer} (h : Takes s 0x0D tag []) (ha : answerStart [] s = a) :
    exec .start s = .next (finish a.opportunity s (a.effect (s.replied 0x0D tag a.body))) :=
  runActing_of_takes h rfl rfl ha

theorem answerStart_of_carrying (h : s.selector.status ≠ .stopped) : answerStart [] s = .refuse .wrongState := if_neg h

theorem exec_start_of_stopped (h : Takes s 0x0D tag []) (hs : s.selector.status = .stopped) :
    exec .start s = .next (finish false s (startCarrying (s.replied 0x0D tag [0]))) := by
  rw [exec_start_of_takes h (if_pos hs)]
  rfl

/-- START's state as the wanted level is handed over: what is reported and started leaves what waits (R138). -/
def outageBegun (s : State) : State := report .outageBegin (startDecay (startedJudging s))

theorem startCarrying_of_unwanted (h : s.selector.wanted = .none) : ∃ r handed, startCarrying s = { outageBegun s with
    selector := { (outageBegun s).selector with wanted := wantedLevel (outageBegun s) }
    radio := r
    radioJudge := { (outageBegun s).radioJudge with handed := handed } } :=
  handWanted_of_unwanted (s := outageBegun s) (by simpa [outageBegun] using h)

theorem selector_startCarrying (s : State) : (startCarrying s).selector = { s.selector with
    status := .outage
    wanted := if s.selector.pin = .only .fibre then .none else .active } := by
  have hlevel : wantedLevel (outageBegun s) = if s.selector.pin = .only .fibre then .none else .active := by
    simp [wantedLevel, outageBegun]
  change (handWanted (outageBegun s)).selector = _
  rw [selector_handWanted, hlevel]
  simp [outageBegun]

/-- The judges at the end of START's event: but for the decay clocks, the probe tables and the noted eligibility they stand as
they began. -/
theorem judges_startCarrying (h : s.selector.wanted = .none) (joined : Bool) (before : State) :
    (∃ table, (finish joined before (startCarrying s)).fibreJudge = { s.fibreJudge.begun s.fibre.linkUp s.clock with
        decay := some (s.clock + s.fibreJudge.damping.period * 1000000)
        table := table })
      ∧ ∃ table handed, (finish joined before (startCarrying s)).radioJudge = { (startedJudging s).radioJudge with
        decay := some (s.clock + s.radioJudge.damping.period * 1000000)
        handed := handed
        table := table } := by
  obtain ⟨module, handed, hstarted⟩ := startCarrying_of_unwanted h
  obtain ⟨q, hq⟩ := judge_finish joined before (startCarrying s) .fibre
  obtain ⟨q', hq'⟩ := judge_finish joined before (startCarrying s) .radio
  refine ⟨⟨q, hq.trans ?_⟩, q', handed, hq'.trans ?_⟩
  · rw [← (startedJudging_fibre s).1]
    simp [hstarted, State.judge, outageBegun, startDecay, State.inSeconds]
  · simp [hstarted, State.judge, outageBegun, startDecay, State.inSeconds]

/-- What waits when judging has begun is due at the end of START's event. -/
theorem due_startCarrying {w : WaitingFrame} (h : s.selector.wanted = .none) (hv : w.isTally = false)
    (hw : w ∈ (startedJudging s).waiting b) (joined : Bool) (before : State) :
    FrameDue b w (finish joined before (startCarrying s)) := by
  obtain ⟨module, handed, hstarted⟩ := startCarrying_of_unwanted h
  have hwaits : (startCarrying s).waiting b = (startedJudging s).waiting b := by
    rw [hstarted]
    cases b <;> simp [State.waiting, outageBegun, startDecay]
  exact FrameDue.finish hv (.inl (hwaits ▸ hw)) joined before

/-- A SIGNAL that START sends leaves the linger timer as it was (R164; log entry 41). -/
theorem radio_startCarrying_of_ready (h : s.radio.status = .ready) (ho : s.radio.outstanding = none) :
    (startCarrying s).radio.outstanding = some ⟨.signal, s.clock + 2000000⟩
      ∧ (startCarrying s).radio.linger = s.radio.linger := by
  obtain ⟨-, -, hasked, hlinger, hsignal⟩ := startedJudging_radio h
  obtain ⟨hkept, hkeptLinger⟩ := radio_handWanted_of_outstanding (s := outageBegun s)
    (by simpa [outageBegun, startDecay] using hasked) (by simpa [outageBegun] using h)
  exact ⟨hkept.trans (by simpa [outageBegun, startDecay] using hsignal ho),
    hkeptLinger.trans (by simpa [outageBegun, startDecay] using hlinger)⟩

/-- A wanted module that is OFF wakes (R160). -/
theorem radio_startCarrying_of_off (h : s.radio.status = .off) (hw : s.selector.wanted = .none)
    (hp : s.selector.pin ≠ .only .fibre) :
    (startCarrying s).radio.status = .waking ∧ (startCarrying s).radio.modPwr = true
      ∧ (startCarrying s).radio.outstanding = some ⟨.powerUp, s.clock + s.radio.settings.wakeLimit * 1000000⟩ := by
  obtain ⟨hstatus, hpower, hsent⟩ := radio_handWanted_of_off (s := outageBegun s) (by simpa [outageBegun] using h)
    (by simpa [outageBegun] using hw) (by simp [wantedLevel, outageBegun, hp])
  have hkept : (outageBegun s).clock = s.clock ∧ (outageBegun s).radio.settings = s.radio.settings := by
    simp [outageBegun, startDecay]
  rw [hkept.1, hkept.2] at hsent
  exact ⟨hstatus, hpower, hsent⟩

end

end Sys2Proof.Machine

open Sys2Proof.Machine in
/-- Settles O16: a level that was NONE reaches the module alone, so that the judges stand at the event's end as START began them. -/
theorem startBeginsCarrying : Obligations.StartBeginsCarrying := by
  intro s tag h
  refine ⟨fun hs => ?_, fun hs hw => ?_⟩
  · rw [exec_start_of_takes h (answerStart_of_carrying hs)]
    rfl
  intro level
  have hexec := exec_start_of_stopped h hs
  set r := s.replied 0x0D tag [0] with hr
  set u := startCarrying r with hu
  obtain ⟨-, -, -, -, hunjudged⟩ := startedJudging_writes r
  obtain ⟨⟨table, hfibre⟩, table', handed, hradio⟩ := judges_startCarrying (s := r) hw false s
  have hsession : (finish false s u).session = s.session := by simp [hu, startCarrying_eq, hr, State.replied]
  have hinactive : u.active = none := by simp [hu, State.active, selector_startCarrying, SelectorStatus.active]
  have hkept := DataHeld.finish (.inl hinactive) false s
  refine ⟨_, hexec, ?_, ?_, ?_, ?_, ?_, ?_, ?_, fun hup => ?_, ?_, ?_, ?_, ?_, fun hready => ?_, fun hready => ?_,
    fun hoff hactive => ?_, hsession, ?_, ?_, ?_, ?_, ?_⟩
  · exact Eq.trans (by simp [hu]) (selector_startCarrying r)
  · exact FlagsStand.finish _ _ _ 8 (FlagsStand.handWanted _ 8 (flag_report .outageBegin _))
  · rw [hfibre]; rfl
  · rw [hfibre]; rfl
  · rw [hfibre]; rfl
  · rw [hfibre]; rfl
  · rw [hfibre]; rfl
  · exact FrameDue.probeDueOn (hsession ▸ due_startCarrying (s := r) hw rfl ((startedJudging_fibre r).2 hup) false s)
  · rw [hfibre]; rfl
  · rw [hfibre]; rfl
  · rw [hfibre]; rfl
  · rw [hradio]; rfl
  · obtain ⟨hbegun, hprobe, -, -, -⟩ := startedJudging_radio (s := r) hready
    rw [hradio, hbegun]
    refine ⟨rfl, rfl, rfl, rfl, ?_, fun ho => ?_⟩
    · exact FrameDue.probeDueOn (hsession ▸ due_startCarrying (s := r) hw rfl hprobe false s)
    · obtain ⟨hsignal, hlinger⟩ := radio_startCarrying_of_ready (s := r) hready ho
      exact ⟨Eq.trans (by simp [hu]) hsignal, Eq.trans (by simp [hu]) hlinger⟩
  · rw [hradio, hunjudged hready]
    exact ⟨rfl, rfl⟩
  · have hpin : r.selector.pin ≠ .only .fibre := fun hp => by
      have hnone : level = .none := if_pos hp
      rw [hnone] at hactive
      cases hactive
    obtain ⟨hstatus, hpower, hsent⟩ := radio_startCarrying_of_off (s := r) hoff hw hpin
    exact ⟨Eq.trans (by simp [hu]) hstatus, Eq.trans (by simp [hu]) hpower, Eq.trans (by simp [hu]) hsent⟩
  · simp [hu, startCarrying_eq, hr, State.replied]
  · simp [hu, startCarrying_eq, hr, State.replied]
  · exact hkept.lanes.trans (by simp [hu, startCarrying_eq, hr, State.replied])
  · exact hkept.n.trans (by simp [hu, startCarrying_eq, hr, State.replied])
  · exact (store_finish_of_inactive hinactive false s).trans (by simp [hu, startCarrying_eq, hr, State.replied])
end

section
/-! PROOFS. What PIN comes to in each state of the selector (R121, R146, R148, R150, R152). -/

namespace Sys2Proof.Machine

section
variable {s t : State} {b : Bearer} {p : PinValue}

/-! ## The return hold under a pin (R145) -/

/-- The state with another return hold timer. -/
def State.withHold (s : State) (d : Timer) : State := { s with selector := { s.selector with holdTimer := d } }

theorem withHold_of_eq {d : Timer} (h : s.selector.holdTimer = d) : s.withHold d = s := by
  subst h
  rfl

/-- A selector that has acted on all it was told has its return hold as it should be (R145). -/
theorem updateHold_of_placed (h : Placed s) : updateHold s = s := by
  cases hw : holdWanted s with
  | true => simp [updateHold, hw, h.hold.2 hw]
  | false =>
    have hn : s.selector.holdTimer = none := by simpa [hw] using h.hold
    exact (updateHold_of_not_wanted hw).trans (withHold_of_eq hn)

/-- Where no return hold of 0 s turns the selector back, the hold goes on, starts at its full length, or stops (R145). -/
theorem updateHold_of_settled (h : s.carry.returnHold ≠ 0 ∨ s.selector.holdTimer.isSome = true ∨ holdWanted s = false) :
    updateHold s = s.withHold (if holdWanted s = true then
      (if s.selector.holdTimer.isSome then s.selector.holdTimer else some (s.clock + s.carry.returnHold * 1000000)) else none) := by
  cases hw : holdWanted s with
  | false => exact updateHold_of_not_wanted hw
  | true =>
    cases hd : s.selector.holdTimer.isSome with
    | true => simp [updateHold, hw, hd, State.withHold]
    | false =>
      have hlong : s.carry.returnHold ≠ 0 := by simpa [hw, hd] using h
      simp [updateHold, hw, hd, hlong, State.withHold, State.inSeconds]

/-- The return hold is settled once. -/
theorem updateHold_twice (h : s.carry.returnHold ≠ 0 ∨ s.selector.holdTimer.isSome = true ∨ holdWanted s = false) :
    updateHold (updateHold s) = updateHold s := by
  rw [updateHold_of_settled h]
  have hsame : ∀ d, holdWanted (s.withHold d) = holdWanted s := fun d => rfl
  cases hw : holdWanted s with
  | false => exact updateHold_of_not_wanted ((hsame _).trans hw)
  | true =>
    have hset : ∀ d : Timer, d.isSome = true → updateHold (s.withHold d) = s.withHold d := fun d hd => by
      rw [updateHold, hsame, hw, if_pos rfl]
      exact if_pos hd
    refine hset _ ?_
    cases hd : s.selector.holdTimer.isSome <;> simp [hd]

theorem pinAction_of_placed (h : Placed s) (hp : s.selector.pin = p) : pinAction p s = s := by
  unfold pinAction
  split
  · rfl
  · next hs => simp [takeFromOutage, h.outage hs]
  · next c hs =>
    have hm := h.on c hs
    simp only [State.mayTake, Bool.and_eq_true, hp] at hm
    rw [if_pos hm.2, updateHold_of_placed h]
  · rfl

/-! ## The judges under a PIN (R121) -/

theorem startDrain_fibreJudge (b : Bearer) (s : State) : (startDrain updateHold b s).fibreJudge = s.fibreJudge := by
  have hbegun : (handWanted (enterDrain b s)).fibreJudge = s.fibreJudge := handWanted_fibreJudge _
  unfold startDrain
  dsimp only
  split
  · rw [fibreJudge_switchDrain updateHold_fibreJudge, hbegun]
  · exact hbegun

theorem pinAction_fibreJudge (p : PinValue) (s : State) : (pinAction p s).fibreJudge = s.fibreJudge := by
  unfold pinAction leaveBearer takeFromOutage
  (repeat' split) <;> simp [startDrain_fibreJudge]

theorem rework_fibreJudge (s : State) :
    (rework .fibre s).fibreJudge = { s.fibreJudge with handed := s.eligible .fibre } := by
  rw [rework_eq]
  split
  · next he => rw [he]; rfl
  · exact onEligibility_fibreJudge _ _

theorem abandonDrain_fibreJudge (b : Bearer) (o : HandoverOutcome) (s : State) :
    (abandonDrain b o s).fibreJudge = s.fibreJudge := by
  unfold abandonDrain
  dsimp only
  split <;> simp [completeRecord]

/-- Whatever PIN does, the fibre's eligibility under the new pin is noted (R121, R146). -/
theorem handed_takePin (p : PinValue) (s : State) : (takePin p s).fibreJudge.handed = (setPin p s).eligible .fibre := by
  unfold takePin
  split
  · split
    · have hjudge := abandonDrain_fibreJudge
      simp only [handWanted_fibreJudge, rework_fibreJudge, State.eligible, State.judge, hjudge]
      simp
    · rw [handWanted_fibreJudge, rework_fibreJudge]
  · rw [handWanted_fibreJudge, pinAction_fibreJudge, rework_fibreJudge]

theorem pin_takePin (p : PinValue) (s : State) : (takePin p s).selector.pin = p := by
  unfold takePin
  (repeat' split) <;> simp [setPin]

/-! ## PIN in each state of the selector (R146) -/

theorem takePin_outside_drain (hs : ∀ c, s.selector.status ≠ .draining c) :
    takePin p s = handWanted (pinAction p (rework .fibre (setPin p s))) := by
  unfold takePin
  split
  · next c hc => exact absurd hc (hs c)
  · rfl

/-- In STOPPED the pin is set, and that is all (R146). -/
theorem takePin_of_stopped (h : Lawful s) (hs : s.selector.status = .stopped) : takePin p s = setPin p s := by
  have hdown : s.fibreJudge.verdict = .down := h.placed.verdict_down (b := .fibre) (h.placed.radioJudge_unjudged hs).1
  have hsame : (setPin p s).eligible .fibre = s.fibreJudge.handed :=
    (eligible_of_down (b := .fibre) (s := setPin p s) hdown).trans ((h.placed.handed .fibre).trans (eligible_of_down (b := .fibre) hdown)).symm
  have hkept : rework .fibre (setPin p s) = setPin p s := if_pos hsame
  have hunwanted : s.selector.wanted = .none := h.wantedMet.trans (by simp [wantedLevel, hs])
  rw [takePin_outside_drain (by simp [hs]), hkept]
  have hstays : pinAction p (setPin p s) = setPin p s := by simp [pinAction, setPin, hs]
  rw [hstays]
  exact handWanted_of_met (by simp [wantedLevel, setPin, hs, hunwanted])

/-- An active fibre that the new pin makes ineligible is lost (R121, R142, R146). -/
theorem takePin_of_fibre_lost (h : Placed s) (hs : s.selector.status = .on .fibre)
    (hf : (setPin p s).eligible .fibre = false) :
    takePin p s = handWanted (loseActive .fibre (pinned p s)) ∧ (loseActive .fibre (pinned p s)).selector.holdTimer = none := by
  have hhanded : s.fibreJudge.handed = true := (h.handed .fibre).trans (h.eligible_on hs)
  have hlost : (pinned p s).eligible .fibre = false := by rwa [pinned, eligible_noted]
  have hplaced : Placed (loseActive .fibre (pinned p s)) :=
    (h.moving_pinned p (by simp [hs])).loseActive (by simpa using h.drainTimer_eq_none (by simp [hs])) hlost
  have hleft : rework .fibre (setPin p s) = loseActive .fibre (pinned p s) := by
    rw [rework_setPin_of_changed (by simp [hf, hhanded])]
    simp [onEligibility, hs, hlost]
  refine ⟨?_, ?_⟩
  · rw [takePin_outside_drain (by simp [hs]), hleft, pinAction_of_placed hplaced (by simp)]
  · have hidle : holdWanted (loseActive .fibre (pinned p s)) = false := by
      have hdown : (loseActive .fibre (pinned p s)).eligible .fibre = false :=
        (hplaced.handed .fibre).symm.trans (by
          have hkept : (loseActive .fibre (pinned p s)).fibreJudge.handed = (pinned p s).fibreJudge.handed := by simp
          exact hkept.trans hf)
      simp [holdWanted, hdown]
    simpa [hidle] using hplaced.hold

/-- On a bearer that stays eligible the fibre's eligibility moves the return hold at most, before the pin's own action. -/
theorem takePin_of_on (h : Placed s) (hs : s.selector.status = .on b)
    (hf : b = .radio ∨ (setPin p s).eligible .fibre = true) :
    takePin p s = handWanted (pinAction p (pinned p s)) ∨ takePin p s = handWanted (pinAction p (updateHold (pinned p s))) := by
  rw [takePin_outside_drain (by simp [hs])]
  by_cases he : (setPin p s).eligible .fibre = s.fibreJudge.handed
  · rw [rework_setPin_of_handed he]
    exact .inl rfl
  · obtain rfl | hf := hf
    · refine .inr ?_
      rw [rework_setPin_of_changed he]
      simp [onEligibility, hs]
    · cases b with
      | fibre => exact absurd (hf.trans ((h.handed .fibre).trans (h.eligible_on hs)).symm) he
      | radio =>
        refine .inr ?_
        rw [rework_setPin_of_changed he]
        simp [onEligibility, hs]

/-- A bearer that the pin permits stays active, with the return hold as it should be (R145, R146). -/
theorem takePin_of_permitted (h : Placed s) (hs : s.selector.status = .on b) (hp : p.permits b = true)
    (hf : b = .radio ∨ (setPin p s).eligible .fibre = true)
    (hold : s.carry.returnHold ≠ 0 ∨ s.selector.holdTimer.isSome = true ∨ holdWanted (pinned p s) = false) :
    takePin p s = handWanted ((pinned p s).withHold (if holdWanted (pinned p s) = true then
      (if s.selector.holdTimer.isSome then s.selector.holdTimer else some (s.clock + s.carry.returnHold * 1000000)) else none)) := by
  have hsettled : (pinned p s).carry.returnHold ≠ 0 ∨ (pinned p s).selector.holdTimer.isSome = true
      ∨ holdWanted (pinned p s) = false := hold
  have hpermitted : ∀ x : State, x.selector.status = .on b → pinAction p x = updateHold x := fun x hx => by
    simp [pinAction, hx, hp]
  have hupdated := updateHold_of_settled hsettled
  have hacts : takePin p s = handWanted (updateHold (pinned p s)) := by
    obtain he | he := takePin_of_on h hs hf <;> rw [he]
    · rw [hpermitted _ (by simpa using hs)]
    · rw [hpermitted _ (by simpa [hupdated, State.withHold] using hs), updateHold_twice hsettled]
  rw [hacts, hupdated]
  rfl

/-- A bearer that the pin does not permit is left for the other one or for OUTAGE (R146). -/
theorem takePin_of_other (h : Placed s) (hs : s.selector.status = .on b)
    (hf : b = .radio ∨ (setPin (.only b.other) s).eligible .fibre = true) :
    ∃ d, takePin (.only b.other) s = handWanted (leaveBearer b ((pinned (.only b.other) s).withHold d)) := by
  have hnot : (PinValue.only b.other).permits b = false := by cases b <;> rfl
  have hleaves : ∀ x : State, x.selector.status = .on b → pinAction (.only b.other) x = leaveBearer b x := fun x hx => by
    simp [pinAction, hx, hnot]
  obtain he | he := takePin_of_on h hs hf <;> rw [he]
  · exact ⟨_, by rw [hleaves _ (by simpa using hs), withHold_of_eq rfl]⟩
  · have hstopped : updateHold (pinned (.only b.other) s) = (pinned (.only b.other) s).withHold none :=
      updateHold_of_not_wanted (by simp [holdWanted])
    exact ⟨none, by rw [hstopped, hleaves _ (by simpa [State.withHold] using hs)]⟩

/-- In OUTAGE a permitted eligible bearer is taken, the fibre first (R141, R146). -/
theorem takePin_of_outage (h : Placed s) (hs : s.selector.status = .outage) :
    takePin p s = handWanted (takeFromOutage (pinned p s)) := by
  have hmov := h.moving_pinned p (by simp [hs])
  have hacts : pinAction p (pinned p s) = takeFromOutage (pinned p s) := by simp [pinAction, hs]
  rw [takePin_outside_drain (by simp [hs])]
  by_cases he : (setPin p s).eligible .fibre = s.fibreJudge.handed
  · rw [rework_setPin_of_handed he, hacts]
  · rw [rework_setPin_of_changed he]
    by_cases hm : (pinned p s).mayTake .fibre = true
    · have hforced : onEligibility .fibre (pinned p s) = forceTo none .fibre (pinned p s) := by simp [onEligibility, hs, hm]
      have hplaced := hmov.forceTo none .fibre (by simpa using h.drainTimer_eq_none (by simp [hs])) hm
      rw [hforced, pinAction_of_placed hplaced (by simp), takeFromOutage, if_pos hm]
    · have hstays : onEligibility .fibre (pinned p s) = pinned p s := by simp [onEligibility, hs, hm]
      rw [hstays, hacts]

/-- In a drain a PIN of AUTO goes on with it while the fibre is eligible, and else gives up the drain to the fibre (R150, R152). -/
theorem takePin_of_draining_auto (h : Placed s) (hs : s.selector.status = .draining b) :
    ((setPin .auto s).eligible .fibre = true → takePin .auto s = handWanted (pinned .auto s))
      ∧ ((setPin .auto s).eligible .fibre = false → b = .radio
        ∧ takePin .auto s = handWanted (abandonDrain .radio .targetLost (pinned .auto s))) := by
  obtain ⟨he, hm⟩ := h.drains b hs
  have hother : s.eligible b.other = true ∧ s.selector.pin.permits b.other = true := by simpa [State.mayTake] using hm
  have hhanded : s.fibreJudge.handed = true := (h.handed .fibre).trans (by cases b; exacts [he, hother.1])
  have htaken : takePin .auto s = handWanted (rework .fibre (setPin .auto s)) := by simp [takePin, hs]
  refine ⟨fun hf => ?_, fun hf => ?_⟩
  · rw [htaken, rework_setPin_of_handed (hf.trans hhanded.symm)]
  · have hlost : (pinned .auto s).eligible .fibre = false := by rwa [pinned, eligible_noted]
    cases b with
    | fibre =>
      have hpin : s.selector.pin ≠ .only .fibre := fun hp => by
        have := hother.2
        simp [hp, PinValue.permits, Bearer.other] at this
      simp [State.eligible, hpin] at he
      simp [State.eligible, setPin, State.judge] at hf
      exact absurd (hf he.1) (by simpa [State.judge] using he.2)
    | radio =>
      refine ⟨rfl, ?_⟩
      rw [htaken, rework_setPin_of_changed (by simp [hf, hhanded])]
      simp [onEligibility, hs, hlost]

/-- In a drain a PIN that names its source goes back there (R150; log entry 33). -/
theorem takePin_of_draining_source (h : Placed s) (hs : s.selector.status = .draining b) :
    let t := takePin (.only b) s
    t.selector.status = .on b ∧ t.selector.drainTimer = none
      ∧ t.selector.record = s.selector.record.map (fun r => { r with outcome := some .pinBack }) := by
  set y := abandonDrain b .pinBack (setPin (.only b) s) with hy
  have hback : y = handWanted (updateHold (sourceKept b (setPin (.only b) s))) := abandonDrain_pinBack b s
  have hidle : holdWanted (sourceKept b (setPin (.only b) s)) = false := by simp [holdWanted, sourceKept, completeRecord, setPin]
  have hselector : y.selector.status = .on b ∧ y.selector.pin = .only b ∧ y.selector.drainTimer = none
      ∧ y.selector.record = s.selector.record.map (fun r => { r with outcome := some .pinBack }) := by
    rw [hback, updateHold_of_not_wanted hidle]
    simp [sourceKept, completeRecord, setPin]
  obtain ⟨hon, hpin, htimer, hrecord⟩ := hselector
  have hreworked : ∃ d, (rework .fibre y).selector = { y.selector with holdTimer := d } := by
    by_cases he : y.eligible .fibre = (y.judge .fibre).handed
    · exact ⟨y.selector.holdTimer, congrArg State.selector (if_pos he)⟩
    · have hjudge : y.fibreJudge = s.fibreJudge := abandonDrain_fibreJudge _ _ _
      cases b with
      | fibre =>
        obtain ⟨hup, -⟩ := h.drains .fibre hs
        have hhanded : s.fibreJudge.handed = true := (h.handed .fibre).trans hup
        simp only [State.eligible, State.judge, Bool.and_eq_true] at hup
        exact absurd (by simp [State.eligible, State.judge, hjudge, hup.1, hpin, hhanded]) he
      | radio =>
        have hquiet : holdWanted (noted .fibre y) = false := by simp [holdWanted, hpin]
        have hacts : onEligibility .fibre (noted .fibre y) = updateHold (noted .fibre y) := by simp [onEligibility, hon]
        rw [rework_eq, if_neg he, hacts, updateHold_of_not_wanted hquiet]
        exact ⟨none, by simp⟩
  obtain ⟨d, hd⟩ := hreworked
  have htaken : takePin (.only b) s = handWanted (rework .fibre y) := by simp [takePin, hs, hy]
  simp [htaken, hd, hon, htimer, hrecord]

end

end Sys2Proof.Machine
end

section
/-! PROOFS. PIN: the table of R146, row by row. -/

namespace Sys2Proof.Machine

section
variable {s t : State} {b : Bearer} {p : PinValue} {tag c : Byte}

/-! ## A PIN that is taken or refused (R146) -/

theorem exec_pin_of_takes {a : Answer} (h : Takes s 0x0F tag [c]) (ha : answerPin [c] s = a) :
    exec .pin s = .next (finish a.opportunity s (a.effect (s.replied 0x0F tag a.body))) :=
  runActing_of_takes h rfl rfl ha

theorem pinOfCode_of_large (h : 3 ≤ c.toNat) : pinOfCode c = none := by
  unfold pinOfCode
  rw [if_neg (by bv_omega), if_neg (by bv_omega), if_neg (by bv_omega)]

theorem answerPin_of_large (h : 3 ≤ c.toNat) : answerPin [c] s = .refuse .badValue := withBody_of_none (pinOfCode_of_large h)

theorem answerPin_of_target (hc : pinOfCode c = some (.only b.other)) (hs : s.selector.status = .draining b) :
    answerPin [c] s = .refuse .busy := by
  have hbody : answerPin [c] s = if namesTarget (.only b.other) s then .refuse .busy else .apply (takePin (.only b.other)) :=
    withBody_of_some hc
  rw [hbody, if_pos (by simp [namesTarget, hs])]

theorem exec_pin_of_some (h : Takes s 0x0F tag [c]) (hc : pinOfCode c = some p) (hn : namesTarget p s = false) :
    exec .pin s = .next (finish false s (takePin p (s.replied 0x0F tag [0]))) := by
  have hbody : answerPin [c] s = if namesTarget p s then .refuse .busy else .apply (takePin p) := withBody_of_some hc
  have ha : answerPin [c] s = .apply (takePin p) := by rw [hbody, hn, if_neg Bool.false_ne_true]
  rw [exec_pin_of_takes h ha]
  rfl

theorem namesTarget_outside_drain (hs : ∀ c, s.selector.status ≠ .draining c) : namesTarget p s = false := by
  unfold namesTarget
  split
  · next c hc => exact absurd hc (hs c)
  · rfl

/-! ## The bearers under the new pin (R121) -/

theorem eligible_pinned (p : PinValue) (s : State) (b : Bearer) : (pinned p s).eligible b = if b = .fibre then
    s.fibreJudge.verdict == .up && (!s.fibreJudge.suppressed || p == .only .fibre)
    else s.radioJudge.verdict == .up && !s.radioJudge.suppressed := by
  rw [pinned, eligible_noted]
  have hother : (Bearer.radio == Bearer.fibre) = false := rfl
  cases b <;> simp [State.eligible, setPin, State.judge, hother]

theorem permits_eq (p : PinValue) (b : Bearer) : p.permits b = (p == .auto || p == .only b) := by
  cases p with
  | auto => rfl
  | only c => cases b <;> cases c <;> rfl

/-! ## What the selector shows after a row of the table -/

/-- A drain that PIN starts: planned, from the bearer left, and done at once with an empty store (R146, R148). -/
theorem startDrain_under_pin (hp : s.selector.pin ≠ .auto) :
    (s.sender.store ≠ [] → (startDrain updateHold b s).selector.status = .draining b
        ∧ (startDrain updateHold b s).selector.record = some ⟨some b, b.other, .planned, s.ms, none⟩)
      ∧ (s.sender.store = [] → (startDrain updateHold b s).selector.status = .on b.other
        ∧ (startDrain updateHold b s).selector.record = some ⟨some b, b.other, .planned, s.ms, some .emptied⟩) := by
  have hstarted := selector_drainStarted b s
  refine ⟨fun hstore => ?_, fun hstore => ?_⟩
  · rw [startDrain_of_records hstore, hstarted]
    exact ⟨rfl, rfl⟩
  · rw [startDrain_of_empty hstore]
    obtain ⟨hon, -, -, hrecord⟩ := switchDrain_takes (s := handWanted (enterDrain b s)) (source := b) (o := .emptied)
      (.inr (.inr (by simpa [hstarted] using hp)))
    rw [hstarted] at hrecord
    exact ⟨hon, hrecord⟩

/-- A bearer taken from OUTAGE by PIN, where the fibre goes first (R141, R146). -/
theorem takeFromOutage_takes (hf : b = .radio → s.mayTake .fibre = false) (hb : s.mayTake b = true) :
    (takeFromOutage s).selector.status = .on b
      ∧ (takeFromOutage s).selector.record = some ⟨none, b, .forced, s.ms, some .done⟩ := by
  have htaken : takeFromOutage s = forceTo none b s := by
    cases b with
    | fibre => exact if_pos hb
    | radio => rw [takeFromOutage, hf rfl, if_neg Bool.false_ne_true, if_pos hb]
  have hidle : holdWanted (makeActive b true s) = false := by
    cases b with
    | fibre => simp [holdWanted]
    | radio =>
      have hbarred := hf rfl
      cases hpin : s.selector.pin with
      | only d => simp [holdWanted, hpin]
      | auto =>
        have hlost : s.eligible .fibre = false := by simpa [State.mayTake, hpin, PinValue.permits] using hbarred
        simp [holdWanted, hlost]
  obtain ⟨hon, -, hrecord, -, -⟩ := forceTo_takes (source := none) hidle
  rw [htaken]
  exact ⟨hon, by rw [hrecord]; simp [State.ms]⟩

theorem takeFromOutage_stays (hf : s.mayTake .fibre = false) (hr : s.mayTake .radio = false) : takeFromOutage s = s := by
  simp [takeFromOutage, hf, hr]

/-! ## The rows of the table, before the event ends -/

/-- An active fibre that the new pin makes ineligible is left for an eligible radio, or for OUTAGE. -/
theorem row_fibre_lost (h : Placed s) (hs : s.selector.status = .on .fibre) (hf : (setPin p s).eligible .fibre = false) :
    (s.eligible .radio = true →
        (takePin p s).selector.status = .on .radio ∧ (takePin p s).selector.holdTimer = none
          ∧ (takePin p s).selector.record = some ⟨some .fibre, .radio, .forced, s.ms, some .done⟩
          ∧ (takePin p s).events.flags.getLsbD 7 = true)
      ∧ (s.eligible .radio = false →
        (takePin p s).selector.status = .outage ∧ (takePin p s).events.flags.getLsbD 8 = true) := by
  obtain ⟨hacts, hhold⟩ := takePin_of_fibre_lost h hs hf
  set x := loseActive .fibre (pinned p s) with hx
  have hpermits : p.permits .radio = true := by
    have hup := h.eligible_on hs
    simp only [State.eligible, State.judge, Bool.and_eq_true, beq_iff_eq] at hup
    rw [permits_eq]
    cases p with
    | auto => rfl
    | only d =>
      cases d with
      | fibre => simp [State.eligible, State.judge, setPin, hup.1] at hf
      | radio => rfl
  have hmay : (pinned p s).mayTake Bearer.fibre.other = s.eligible .radio := by
    rw [State.mayTake, selector_pinned, pinned, eligible_noted]
    simp [hpermits, Bearer.other, eligible_radio_setPin]
  have hms : x.ms = s.ms := by simp [hx, State.ms, pinned, noted, setPin]
  obtain ⟨htaken, hout⟩ := activeLeft_loseActive (b := .fibre) (s := pinned p s) (by rwa [pinned, eligible_noted])
  rw [hacts]
  refine ⟨fun hu => ?_, fun hu => ?_⟩
  · obtain ⟨hon, hflag, hrecord⟩ := htaken (hmay.trans hu)
    rw [← hx, hms] at hrecord
    exact ⟨Eq.trans (by simp [hx]) hon, Eq.trans (by simp) hhold, Eq.trans (by simp) hrecord, FlagsStand.handWanted _ 7 hflag⟩
  · obtain ⟨hstatus, hflag⟩ := hout (hmay.trans hu)
    exact ⟨Eq.trans (by simp [hx]) hstatus, FlagsStand.handWanted _ 8 hflag⟩

/-- A bearer that stays eligible is left, under a pin that names the other one, by a drain or for OUTAGE. -/
theorem row_other_named (h : Placed s) (hs : s.selector.status = .on b)
    (hf : b = .radio ∨ (setPin (.only b.other) s).eligible .fibre = true) :
    let t := takePin (.only b.other) s
    ((pinned (.only b.other) s).eligible b.other = false → t.selector.status = .outage ∧ t.events.flags.getLsbD 8 = true)
      ∧ ((pinned (.only b.other) s).eligible b.other = true →
        (s.sender.store ≠ [] → t.selector.status = .draining b
            ∧ t.selector.record = some ⟨some b, b.other, .planned, s.ms, none⟩)
          ∧ (s.sender.store = [] → t.selector.status = .on b.other
            ∧ t.selector.record = some ⟨some b, b.other, .planned, s.ms, some .emptied⟩)) := by
  intro t
  obtain ⟨d, hacts⟩ := takePin_of_other h hs hf
  set y := (pinned (.only b.other) s).withHold d with hy
  have ht : t = handWanted (leaveBearer b y) := hacts
  have hother : y.eligible b.other = (pinned (.only b.other) s).eligible b.other := rfl
  rw [ht, ← hother]
  refine ⟨fun hu => ?_, fun hu => ?_⟩
  · have hleft : leaveBearer b y = enterOutage y := if_neg (by simp [hu])
    rw [hleft, enterOutage_eq]
    exact ⟨by simp, FlagsStand.handWanted _ 8 (FlagsStand.handWanted _ 8 (flag_report .outageBegin _))⟩
  · have hleft : leaveBearer b y = startDrain updateHold b y := if_pos hu
    obtain ⟨hrecords, hempty⟩ := startDrain_under_pin (b := b) (s := y) (by simp [hy, State.withHold])
    rw [hleft]
    simp only [handWanted_frame]
    exact ⟨hrecords, hempty⟩

/-- In OUTAGE the fibre is taken, or else the radio, or none. -/
theorem row_outage (h : Placed s) (hs : s.selector.status = .outage) :
    ((pinned p s).mayTake .fibre = true → (takePin p s).selector.status = .on .fibre
        ∧ (takePin p s).selector.record = some ⟨none, .fibre, .forced, s.ms, some .done⟩)
      ∧ ((pinned p s).mayTake .fibre = false → (pinned p s).mayTake .radio = true →
        (takePin p s).selector.status = .on .radio
          ∧ (takePin p s).selector.record = some ⟨none, .radio, .forced, s.ms, some .done⟩)
      ∧ ((pinned p s).mayTake .fibre = false → (pinned p s).mayTake .radio = false →
        (takePin p s).selector.status = .outage) := by
  have hms : (pinned p s).ms = s.ms := rfl
  rw [takePin_of_outage h hs, ← hms]
  refine ⟨fun hf => ?_, fun hf hr => ?_, fun hf hr => ?_⟩
  · simpa using takeFromOutage_takes (b := .fibre) (fun hb => by cases hb) hf
  · simpa using takeFromOutage_takes (b := .radio) (fun _ => hf) hr
  · rw [takeFromOutage_stays hf hr]
    simpa using hs

/-- A drain that is given up, back on its source, before the return hold and the level are worked out (R150). -/
def drainLeft (source : Bearer) (o : HandoverOutcome) (s : State) : State :=
  { completeRecord o { s with selector := { s.selector with drainTimer := none } } with
    selector := { (completeRecord o { s with selector := { s.selector with drainTimer := none } }).selector with
      status := .on source }
    pause := { s.pause with selector := false } }

theorem abandonDrain_of_permitted {o : HandoverOutcome} (h : s.selector.pin.permits b = true) :
    abandonDrain b o s = handWanted (updateHold (drainLeft b o s)) := if_pos h

/-- In a drain a PIN of AUTO goes on with it, or goes back to the radio with TARGET_LOST. -/
theorem row_drain_auto (h : Placed s) (hs : s.selector.status = .draining b) :
    ((setPin .auto s).eligible .fibre = true → (takePin .auto s).selector.status = .draining b
        ∧ (takePin .auto s).selector.drainTimer = s.selector.drainTimer
        ∧ (takePin .auto s).selector.record = s.selector.record)
      ∧ ((setPin .auto s).eligible .fibre = false → (takePin .auto s).selector.status = .on b
        ∧ (takePin .auto s).selector.drainTimer = none
        ∧ (takePin .auto s).selector.record = s.selector.record.map (fun r => { r with outcome := some .targetLost })) := by
  obtain ⟨hstays, hlost⟩ := takePin_of_draining_auto h hs
  refine ⟨fun hf => ?_, fun hf => ?_⟩
  · rw [hstays hf]
    simp [hs]
  · obtain ⟨rfl, hacts⟩ := hlost hf
    have hlost : (pinned .auto s).eligible .fibre = false := by rwa [pinned, eligible_noted]
    have hidle : holdWanted (drainLeft .radio .targetLost (pinned .auto s)) = false :=
      holdWanted_of_lost (b := .fibre) rfl hlost
    rw [hacts, abandonDrain_of_permitted (by simp [PinValue.permits]), updateHold_of_not_wanted hidle]
    simp [drainLeft, completeRecord]

end

end Sys2Proof.Machine

open Sys2Proof.Machine in
/-- Settles O18: each row of the table on the state that holds the new pin, and with it the fibre's eligibility. -/
theorem pinMovesTheSelector : Obligations.PinMovesTheSelector := by
  intro s tag c p b h
  refine ⟨fun hc => ?_, fun hc hs => ?_, fun hc hlawful => ?_⟩
  · rw [exec_pin_of_takes h (answerPin_of_large hc)]
    rfl
  · rw [exec_pin_of_takes h (answerPin_of_target hc hs)]
    rfl
  intro fibreUp radioUp up
  set r := s.replied 0x0F tag [0] with hr
  have hlaws : Lawful r := Lawful.congr (s := s) rfl hlawful
  have hplaced : Placed r := hlaws.placed
  have hup : ∀ d, (pinned p r).eligible d = up d := eligible_pinned p r
  have hfibre : (setPin p r).eligible .fibre = fibreUp := (eligible_noted .fibre .fibre _).symm.trans (hup .fibre)
  have hradio : r.eligible .radio = radioUp := (eligible_noted .fibre .radio (setPin p r)).symm.trans (hup .radio)
  have hpin : (finish false s (takePin p r)).selector.pin = p := by simpa using pin_takePin p r
  have hhanded : (finish false s (takePin p r)).fibreJudge.handed = fibreUp := by simpa using (handed_takePin p r).trans hfibre
  have hexec : (∀ d, s.selector.status ≠ .draining d) → exec .pin s = .next (finish false s (takePin p r)) := fun hs =>
    exec_pin_of_some h hc (namesTarget_outside_drain hs)
  have hselector : (finish false s (takePin p r)).selector = (takePin p r).selector := by simp
  have hflags := FlagsStand.finish false s (takePin p r)
  refine ⟨fun hs => ?_, fun hs hf => ?_, fun hp hs hf => ?_, fun hs hp hf hhold => ?_, fun hs => ?_, fun hs hp => ?_⟩
  · rw [hexec (by simp [hs]), takePin_of_stopped hlaws hs]
    rfl
  · obtain ⟨htaken, hout⟩ := row_fibre_lost (p := p) hplaced hs (hfibre.trans hf)
    refine ⟨_, hexec (by simp [hs]), hpin, hhanded.trans hf, fun hu => ?_, fun hu => ?_⟩
    · obtain ⟨hon, htimer, hrecord, hflag⟩ := htaken (hradio.trans hu)
      rw [hselector]
      exact ⟨hon, htimer, hrecord, hflags 7 hflag⟩
    · obtain ⟨hstatus, hflag⟩ := hout (hradio.trans hu)
      rw [hselector]
      exact ⟨hstatus, hflags 8 hflag⟩
  · subst hp
    obtain ⟨hout, hdrain⟩ := row_other_named hplaced hs (hf.imp_right hfibre.trans)
    refine ⟨_, hexec (by simp [hs]), hpin, hhanded, ?_⟩
    rw [hselector]
    refine ⟨fun hu => ?_, fun hu => (hdrain ((hup _).trans hu)).1, fun hu => (hdrain ((hup _).trans hu)).2⟩
    obtain ⟨hstatus, hflag⟩ := hout ((hup _).trans hu)
    exact ⟨hstatus, hflags 8 hflag⟩
  · have hpermits : p.permits b = true := by
      rw [permits_eq]
      simpa using hp
    have hwanted : holdWanted (pinned p r) = true ↔ b = .radio ∧ p = .auto ∧ fibreUp = true := by
      rw [holdWanted, hup]
      simp [hr, State.replied, hs, up, and_assoc]
    have hsettled : r.carry.returnHold ≠ 0 ∨ r.selector.holdTimer.isSome = true ∨ holdWanted (pinned p r) = false := by
      rw [← Bool.not_eq_true, hwanted]
      refine hhold.imp_right (.imp_right fun hnot ⟨hb, hauto, hu⟩ => ?_)
      simp [hb, hauto, hu] at hnot
    have hacts := takePin_of_permitted hplaced hs hpermits (hf.imp_right hfibre.trans) hsettled
    refine ⟨_, hexec (by simp [hs]), hpin, ?_⟩
    rw [hselector, hacts]
    refine ⟨?_, ?_, hacts ▸ hhanded, ?_⟩
    · simpa [State.withHold, hr, State.replied] using hs
    · simp [State.withHold, hr, State.replied]
    · simp only [handWanted_frame, State.withHold, hwanted]
      rfl
  · have hmay : ∀ d, (pinned p r).mayTake d = (up d && (p == .auto || p == .only d)) := fun d => by
      rw [State.mayTake, hup, selector_pinned, permits_eq]
    obtain ⟨hfirst, hsecond, hnone⟩ := row_outage (p := p) hplaced hs
    rw [hmay, hmay] at hsecond hnone
    rw [hmay] at hfirst
    refine ⟨_, hexec (by simp [hs]), hpin, hhanded, ?_⟩
    rw [hselector]
    exact ⟨hfirst, hsecond, hnone⟩
  · have hnamed : namesTarget p s = false := by simpa [namesTarget, hs] using hp
    refine ⟨_, exec_pin_of_some h hc hnamed, hpin, hhanded, ?_⟩
    rw [hselector]
    refine ⟨fun hauto hu => ?_, fun hauto hu => ?_, fun hsource => ?_⟩
    · subst hauto
      exact (row_drain_auto hplaced hs).1 (hfibre.trans hu)
    · subst hauto
      exact (row_drain_auto hplaced hs).2 (hfibre.trans hu)
    · subst hsource
      exact takePin_of_draining_source hplaced hs
end

section
/-! PROOFS. The return hold as it starts, or turns the selector back at once (R145, R148, R149; log entry 28). -/

namespace Sys2Proof.Machine

section
variable {s t u y : State} {record : Option HandoverRecord}

/-! ## A return hold of 0 s (R145) -/

/-- A drain from the radio reads of the two states the same: the store, the round-trip time and the settings (R134, R148). -/
structure DrainsAlike (s y : State) : Prop where
  store : y.sender.store = s.sender.store
  srtt : y.radioJudge.srtt = s.radioJudge.srtt
  carry : y.carry = s.carry

/-- The selector has turned back from the radio: a drain to the fibre has started, and is done with an empty store. -/
def TurnedBack (s t : State) : Prop :=
  t.selector.holdTimer = none
    ∧ (s.sender.store ≠ [] → t.selector.status = .draining .radio
      ∧ t.selector.record = some ⟨some .radio, .fibre, .planned, BitVec.ofNat 32 (t.clock / 1000), none⟩
      ∧ t.selector.drainTimer = some (t.clock + drainLimit s.radioJudge.srtt s.carry.drainMargin * 1000))
    ∧ (s.sender.store = [] → t.selector.status = .on .fibre ∧ t.selector.drainTimer = none ∧ t.events.flags.getLsbD 7 = true
      ∧ t.selector.record = some ⟨some .radio, .fibre, .planned, BitVec.ofNat 32 (t.clock / 1000), some .emptied⟩)

/-- The return hold has started at its full length, or, a hold of 0 s, has turned the selector back. -/
def HoldStarted (record : Option HandoverRecord) (s t : State) : Prop :=
  (s.carry.returnHold ≠ 0 → t.selector.status = .on .radio ∧ t.selector.record = record
      ∧ t.selector.holdTimer = some (t.clock + s.carry.returnHold * 1000000))
    ∧ (s.carry.returnHold = 0 → TurnedBack s t)

/-- What follows in the event leaves it, where the selector and the clock are as they were. -/
theorem TurnedBack.after (h : TurnedBack s u) (hstatus : t.selector.status = u.selector.status)
    (hrecord : t.selector.record = u.selector.record) (hdrain : t.selector.drainTimer = u.selector.drainTimer)
    (hhold : t.selector.holdTimer = u.selector.holdTimer) (hclock : t.clock = u.clock) (hflags : FlagsStand u t) :
    TurnedBack s t := by
  obtain ⟨hnone, hstore, hempty⟩ := h
  rw [TurnedBack, hstatus, hrecord, hdrain, hhold, hclock]
  refine ⟨hnone, hstore, fun he => ?_⟩
  obtain ⟨hon, htimer, hflag, hdone⟩ := hempty he
  exact ⟨hon, htimer, hflags 7 hflag, hdone⟩

theorem HoldStarted.after (h : HoldStarted record s u) (hstatus : t.selector.status = u.selector.status)
    (hrecord : t.selector.record = u.selector.record) (hdrain : t.selector.drainTimer = u.selector.drainTimer)
    (hhold : t.selector.holdTimer = u.selector.holdTimer) (hclock : t.clock = u.clock) (hflags : FlagsStand u t) :
    HoldStarted record s t := by
  obtain ⟨hlong, hzero⟩ := h
  refine ⟨?_, fun h0 => (hzero h0).after hstatus hrecord hdrain hhold hclock hflags⟩
  rw [hstatus, hrecord, hhold, hclock]
  exact hlong

theorem HoldStarted.handWanted (h : HoldStarted record s u) : HoldStarted record s (handWanted u) :=
  h.after (by simp) (by simp) (by simp) (by simp) (by simp) (.handWanted u)

theorem HoldStarted.finish (h : HoldStarted record s u) (joined : Bool) (before : State) :
    HoldStarted record s (finish joined before u) :=
  h.after (by simp) (by simp) (by simp) (by simp) (by simp) (.finish joined before u)

/-- A drain to the fibre whose own switch starts no hold (R145, R148). -/
theorem turnedBack_startDrain (h : DrainsAlike s y) : TurnedBack s (startDrain id .radio y) := by
  have hstarted := selector_drainStarted .radio y
  have hclock : (startDrain id .radio y).clock = y.clock := by
    unfold startDrain switchDrain
    dsimp only
    split <;> simp [enterDrain]
  rw [TurnedBack, hclock]
  by_cases hstore : y.sender.store = []
  · have hs : s.sender.store = [] := h.store.symm.trans hstore
    obtain ⟨hselector, -⟩ := switched_writes .radio .emptied (handWanted (enterDrain .radio y))
    have hswitch : startDrain id .radio y = handWanted (switched .radio .emptied (handWanted (enterDrain .radio y))) :=
      startDrain_of_empty hstore
    have hflag : (startDrain id .radio y).events.flags.getLsbD 7 = true := by
      rw [hswitch]
      exact FlagsStand.handWanted _ 7 (flag_makeActive .fibre false _)
    rw [hswitch] at hflag ⊢
    rw [selector_handWanted, hselector, hstarted]
    exact ⟨rfl, fun hne => absurd hs hne, fun _ => ⟨rfl, rfl, hflag, rfl⟩⟩
  · have hs : s.sender.store ≠ [] := fun he => hstore (h.store.trans he)
    rw [startDrain_of_records hstore, hstarted]
    refine ⟨rfl, fun _ => ⟨rfl, rfl, ?_⟩, fun he => absurd he hs⟩
    rw [← h.srtt, ← h.carry]
    rfl

/-- On the radio under AUTO a hold that does not run starts when the fibre is eligible (R145). -/
theorem holdStarted_updateHold (h : DrainsAlike s y) (hw : holdWanted y = true) (hn : y.selector.holdTimer = none)
    (hr : y.selector.record = record) : HoldStarted record s (updateHold y) := by
  have hon : y.selector.status = .on .radio := by
    simp only [holdWanted, Bool.and_eq_true, beq_iff_eq] at hw
    exact hw.1.1
  refine ⟨fun hlong => ?_, fun hzero => ?_⟩
  · have hsettled := updateHold_of_settled (s := y) (.inl (by rwa [h.carry]))
    rw [hw, hn, h.carry] at hsettled
    rw [hsettled]
    exact ⟨hon, hr, rfl⟩
  · have hturns : updateHold y = startDrain id .radio y := by simp [updateHold, hw, hn, h.carry, hzero]
    rw [hturns]
    exact turnedBack_startDrain h

/-! ## The fibre becomes eligible on the radio (R121, R145) -/

/-- The selector is on the radio under AUTO, has been told that the fibre is not eligible, and runs no return hold. -/
structure AwaitsFibre (s : State) : Prop where
  radio : s.selector.status = .on .radio
  auto : s.selector.pin = .auto
  handed : s.fibreJudge.handed = false
  idle : s.selector.holdTimer = none

/-- A fibre that is found eligible starts the return hold. -/
theorem holdStarted_rework (h : AwaitsFibre s) (ha : DrainsAlike s y) (hs : y.selector = s.selector)
    (hh : y.fibreJudge.handed = false) (he : y.eligible .fibre = true) :
    HoldStarted s.selector.record s (rework .fibre y) := by
  have hchanged : y.eligible .fibre ≠ (y.judge .fibre).handed := by simp [he, State.judge, hh]
  have hon : (noted .fibre y).selector.status = .on .radio := by simp [hs, h.radio]
  rw [rework_eq, if_neg hchanged, onEligibility_fibre_of_onRadio hon]
  refine holdStarted_updateHold ⟨ha.store, ha.srtt, ha.carry⟩ ?_ (by simp [hs, h.idle]) (by simp [hs])
  simp [holdWanted, hs, h.radio, h.auto, he]

/-- The statement of a fibre that an event leaves eligible by its verdict and suppression, which before it barred it. -/
def FibreGain (s u : State) : Prop :=
  u.fibreJudge.verdict = .up → u.fibreJudge.suppressed = false → s.fibreJudge.verdict = .down ∨ s.fibreJudge.suppressed = true →
    HoldStarted s.selector.record s u

theorem FibreGain.of_same (hv : u.fibreJudge.verdict = s.fibreJudge.verdict)
    (hs : u.fibreJudge.suppressed = s.fibreJudge.suppressed) : FibreGain s u := by
  intro hup hfree hbarred
  rw [hv] at hup
  rw [hs] at hfree
  simp [hup, hfree] at hbarred

theorem FibreGain.of_down (hv : u.fibreJudge.verdict = .down) : FibreGain s u := fun hup => by
  rw [hv] at hup
  cases hup

theorem FibreGain.after (h : FibreGain s u) (hv : t.fibreJudge.verdict = u.fibreJudge.verdict)
    (hs : t.fibreJudge.suppressed = u.fibreJudge.suppressed) (hselector : t.selector = u.selector) (hclock : t.clock = u.clock)
    (hflags : FlagsStand u t) : FibreGain s t := by
  rw [FibreGain, hv, hs]
  exact fun hup hfree hbarred => (h hup hfree hbarred).after (by rw [hselector]) (by rw [hselector]) (by rw [hselector])
    (by rw [hselector]) hclock hflags

theorem FibreGain.finish (h : FibreGain s u) (joined : Bool) (before : State) : FibreGain s (finish joined before u) := by
  obtain ⟨q, hq⟩ := judge_finish joined before u .fibre
  exact h.after (congrArg Judge.verdict hq :) (congrArg Judge.suppressed hq :) (by simp) (by simp) (.finish joined before u)

/-- The fibre's suppression that turns (R128, R130). -/
theorem fibreGain_resuppress (h : AwaitsFibre s) (ha : DrainsAlike s y) (hs : y.selector = s.selector)
    (hh : y.fibreJudge.handed = false) (v : Bool) : FibreGain s (resuppress .fibre v y) := by
  obtain ⟨hset, -⟩ := judge_setSuppressed .fibre v y
  have hjudge : (resuppress .fibre v y).fibreJudge = { (setSuppressed .fibre v y).fibreJudge with
      handed := (setSuppressed .fibre v y).eligible .fibre } := rework_fibreJudge _
  have hset : (setSuppressed .fibre v y).fibreJudge = { y.fibreJudge with suppressed := v } := hset
  intro hup hfree _
  rw [hjudge, hset] at hup hfree
  have hup : y.fibreJudge.verdict = .up := hup
  have hfree : v = false := hfree
  refine holdStarted_rework h ⟨?_, ?_, ?_⟩ (by simp [hs]) ?_ ?_
  · simpa using ha.store
  · simpa using ha.srtt
  · simpa using ha.carry
  · rw [hset]
    exact hh
  · simp only [State.eligible, State.judge, hset]
    simp [hup, hfree]

/-- What turns at the radio is no matter of the fibre's judge. -/
theorem fibreJudge_resuppress_radio (v : Bool) (y : State) : (resuppress .radio v y).fibreJudge = y.fibreJudge := by
  have hset : (setSuppressed .radio v y).fibreJudge = y.fibreJudge := rfl
  have hnoted : (noted .radio (setSuppressed .radio v y)).fibreJudge = y.fibreJudge := rfl
  rw [resuppress, rework_eq]
  split
  · exact hset
  · rw [onEligibility_fibreJudge, hnoted]

/-! ## The three commands (R120, R128, R130) -/

/-- At the end of an interval the fibre, not suppressed, becomes eligible by its rise. -/
theorem fibreGain_endInterval (h : AwaitsFibre s) (hfree : s.fibreJudge.suppressed = false) (before : State) :
    FibreGain s (finish false before (endInterval .fibre s)) := by
  cases htimer : s.fibreJudge.timer with
  | none =>
    have hstays : endInterval .fibre s = s := by simp only [endInterval, State.judge, htimer]
    rw [hstays]
    exact (FibreGain.of_same rfl rfl).finish false before
  | some moment =>
    obtain ⟨hcounted, -, hclock, hselector, -⟩ := intervalCounted_writes .fibre moment s
    set counted := intervalCounted .fibre moment s with hdef
    have hfigures := counted_windowed ((s.judge .fibre).intervalGood .fibre) (s.judge .fibre)
    rw [hfigures] at hcounted
    have hends := endInterval_of_running (b := .fibre) htimer
    change endInterval .fibre s
      = nextInterval .fibre moment (openFellDue .fibre s (verdictTest .fibre counted)) (verdictTest .fibre counted) at hends
    generalize openFellDue .fibre s (verdictTest .fibre counted) = together at hends
    have hsame : counted.fibreJudge.verdict = s.fibreJudge.verdict ∧ counted.fibreJudge.suppressed = s.fibreJudge.suppressed
        ∧ counted.fibreJudge.handed = s.fibreJudge.handed := by
      have hjudge : counted.fibreJudge = _ := hcounted
      rw [hjudge]
      exact ⟨rfl, rfl, rfl⟩
    obtain ⟨hverdict, hsuppressed, hhanded⟩ := hsame
    have htested : FibreGain s (verdictTest .fibre counted) := by
      cases hv : (counted.judge .fibre).verdict with
      | up =>
        by_cases hfalls : (counted.judge .fibre).settings.fallRun ≤ (counted.judge .fibre).badRun
        · rw [verdictTest_of_up_falls hv hfalls]
          obtain ⟨e, he⟩ | ⟨hradio, -⟩ := judge_fall .fibre (counted.mapJudge .fibre fun k => { k with goodRun := 0, cleanRun := 0 })
          · exact .of_down (congrArg Judge.verdict he)
          · cases hradio
        · rw [verdictTest_of_up hv (Nat.lt_of_not_le hfalls)]
          exact .of_same hverdict hsuppressed
      | down =>
        cases hrises : (counted.judge .fibre).rises with
        | false =>
          rw [verdictTest_of_down hv hrises]
          exact .of_same hverdict hsuppressed
        | true =>
          rw [verdictTest_of_down_rises hv hrises, rise_eq]
          obtain ⟨hrose, -⟩ := judge_roseUp .fibre counted
          have hrose : (roseUp .fibre counted).fibreJudge = { counted.fibreJudge with verdict := .up } := hrose
          refine fun _ _ _ => holdStarted_rework h ⟨?_, ?_, ?_⟩ ?_ ?_ ?_
          · simp [roseUp, hdef, intervalCounted]
          · simp [roseUp, hdef, intervalCounted]
          · simp [roseUp, hdef, intervalCounted]
          · rw [(roseUp_keeps .fibre counted).1, hselector]
          · rw [hrose]
            exact hhanded.trans h.handed
          · simp [State.eligible, State.judge, hrose, hsuppressed, hfree]
    obtain ⟨hclock, hselector, -, -, -, -, -, hflags⟩ :=
      finish_nextInterval_keeps .fibre moment together before (verdictTest .fibre counted)
    obtain ⟨hv, -, hs, -, -⟩ := judge_finish_nextInterval .fibre moment together before (verdictTest .fibre counted)
    rw [hends]
    exact htested.after hv hs hselector hclock hflags

theorem fibreGain_tick (h : AwaitsFibre s) : FibreGain s (tick .fibre s) := by
  cases htimer : (s.judge .fibre).decay with
  | none =>
    rw [tick_of_stopped htimer]
    exact .of_same rfl rfl
  | some due =>
    rw [tick_of_running htimer]
    split
    · exact fibreGain_resuppress h (y := tickCounted .fibre due s) ⟨rfl, rfl, rfl⟩ rfl h.handed false
    · exact .of_same rfl rfl

/-- An accepted SET_DAMPING of either bearer. -/
theorem fibreGain_setDamping (h : AwaitsFibre s) (b : Bearer) (d : Damping) (hs : y.selector = s.selector)
    (hj : y.fibreJudge = s.fibreJudge) (ha : DrainsAlike s y) : FibreGain s (setDamping b d y) := by
  set given := y.mapJudge b (Judge.withDamping d) with hgiven
  have htest := retestSuppression_eq b given
  have htested : FibreGain s (retestSuppression b given) := by
    have hsame : given.fibreJudge.verdict = s.fibreJudge.verdict ∧ given.fibreJudge.suppressed = s.fibreJudge.suppressed
        ∧ given.fibreJudge.handed = s.fibreJudge.handed := by
      rw [← hj]
      cases b <;> exact ⟨rfl, rfl, rfl⟩
    obtain ⟨hverdict, hsuppressed, hhanded⟩ := hsame
    rw [htest]
    split
    · exact .of_same hverdict hsuppressed
    · cases b with
      | fibre =>
        exact fibreGain_resuppress h (y := given) ⟨ha.store, ha.srtt, ha.carry⟩ hs (hhanded.trans h.handed) _
      | radio =>
        refine .of_same ?_ ?_ <;> rw [fibreJudge_resuppress_radio]
        · exact hverdict
        · exact hsuppressed
  have hended : ∀ x : State, (restartDecay b (y.judge b).damping.period d.period x).fibreJudge.verdict = x.fibreJudge.verdict
      ∧ (restartDecay b (y.judge b).damping.period d.period x).fibreJudge.suppressed = x.fibreJudge.suppressed := fun x => by
    rw [restartDecay_eq]
    cases b <;> exact ⟨rfl, rfl⟩
  exact htested.after (hended _).1 (hended _).2 (by simp [setDamping, hgiven]) (by simp [setDamping, hgiven])
    (.of_eq (by simp [setDamping, hgiven]))

/-- Whatever SET_DAMPING is answered with. -/
theorem fibreGain_setDampingTaken (h : AwaitsFibre s) :
    FibreGain s (takeRequest 0x09 anyBody 12 answerSetDamping s).1 := by
  obtain he | ⟨r, a, -, hanswer, he⟩ := takeRequest_cases 0x09 anyBody 12 answerSetDamping s <;> rw [he]
  · exact .of_same rfl rfl
  have heffect : a.effect = id ∨ ∃ b d, a.effect = setDamping b d := by
    obtain rfl | rfl := hanswer
    · unfold answerSetDamping Answer.withBody
      split
      · exact .inl rfl
      · split
        · exact .inl rfl
        · exact .inr ⟨_, _, rfl⟩
    · exact .inl rfl
  obtain heffect | ⟨b, d, heffect⟩ := heffect <;> rw [heffect]
  · exact .of_same rfl rfl
  · exact fibreGain_setDamping h b d rfl rfl ⟨rfl, rfl, rfl⟩

/-- The commands that can make the fibre eligible on the radio (R145). -/
theorem fibreGain_exec {c : Instr} (h : AwaitsFibre s) (hr : s.resetHeld = false)
    (hfree : s.fibreJudge.suppressed = false ∨ c ≠ .intervalEnd .fibre)
    (hc : c = .intervalEnd .fibre ∨ c = .decayTick .fibre ∨ c = .setDamping) : ∃ t, exec c s = .next t ∧ FibreGain s t := by
  obtain rfl | rfl | rfl := hc
  · exact ⟨_, exec_intervalEnd hr .fibre, fibreGain_endInterval h (hfree.resolve_right fun hn => hn rfl) s⟩
  · exact ⟨_, exec_decayTick hr .fibre, (fibreGain_tick h).finish false s⟩
  · refine ⟨_, ?_, (fibreGain_setDampingTaken h).finish (takeRequest 0x09 anyBody 12 answerSetDamping s).2 s⟩
    simp [exec, execSetDamping, runActing, runWith, hr]

/-! ## The fibre is lost on the radio (R145) -/

/-- A fall of the fibre on the radio stops the return hold. -/
theorem selector_fall_onRadio (hs : s.selector.status = .on .radio) (hh : s.fibreJudge.handed = true) :
    (fall .fibre s).selector = { s.selector with holdTimer := none } := by
  have hlost := eligible_fellDown .fibre s
  have htold : ((fellDown .fibre s).judge .fibre).handed = true := by
    rw [(judge_fellDown .fibre s).1]
    exact hh
  have hsame : (noted .fibre (fellDown .fibre s)).selector = s.selector := by simp [fellDown]
  have hidle : holdWanted (noted .fibre (fellDown .fibre s)) = false := by simp [holdWanted, hlost]
  rw [fall_eq, rework_eq, hlost, htold, if_neg Bool.false_ne_true, onEligibility_fibre_of_onRadio (hsame.symm ▸ hs),
    updateHold_of_not_wanted hidle, hsame]

/-! ## The end of a drain from the fibre (R145, R149) -/

/-- A drain from the fibre that switches under AUTO starts the hold: the fibre stays eligible (R145; log entry 28). -/
theorem holdStarted_switchDrain (o : HandoverOutcome) (hp : s.selector.pin = .auto) (he : s.eligible .fibre = true)
    (hn : s.selector.holdTimer = none) :
    HoldStarted (s.selector.record.map fun r => { r with outcome := some o }) s (switchDrain updateHold .fibre o s) := by
  obtain ⟨hselector, -⟩ := switched_writes .fibre o s
  have hwanted : holdWanted (switched .fibre o s) = true := by
    have hsame : (switched .fibre o s).eligible .fibre = s.eligible .fibre := eligible_makeActive .radio false _ .fibre
    rw [holdWanted, hsame, hselector]
    simp [hp, he, Bearer.other]
  rw [switchDrain_eq]
  refine (holdStarted_updateHold ⟨?_, ?_, ?_⟩ hwanted ?_ ?_).handWanted
  · simp [switched, completeRecord]
  · simp [switched, completeRecord]
  · simp [switched, completeRecord]
  · rw [hselector]
    exact hn
  · rw [hselector]

/-- What a drain from the fibre reads of the state in which it ends: the selector is the one before the event, and the fibre stays
eligible. -/
structure EndsAlike (s x : State) : Prop where
  selector : x.selector = s.selector
  fibre : x.eligible .fibre = s.eligible .fibre
  carry : x.carry = s.carry

/-- The end of a drain of a lawful state under AUTO, at the end of its event. -/
theorem drainEnds {x : State} (h : Lawful s) (hs : s.selector.status = .draining .fibre) (hp : s.selector.pin = .auto)
    (hx : EndsAlike s x) (o : HandoverOutcome) (before : State) :
    let t := finish false before (switchDrain updateHold .fibre o x)
    t.clock = x.clock ∧ t.events.flags.getLsbD 7 = true
      ∧ (s.carry.returnHold ≠ 0 → t.selector.drainTimer = none)
      ∧ HoldStarted (s.selector.record.map fun r => { r with outcome := some o }) x t := by
  obtain ⟨hup, -⟩ := h.placed.drains .fibre hs
  have hidle : s.selector.holdTimer = none := h.placed.holdTimer_eq_none (by simp [hs])
  have hstarted := holdStarted_switchDrain o (s := x) (by rw [hx.selector, hp]) (hx.fibre.trans hup) (by rw [hx.selector, hidle])
  rw [hx.selector] at hstarted
  refine ⟨by simp, FlagsStand.finish _ _ _ 7 (flag_switchDrain _ _ _), fun hlong => ?_, hstarted.finish false before⟩
  obtain ⟨-, htimer, -⟩ := switchDrain_takes (s := x) (source := .fibre) (o := o) (.inl (by rwa [hx.carry]))
  simpa using htimer

/-! ## The store emptied by a TALLY (R45, R47, R149) -/

/-- An ackno of N is valid and releases every record (R45, R47). -/
theorem release_all {x : Sender} (h : StoreLaw x) : x.ackValid x.n = true ∧ (x.release x.n).store = [] := by
  obtain ⟨hlength, -, hnumbers, -⟩ := h
  refine ⟨by simp [Sender.ackValid], ?_⟩
  have hoff : x.store.length ≤ (x.n - x.oldest).toNat := by
    cases hs : x.store with
    | nil => simp
    | cons r rest =>
      have hfirst : r.seq = x.n - BitVec.ofNat 16 x.store.length := by
        have hhead := congrArg List.head? hnumbers
        simpa [hs, storeNumbers, List.range_succ_eq_map] using hhead
      have holdest : x.oldest = r.seq := by simp [Sender.oldest, hs]
      rw [holdest, hfirst, ← hs]
      bv_omega
  exact List.drop_eq_nil_of_le hoff

end

end Sys2Proof.Machine
end

section
/-! PROOFS. The events that start the return hold, or turn the selector back (R145, R146, R147; log entries 4 and 28). -/

namespace Sys2Proof.Machine

section
variable {s t : State} {i : Instr} {b : Bearer} {f : CarryFrame} {tag : Byte}

/-- A hold of 0 s that starts with an empty store has turned the selector straight back (R148). -/
theorem TurnedBack.straight {x : State} (h : TurnedBack x t) (hx : x.sender.store = []) (hclock : t.clock = s.clock) :
    t.selector.status = .on .fibre ∧ t.selector.drainTimer = none ∧ t.selector.holdTimer = none
      ∧ t.selector.record = some ⟨some .radio, .fibre, .planned, BitVec.ofNat 32 (s.clock / 1000), some .emptied⟩ := by
  obtain ⟨hhold, -, hempty⟩ := h
  obtain ⟨hon, htimer, -, hrecord⟩ := hempty hx
  rw [hclock] at hrecord
  exact ⟨hon, htimer, hhold, hrecord⟩

/-- The fibre's link is lost on the radio (R119, R145). -/
theorem selector_fibreLinkLost_onRadio (hs : s.selector.status = .on .radio) (hh : s.fibreJudge.handed = true)
    (hv : s.fibreJudge.verdict = .up) (hj : s.fibreJudge.timer.isSome = true) (hup : s.fibre.linkUp = true) :
    (fibreLinkLost s).selector = { s.selector with holdTimer := none } := by
  obtain ⟨-, hjudge, hselector, -⟩ := fibreLinkCut_writes s
  have hfall := hardFail_of_up (b := .fibre) (s := fibreLinkCut s) (by simpa [State.judge, hjudge] using hj)
    (by simpa [State.judge, hjudge] using hv)
  rw [fibreLinkLost_of_up hup, hfall,
    selector_fall_onRadio (by simpa [hselector] using hs) (by simpa [Judge.hardFailed, hjudge] using hh)]
  simp [hselector]

/-- PIN of AUTO on the radio with an eligible fibre and no hold running: the pin was RADIO, so that the hold is to start (R146). -/
theorem holdStarted_takePin (h : Lawful s) (hs : s.selector.status = .on .radio) (hv : s.fibreJudge.verdict = .up)
    (hfree : s.fibreJudge.suppressed = false) (hn : s.selector.holdTimer = none) :
    HoldStarted s.selector.record s (takePin .auto s) := by
  have hfibre : (setPin .auto s).eligible .fibre = true := by simp [State.eligible, setPin, State.judge, hv, hfree]
  have hhanded : s.fibreJudge.handed = true := (h.placed.handed .fibre).trans (by simp [State.eligible, State.judge, hv, hfree])
  have hacts : pinAction .auto (pinned .auto s) = updateHold (pinned .auto s) := by simp [pinAction, hs, PinValue.permits]
  rw [takePin_outside_drain (by simp [hs]), rework_setPin_of_handed (hfibre.trans hhanded.symm), hacts]
  refine (holdStarted_updateHold (y := pinned .auto s) ⟨rfl, rfl, rfl⟩ ?_ hn rfl).handWanted
  have hsame : (pinned .auto s).eligible .fibre = true := (eligible_noted .fibre .fibre _).trans hfibre
  simp [holdWanted, hs, hsame]

/-- A TALLY of N or a restart request that a drain from the fibre takes ends it with EMPTIED, in a state with an empty store. -/
theorem drainEmptied_of_receives (hs : s.selector.status = .draining .fibre)
    (h : (Receives i s b .tally f ∧ s.receiver.discard = false ∧ s.sender.store ≠ [] ∧ StoreLaw s.sender ∧ f.ackno = s.sender.n)
      ∨ Receives i s b .opening f) :
    ∃ x, EndsAlike s x ∧ x.clock = s.clock ∧ x.sender.store = []
      ∧ exec i s = .next (finish false s (switchDrain updateHold .fibre .emptied x)) := by
  obtain ⟨hreceives, hclear, hstore, hlaw, hack⟩ | hreceives := h
  · set taken := (s.countCarry .upReceived).setMarks b ⟨0, 0⟩ with htaken
    have hkept : taken.sender = s.sender ∧ taken.receiver.discard = s.receiver.discard ∧ EndsAlike s taken
        ∧ taken.clock = s.clock := by
      cases b <;> exact ⟨rfl, rfl, ⟨rfl, rfl, rfl⟩, rfl⟩
    obtain ⟨hsender, hdiscard, hends, hclock⟩ := hkept
    obtain ⟨hvalid, hempty⟩ := release_all hlaw
    rw [← hack, ← hsender] at hvalid hempty
    refine ⟨released f.ackno taken, ⟨hends.selector, hends.fibre, hends.carry⟩, hclock, hempty, ?_⟩
    have hdrained : drainEmptied (released f.ackno taken) = switchDrain updateHold .fibre .emptied (released f.ackno taken) := by
      simp [drainEmptied, released, hends.selector, hs]
    rw [exec_of_receives hreceives, takeFrame_tally, ← htaken, readAckIfClear, if_neg (by simp [hdiscard, hclear]),
      readAck_of_valid hvalid, if_pos ⟨by rwa [hsender], hempty⟩, hdrained]
  · have hkept : EndsAlike s (s.setMarks b ⟨0, 0⟩) ∧ (s.setMarks b ⟨0, 0⟩).clock = s.clock := by
      cases b <;> exact ⟨⟨rfl, rfl, rfl⟩, rfl⟩
    obtain ⟨hends, hclock⟩ := hkept
    refine ⟨restartOpening (s.setMarks b ⟨0, 0⟩), ?_, ?_, ?_, ?_⟩
    · refine ⟨(selector_restartOpening _).trans hends.selector, Eq.trans ?_ hends.fibre, Eq.trans ?_ hends.carry⟩
      · simp [State.eligible, State.judge, restartOpening, restartFresh, enterOpening]
      · simp [restartOpening, restartFresh, enterOpening]
    · exact Eq.trans (by simp [restartOpening, restartFresh, enterOpening]) hclock
    · exact (restartOpening_restarted _).store
    · rw [exec_of_receives hreceives, takeFrame_opening, restartSession_of_draining (by rw [hends.selector, hs])]

/-- HANDOVER_NOW from the fibre with an empty store ends on the radio, where the hold starts (R147, R148). -/
theorem holdStarted_handoverNow (h : Takes s 0x10 tag []) (hs : s.selector.status = .on .fibre) (hp : s.selector.pin = .auto)
    (he : s.eligible .fibre = true) (hm : s.mayTake .radio = true) (hstore : s.sender.store = []) :
    ∃ x, x.sender.store = [] ∧ x.carry = s.carry
      ∧ ∃ t, exec .handoverNow s = .next t ∧ t.clock = s.clock ∧ t.events.flags.getLsbD 7 = true
        ∧ (s.carry.returnHold ≠ 0 → t.selector.drainTimer = none)
        ∧ HoldStarted (some ⟨some .fibre, .radio, .planned, BitVec.ofNat 32 (s.clock / 1000), some .emptied⟩) x t := by
  set r := s.replied 0x10 tag [0] with hr
  set x := handWanted (enterDrain .fibre r) with hx
  have hstarted : x.selector = _ := selector_drainStarted .fibre r
  have hfibre : x.eligible .fibre = true := by
    have hjudge : x.fibreJudge = s.fibreJudge := handWanted_fibreJudge _
    have hpin : x.selector.pin = s.selector.pin := (congrArg Selector.pin hstarted :)
    rw [← he]
    simp only [State.eligible, State.judge, hjudge, hpin]
  have hheld := holdStarted_switchDrain .emptied (s := x) (by rw [hstarted]; exact hp) hfibre (by rw [hstarted])
  rw [hstarted] at hheld
  refine ⟨x, by simp [hx, enterDrain, hr, State.replied, hstore], by simp [hx, enterDrain, hr, State.replied], _, ?_, ?_, ?_,
    fun hlong => ?_, hheld.finish false s⟩
  · rw [exec_handoverNow_of_takes h (answerHandoverNow_of_free hs hm), ← startDrain_of_empty (s := r) hstore]
    rfl
  · simp [hx, enterDrain, hr, State.replied]
  · exact FlagsStand.finish _ _ _ 7 (flag_switchDrain _ _ _)
  · obtain ⟨-, htimer, -⟩ := switchDrain_takes (s := x) (source := .fibre) (o := .emptied)
      (.inl (by simpa [hx, enterDrain, hr, State.replied] using hlong))
    simpa using htimer

end

end Sys2Proof.Machine

open Sys2Proof.Machine in
/-- Settles O22: each of its events works out the hold in a state in which it is to run and does not. -/
theorem returnHoldStarts : Obligations.ReturnHoldStarts := by
  intro s c i tag due b f
  refine ⟨fun ⟨hs, hp, hr⟩ hh hfree hn hc => ?_, fun ⟨hs, hp, hr⟩ hh hv hj hup => ?_, fun h hl hs hv hfree hn hzero => ?_,
    fun hl hs hp => ⟨fun hr htimer => ?_, fun hends => ?_⟩, fun h hs hp he hm hstore => ?_⟩
  · exact fibreGain_exec ⟨hs, hp, hh, hn⟩ hr hfree hc
  · have hselector := selector_fibreLinkLost_onRadio hs hh hv hj hup
    exact ⟨_, exec_fibreLinkDown hr, by simp [hselector], by simp [hselector, hs], by simp [hselector]⟩
  · have hexec := exec_pin_of_some (p := .auto) h rfl (namesTarget_outside_drain (by simp [hs]))
    have hheld := holdStarted_takePin (s := s.replied 0x0F tag [0]) (Lawful.congr (s := s) rfl hl) hs hv hfree hn
    exact ⟨_, hexec, (hheld.finish false s).2 hzero⟩
  · obtain ⟨hclock, hflag, htimerless, hheld⟩ := drainEnds (x := s.advanceTo due) hl hs hp ⟨rfl, rfl, rfl⟩ .expired s
    refine ⟨_, by rw [exec_drainTimerExpiry hr, drainExpires_of_draining htimer hs], hclock, hflag, fun hlong => ?_, hheld.2⟩
    obtain ⟨hon, hrecord, htimer⟩ := hheld.1 hlong
    exact ⟨hon, htimerless hlong, hrecord, htimer⟩
  · obtain ⟨x, hx, hclock, hempty, hexec⟩ := drainEmptied_of_receives hs hends
    obtain ⟨hsame, hflag, htimerless, hheld⟩ := drainEnds hl hs hp hx .emptied s
    refine ⟨_, hexec, hsame.trans hclock, hflag, fun hlong => ?_, fun hzero => ?_⟩
    · obtain ⟨hon, hrecord, htimer⟩ := hheld.1 (by rwa [hx.carry])
      rw [hx.carry] at htimer
      exact ⟨hon, htimerless hlong, hrecord, htimer⟩
    · exact (hheld.2 (by rwa [hx.carry])).straight hempty (hsame.trans hclock)
  · obtain ⟨x, hempty, hcarry, t, hexec, hclock, hflag, htimerless, hheld⟩ := holdStarted_handoverNow h hs hp he hm hstore
    refine ⟨t, hexec, hclock, hflag, fun hlong => ?_, fun hzero => ?_⟩
    · obtain ⟨hon, hrecord, htimer⟩ := hheld.1 (by rwa [hcarry])
      rw [hcarry] at htimer
      exact ⟨hon, htimerless hlong, hrecord, htimer⟩
    · exact (hheld.2 (by rwa [hcarry])).straight hempty hclock
end

section
/-! PROOFS. The flag HANDOVER where no bearer becomes active (R140, R177). -/

namespace Sys2Proof.Machine

/-! ## HANDOVER is reported by a change of the active bearer alone (R140) -/

/-- The flag HANDOVER is in the one state as it is in the other. -/
def HandoverStays (s t : State) : Prop := t.events.flags.getLsbD 7 = s.events.flags.getLsbD 7

namespace HandoverStays

variable {s t u : State} {b : Bearer}

theorem refl (s : State) : HandoverStays s s := rfl
theorem of_eq (h : t.events = s.events) : HandoverStays s t := by rw [HandoverStays, h]
theorem trans (h : HandoverStays s t) (h' : HandoverStays t u) : HandoverStays s u := Eq.trans h' h
theorem after (h' : HandoverStays t u) (h : HandoverStays s t) : HandoverStays s u := h.trans h'

theorem reportIf {f : EventFlag} (hf : f.number ≠ 7) (c : Bool) (s : State) : HandoverStays s (reportIf c f s) :=
  reportIf_other_flag c f s (g := .handover) (Ne.symm hf)

theorem report {f : EventFlag} (hf : f.number ≠ 7) (s : State) : HandoverStays s (report f s) := .reportIf hf true s

/-! The judges and the module controller -/

theorem downFlag_ne (b : Bearer) : (downFlag b).number ≠ 7 := by cases b <;> decide

theorem resetJudge (b : Bearer) (s : State) : HandoverStays s (resetJudge b s) :=
  .after (.reportIf (downFlag_ne b) _ _) (.of_eq (by simp))

theorem leaveReady (s : State) : HandoverStays s (leaveReady s) := .after (.resetJudge .radio _) (.of_eq (by simp))

theorem enterReleasing (c : ReleaseCause) (s : State) : HandoverStays s (enterReleasing c s) := by
  have hleft : HandoverStays s (if s.radio.status == .ready then Machine.leaveReady s else s) := by
    split
    · exact .leaveReady s
    · exact .refl s
  exact hleft

theorem actOnLevel (s : State) : HandoverStays s (actOnLevel s) := by
  obtain he | ⟨-, he⟩ | ⟨-, -, he | ⟨-, he⟩ | ⟨-, he⟩⟩ := actOnLevel_cases s <;> rw [he]
  · exact .refl s
  · exact .of_eq (by simp)
  · exact .of_eq rfl
  · exact .of_eq rfl
  · exact .enterReleasing _ s

theorem handWanted (s : State) : HandoverStays s (handWanted s) := by
  unfold Machine.handWanted
  split
  · exact .refl s
  · exact .after (.of_eq rfl) (.after (.actOnLevel _) (.of_eq rfl))

theorem setSuppressed (b : Bearer) (v : Bool) (s : State) : HandoverStays s (setSuppressed b v s) := by
  cases b with
  | fibre => exact .after (.report (by cases v <;> decide) _) (.of_eq rfl)
  | radio => exact .of_eq rfl

theorem flapStep (b : Bearer) (s : State) : HandoverStays s (flapStep b s) := by
  have hstepped : HandoverStays s (s.mapJudge b (fun j => { j with penalty := j.damping.stepped j.penalty })) := .of_eq (by simp)
  unfold Machine.flapStep
  dsimp only
  split
  · exact hstepped.trans (.setSuppressed _ _ _)
  · exact hstepped

theorem fellDown (b : Bearer) (s : State) : HandoverStays s (fellDown b s) :=
  .after (.flapStep _ _) (.after (.report (downFlag_ne b) _) (.of_eq (by simp)))

theorem enterOutage (s : State) : HandoverStays s (enterOutage s) := by
  rw [enterOutage_eq]
  exact .after (.handWanted _) (.after (.report (by decide) _) (.of_eq (by simp [outageEntered])))

/-! The ports -/

theorem examineLanes (order : List Lane) (s : State) : HandoverStays s (examineLanes order s).1 := by
  induction order generalizing s with
  | nil => exact .refl s
  | cons l rest ih =>
    have hd : HandoverStays s (discardHeads l s) := .after (.reportIf (by decide) _ _) (.of_eq (by simp))
    simp only [Machine.examineLanes]
    split
    · exact hd.trans (ih _)
    · split
      · exact hd.trans (ih _)
      · exact hd.trans (.of_eq (by simp))

theorem dispatch (b : Bearer) (s : State) : HandoverStays s (dispatch b s) := by
  have he := HandoverStays.examineLanes laneOrder s
  unfold Machine.dispatch
  split
  · next h => rwa [h] at he
  · next h =>
    rw [h] at he
    exact he.trans (.of_eq (by simp))

theorem passCopy (b : Bearer) (c : Seq) (s : State) : HandoverStays s (passCopy b c s) := by
  unfold Machine.passCopy
  split
  · exact .of_eq rfl
  · next r _ =>
    have hvoided : HandoverStays s (if voidingTest s r then Machine.report .staleVoided (s.countCarry .upVoided) else s) := by
      split
      · exact .after (.report (by decide) _) (.of_eq (by simp))
      · exact .refl s
    exact .after (.of_eq (by simp)) hvoided

theorem served (h : PortServed b s t) : HandoverStays s t := by
  cases h with
  | rests => exact .refl s
  | copy c _ _ => exact .passCopy _ _ _
  | data _ _ => exact .dispatch _ _
  | mark _ _ => exact .of_eq (by simp)
  | stream _ _ _ _ => exact .of_eq (by simp)
  | waiting _ _ _ => exact .of_eq (by simp)

theorem finish (joined : Bool) (before s : State) : HandoverStays s (finish joined before s) :=
  finish_induction (P := HandoverStays s) (.refl s) (fun _ h _ => h) (fun _ _ _ h _ hu => h.trans (.served hu)) (fun _ h => h)
    joined before

end HandoverStays

end Sys2Proof.Machine
end

section
/-! PROOFS. A drain whose source or target falls, at the path selector (R102, R118, R149, R150, R151). -/

namespace Sys2Proof.Machine

section
variable {s t u v x : State} {b source : Bearer}

/-! ## A judge that is DOWN, as the selector has been told (R121) -/

/-- The bearer's verdict is DOWN, and the selector has acted on it. -/
def ToldDown (b : Bearer) (s : State) : Prop := (s.judge b).verdict = .down ∧ (s.judge b).handed = false

theorem ToldDown.rework (h : ToldDown b s) : rework b s = s := by
  obtain ⟨hdown, hhanded⟩ := h
  rw [rework_eq, if_pos ((eligible_of_down hdown).trans hhanded.symm)]

theorem ToldDown.of_judge (h : ToldDown b s) (hj : t.judge b = s.judge b) : ToldDown b t := by rwa [ToldDown, hj]

theorem ToldDown.leaveReady (h : ToldDown b s) : ToldDown b (leaveReady s) := by
  cases b with
  | fibre => simpa [ToldDown, State.judge] using h
  | radio => exact ⟨by simp [State.judge, Judge.cleared], by simpa [State.judge] using h.2⟩

theorem ToldDown.enterReleasing (h : ToldDown b s) (c : ReleaseCause) : ToldDown b (enterReleasing c s) := by
  unfold Machine.enterReleasing
  split
  · exact h.leaveReady.of_judge (by cases b <;> rfl)
  · exact h.of_judge (by cases b <;> rfl)

theorem ToldDown.handWanted (h : ToldDown b s) : ToldDown b (handWanted s) := by
  obtain ⟨hdown, hhanded⟩ := h
  cases b with
  | fibre => exact ⟨by simpa [State.judge] using hdown, by simpa [State.judge] using hhanded⟩
  | radio =>
    refine ⟨handWanted_radio_down hdown, ?_⟩
    by_cases hmet : wantedLevel s = s.selector.wanted
    · rw [handWanted_of_met hmet]
      exact hhanded
    · rw [handWanted_of_changed hmet]
      refine eligible_of_down (s := actOnLevel (s.handed (wantedLevel s))) (b := .radio) ?_
      obtain hj | ⟨-, hj⟩ := actOnLevel_radioJudge (s.handed (wantedLevel s))
      · exact (congrArg Judge.verdict hj).trans hdown
      · exact congrArg Judge.verdict hj

/-! ## What follows a fall in its event -/

/-- What follows a bearer's fall in its event, and leaves what the selector made of it. -/
structure FallStands (b : Bearer) (u v : State) : Prop where
  selector : v.selector = u.selector
  paused : v.pause.selector = u.pause.selector
  session : v.session = u.session
  owed : v.sender.passOwed = u.sender.passOwed
  receiver : v.receiver = u.receiver
  stand : FlagsStand u v
  handover : HandoverStays u v
  takeUp : ∀ {d p}, TakeUpAsked d p u → TakeUpAsked d p v
  down : ToldDown b u → ToldDown b v

namespace FallStands

theorem refl (b : Bearer) (u : State) : FallStands b u u := ⟨rfl, rfl, rfl, rfl, rfl, .refl u, .refl u, id, id⟩

theorem trans (h : FallStands b t u) (h' : FallStands b u v) : FallStands b t v where
  selector := h'.selector.trans h.selector
  paused := h'.paused.trans h.paused
  session := h'.session.trans h.session
  owed := h'.owed.trans h.owed
  receiver := h'.receiver.trans h.receiver
  stand := h.stand.trans h'.stand
  handover := h.handover.trans h'.handover
  takeUp := h'.takeUp ∘ h.takeUp
  down := h'.down ∘ h.down

/-- What writes the module, the counts and the control link alone. -/
theorem ofModule (r : Radio) (l : ControlLink) (c : Counts) : FallStands b u { u with radio := r, link := l, counts := c } :=
  ⟨rfl, rfl, rfl, rfl, rfl, .of_eq rfl, .of_eq rfl, fun h => h.of_fields rfl rfl rfl rfl rfl, fun h => h.of_judge (by cases b <;> rfl)⟩

theorem leaveReady (u : State) : FallStands b u (leaveReady u) :=
  ⟨by simp, by simp, by simp, by simp, by simp, .leaveReady u, .leaveReady u, fun h => h.leaveReady, fun h => h.leaveReady⟩

theorem enterReleasing (c : ReleaseCause) (u : State) : FallStands b u (enterReleasing c u) :=
  ⟨by simp, by simp, by simp, by simp, by simp, .enterReleasing c u, .enterReleasing c u, fun h => h.enterReleasing c,
    fun h => h.enterReleasing c⟩

theorem startInterval (moment : Nat) (together : Bool) (u : State) : FallStands b u (startInterval b moment together u) := by
  refine ⟨by simp, by simp, by simp, by simp, by simp, .of_eq (by simp), .of_eq (by simp), fun h => ?_, fun h => ?_⟩
  · exact h.of_fields (by simp [State.active]) (by simp) (by simp) (by simp) (by simp)
  · rwa [ToldDown, judge_startInterval]

end FallStands

/-! ## A drain that its source or its target has left (R150, R151) -/

/-- What a drain comes to when a bearer of it falls: on the target with SOURCE_LOST and a take-up there, or back on the source with
TARGET_LOST and none, or in OUTAGE where the pin does not permit the source. -/
structure DrainBroken (source b : Bearer) (s u : State) : Prop where
  drainTimer : u.selector.drainTimer = none
  holdTimer : u.selector.holdTimer = none
  pin : u.selector.pin = s.selector.pin
  down : ToldDown b u
  switched : b = source → u.selector.status = .on source.other ∧ u.events.flags.getLsbD 7 = true ∧ u.pause.selector = false
    ∧ u.selector.record = s.selector.record.map (fun r => { r with outcome := some .sourceLost })
    ∧ (s.session.status = .opened → ∃ p, p ≠ .resending ∧ TakeUpAsked source.other p u)
  returned : b = source.other →
    u.selector.record = s.selector.record.map (fun r => { r with outcome := some .targetLost }) ∧ HandoverStays s u
  kept : b = source.other → s.selector.pin.permits source = true →
    u.selector.status = .on source ∧ u.pause.selector = false ∧ u.session = s.session
      ∧ u.sender.passOwed = s.sender.passOwed ∧ u.receiver = s.receiver
  outage : b = source.other → s.selector.pin.permits source = false →
    u.selector.status = .outage ∧ u.pause.selector = true ∧ u.events.flags.getLsbD 8 = true

theorem DrainBroken.after (h : DrainBroken source b s u) (hv : FallStands b u v) : DrainBroken source b s v where
  drainTimer := by rw [hv.selector]; exact h.drainTimer
  holdTimer := by rw [hv.selector]; exact h.holdTimer
  pin := by rw [hv.selector]; exact h.pin
  down := hv.down h.down
  switched hb := by
    obtain ⟨hon, hflag, hpause, hrecord, htakeUp⟩ := h.switched hb
    rw [hv.selector, hv.paused]
    exact ⟨hon, hv.stand 7 hflag, hpause, hrecord, fun ho => (htakeUp ho).imp fun _ hp => hp.imp_right hv.takeUp⟩
  returned hb := by
    obtain ⟨hrecord, hflag⟩ := h.returned hb
    rw [hv.selector]
    exact ⟨hrecord, hflag.trans hv.handover⟩
  kept hb hp := by
    rw [hv.selector, hv.paused, hv.session, hv.owed, hv.receiver]
    exact h.kept hb hp
  outage hb hp := by
    obtain ⟨hstatus, hpause, hflag⟩ := h.outage hb hp
    rw [hv.selector, hv.paused]
    exact ⟨hstatus, hpause, hv.stand 8 hflag⟩

/-- The state in which a bearer of a drain falls: what the selector reads and keeps is as before the event. -/
structure DrainStands (source b : Bearer) (s x : State) : Prop where
  selector : x.selector = s.selector
  session : x.session = s.session
  owed : x.sender.passOwed = s.sender.passOwed
  receiver : b = source.other → x.receiver = s.receiver
  handed : (x.judge b).handed = true
  handover : HandoverStays s x

theorem switched_takesUp (b : Bearer) (o : HandoverOutcome) (hs : u.session.status = .opened) :
    ∃ p, p ≠ .resending ∧ TakeUpAsked b.other p (switched b o u) := by
  obtain ⟨hasked, -⟩ := makeActive_takesUp (b := b.other) (s := { u with selector := { u.selector with drainTimer := none } }) hs false
  have hphase : (if u.sender.store = [] ∧ u.sender.passOwed = false then PassPhase.none else .waiting) ≠ .resending := by
    split <;> simp
  exact ⟨_, hphase, hasked.withSelector (switched b o u).selector rfl⟩

/-- The loss of the source, told to the selector (R150, R151). -/
theorem drainBroken_switchDrain (hlost : u.eligible b = false) (hdown : ToldDown b u) :
    DrainBroken b b u (switchDrain updateHold b .sourceLost u) := by
  obtain ⟨hselector, hpause, -, -⟩ := switched_writes b .sourceLost u
  have hidle : holdWanted (switched b .sourceLost u) = false :=
    holdWanted_makeActive_of_lost false (s := { u with selector := { u.selector with drainTimer := none } })
      (by cases b <;> exact hlost)
  have hswitch : switchDrain updateHold b .sourceLost u = handWanted ((switched b .sourceLost u).withHold none) := by
    rw [switchDrain_eq, updateHold_of_not_wanted hidle]
    rfl
  have hjudge : ((switched b .sourceLost u).withHold none).judge b = u.judge b := by
    cases b <;> simp [State.judge, State.withHold, switched, completeRecord]
  have hflag := flag_switchDrain b .sourceLost u
  have hother : ∀ {P : Prop}, b = b.other → P := fun hb => absurd hb.symm (other_ne b)
  rw [hswitch] at hflag ⊢
  refine ⟨?_, ?_, ?_, (hdown.of_judge hjudge).handWanted, fun _ => ⟨?_, hflag, ?_, ?_, fun ho => ?_⟩, fun hb => hother hb,
    fun hb => hother hb, fun hb => hother hb⟩
  · simp [State.withHold, hselector]
  · simp [State.withHold]
  · simp [State.withHold, hselector]
  · simp [State.withHold, hselector]
  · simpa [State.withHold] using hpause
  · simp [State.withHold, hselector]
  · exact (switched_takesUp b .sourceLost ho).imp fun _ hp => hp.imp_right fun hasked =>
      (hasked.withSelector ((switched b .sourceLost u).withHold none).selector rfl).handWanted

/-- The loss of the target, told to the selector (R150). -/
theorem drainBroken_abandonDrain (hlost : u.eligible source.other = false) (hdown : ToldDown source.other u) :
    DrainBroken source source.other u (abandonDrain source .targetLost u) := by
  have hself : ∀ {P : Prop}, source.other = source → P := fun hb => absurd hb (other_ne source)
  cases hp : u.selector.pin.permits source with
  | true =>
    have hidle : holdWanted (drainLeft source .targetLost u) = false :=
      holdWanted_of_lost (b := source.other) (by simp [drainLeft]) (by cases source <;> exact hlost)
    have hback : abandonDrain source .targetLost u = handWanted ((drainLeft source .targetLost u).withHold none) := by
      rw [abandonDrain_of_permitted hp, updateHold_of_not_wanted hidle]
      rfl
    have hjudge : ((drainLeft source .targetLost u).withHold none).judge source.other = u.judge source.other := by
      cases source <;> rfl
    rw [hback]
    refine ⟨?_, ?_, ?_, (hdown.of_judge hjudge).handWanted, fun hb => hself hb, fun _ => ⟨?_, ?_⟩, fun _ _ => ⟨?_, ?_, ?_, ?_, ?_⟩,
      fun _ hn => by rw [hp] at hn; cases hn⟩
    case refine_5 => exact .after (.handWanted _) (.of_eq rfl)
    all_goals simp [State.withHold, drainLeft, completeRecord]
  | false =>
    set ended := completeRecord .targetLost { u with selector := { u.selector with drainTimer := none } } with hended
    have hout : abandonDrain source .targetLost u = enterOutage ended := by simp [abandonDrain, hp, hended]
    have hjudge : (report .outageBegin (outageEntered ended)).judge source.other = u.judge source.other := by
      cases source <;> simp [State.judge, hended, completeRecord]
    rw [hout]
    refine ⟨?_, ?_, ?_, (hdown.of_judge hjudge).handWanted, fun hb => hself hb, fun _ => ⟨?_, ?_⟩,
      fun _ hn => by (rw [hp] at hn; cases hn), fun _ _ => ⟨?_, ?_, ?_⟩⟩
    case refine_5 => exact .after (.enterOutage _) (.of_eq rfl)
    case refine_8 => exact FlagsStand.handWanted _ 8 (flag_report .outageBegin _)
    all_goals simp [enterOutage_eq, outageEntered, hended, completeRecord]

/-- A bearer of a drain falls (R118, R150, R151). -/
theorem drainBroken_fall (hs : s.selector.status = .draining source) (h : DrainStands source b s x) :
    DrainBroken source b s (fall b x) := by
  obtain ⟨hselector, hsession, howed, hreceiver, hhanded, hhandover⟩ := h
  have hlost := eligible_fellDown b x
  have htold : ((fellDown b x).judge b).handed = true := by
    rw [(judge_fellDown b x).1]
    exact hhanded
  set y := noted b (fellDown b x) with hy
  have hfall : fall b x = onEligibility b y := by rw [fall_eq, rework_eq, hlost, htold, if_neg Bool.false_ne_true]
  have hysel : y.selector = s.selector := by simp [hy, fellDown, hselector]
  have hylost : y.eligible b = false := (eligible_noted b b _).trans hlost
  have hydown : ToldDown b y := by
    rw [ToldDown, hy, judge_noted, (judge_fellDown b x).1]
    exact ⟨rfl, hlost⟩
  have hystays : HandoverStays s y := .after (.of_eq (by simp [hy, noted])) (hhandover.trans (.fellDown b x))
  have hyrest : y.session = s.session ∧ y.sender.passOwed = s.sender.passOwed ∧ y.receiver = x.receiver := by
    simp [hy, noted, fellDown, hsession, howed]
  obtain ⟨hysession, hyowed, hyreceiver⟩ := hyrest
  have hbroken : DrainBroken source b y (fall b x) := by
    rw [hfall]
    obtain rfl | rfl := eq_or_eq_other source b
    · have hacts : onEligibility b y = switchDrain updateHold b .sourceLost y := by simp [onEligibility, hysel, hs, hylost]
      rw [hacts]
      exact drainBroken_switchDrain hylost hydown
    · have hacts : onEligibility source.other y = abandonDrain source .targetLost y := by
        simp [onEligibility, hysel, hs, hylost]
      rw [hacts]
      exact drainBroken_abandonDrain hylost hydown
  obtain ⟨hdrain, hhold, hpin, hdown, hswitched, hreturned, hkept, hout⟩ := hbroken
  rw [hysel] at hpin hswitched hreturned hkept hout
  rw [hysession] at hswitched hkept
  rw [hyowed, hyreceiver] at hkept
  refine ⟨hdrain, hhold, hpin, hdown, hswitched, fun hb => (hreturned hb).imp_right fun hf => hystays.trans hf, fun hb hp => ?_, hout⟩
  rw [← hreceiver hb]
  exact hkept hb hp

theorem permits_of_ne_other {p : PinValue} (hp : p ≠ .only source.other) : p.permits source = true := by
  cases p with
  | auto => rfl
  | only c =>
    obtain rfl | rfl := eq_or_eq_other source c
    · simp [permits_eq]
    · exact absurd rfl hp

theorem permits_only_other (source : Bearer) : (PinValue.only source.other).permits source = false := by
  cases source <;> rfl

/-- The end of the event leaves what the selector made of the loss, and the REWIND stream is due (R55, R102). -/
theorem DrainBroken.finish (h : DrainBroken source b s u) (before : State) :
    let t := finish false before u
    t.selector.drainTimer = none ∧ t.selector.holdTimer = none ∧ t.selector.pin = s.selector.pin
      ∧ (t.judge b).verdict = .down ∧ (t.judge b).handed = false
      ∧ (b = source →
        t.selector.status = .on source.other ∧ t.events.flags.getLsbD 7 = true ∧ t.pause.selector = false
          ∧ t.selector.record = s.selector.record.map (fun r => { r with outcome := some .sourceLost })
          ∧ (s.session.status = .opened → RewindDueOn source.other t))
      ∧ (b = source.other →
        t.selector.record = s.selector.record.map (fun r => { r with outcome := some .targetLost })
          ∧ t.events.flags.getLsbD 7 = s.events.flags.getLsbD 7
          ∧ (s.selector.pin ≠ .only source.other →
            t.selector.status = .on source ∧ t.pause.selector = false ∧ t.session = s.session
              ∧ t.sender.passOwed = s.sender.passOwed ∧ t.receiver = s.receiver)
          ∧ (s.selector.pin = .only source.other →
            t.selector.status = .outage ∧ t.pause.selector = true ∧ t.events.flags.getLsbD 8 = true)) := by
  intro t
  have hstands : t.selector = u.selector ∧ t.pause.selector = u.pause.selector ∧ t.session = u.session
      ∧ t.sender.passOwed = u.sender.passOwed ∧ t.receiver = u.receiver := by simp [t]
  obtain ⟨hselector, hpause, hsession, howed, hreceiver⟩ := hstands
  have hflags : FlagsStand u t := .finish false before u
  obtain ⟨q, hq⟩ := judge_finish false before u b
  rw [hselector, hpause, hsession, howed, hreceiver]
  refine ⟨h.drainTimer, h.holdTimer, h.pin, (congrArg Judge.verdict hq).trans h.down.1,
    (congrArg Judge.handed hq).trans h.down.2, fun hb => ?_, fun hb => ?_⟩
  · obtain ⟨hon, hflag, hresumed, hrecord, htakeUp⟩ := h.switched hb
    refine ⟨hon, hflags 7 hflag, hresumed, hrecord, fun ho => ?_⟩
    obtain ⟨p, hp, hasked⟩ := htakeUp ho
    exact (hasked.takenUp.finish hp false before).rewindDueOn
  · obtain ⟨hrecord, hflag⟩ := h.returned hb
    refine ⟨hrecord, hflag.trans (.finish false before u), fun hp => ?_, fun hp => ?_⟩
    · exact h.kept hb (permits_of_ne_other hp)
    · obtain ⟨hstatus, hheld, hout⟩ := h.outage hb (by rw [hp, permits_only_other])
      exact ⟨hstatus, hheld, hflags 8 hout⟩

end

end Sys2Proof.Machine
end

section
/-! PROOFS. A drain whose source or target is lost, by each way a bearer falls (R114, R115, R118, R150, R151, R159, R169). -/

namespace Sys2Proof.Machine

section
variable {s y v : State} {b source : Bearer}

/-! ## The state a bearer falls in -/

/-- A command in which a bearer falls: what the selector makes of it stands for the rest of the event. -/
def LosesBearer (source b : Bearer) (c : Instr) (s : State) : Prop :=
  ∃ x v, exec c s = .next (finish false s v) ∧ DrainStands source b s x ∧ FallStands b (fall b x) v

/-- The figures of the bearer's own judge are no part of what the selector reads. -/
theorem DrainStands.mapJudge (h : DrainStands source b s y) {f : Judge → Judge} (hf : ∀ j, (f j).handed = j.handed) :
    DrainStands source b s (y.mapJudge b f) where
  selector := by simpa using h.selector
  session := by simpa using h.session
  owed := by simpa using h.owed
  receiver hb := by simpa using h.receiver hb
  handed := by cases b <;> exact (hf _).trans h.handed
  handover := h.handover.trans (.of_eq (by simp))

/-- Hard-fail evidence at an UP judge (R118, R119). -/
theorem hardFail_falls (h : DrainStands source b s y) (hj : (y.judge b).timer.isSome = true) (hv : (y.judge b).verdict = .up) :
    ∃ x, hardFail b y = fall b x ∧ DrainStands source b s x :=
  ⟨y.mapJudge b Judge.hardFailed, hardFail_of_up hj hv, h.mapJudge fun _ => rfl⟩

/-- A command whose effect is hard-fail evidence, and then what leaves the selector alone. -/
theorem LosesBearer.of_hardFail {c : Instr} (h : DrainStands source b s y) (hj : (y.judge b).timer.isSome = true)
    (hv : (y.judge b).verdict = .up) (he : exec c s = .next (finish false s v)) (hfalls : FallStands b (hardFail b y) v) :
    LosesBearer source b c s := by
  obtain ⟨x, hx, hstands⟩ := hardFail_falls h hj hv
  exact ⟨x, v, he, hstands, hx ▸ hfalls⟩

/-! ## The fibre's link, the end of an interval, and a carry failure (R93, R114, R115, R118) -/

theorem drainStands_fibreLinkCut (source : Bearer) (hh : s.fibreJudge.handed = true) :
    DrainStands source .fibre s (fibreLinkCut s) := by
  obtain ⟨-, hjudge, hselector, hsession, -, hreceiver, -⟩ := fibreLinkCut_writes s
  exact ⟨hselector, hsession, by simp [fibreLinkCut, State.setFibreLink], fun _ => hreceiver, (congrArg Judge.handed hjudge).trans hh,
    .of_eq (by simp [fibreLinkCut, State.setFibreLink])⟩

theorem fibreLinkDown_loses (source : Bearer) (hr : s.resetHeld = false) (hu : s.fibre.linkUp = true)
    (hj : s.fibreJudge.timer.isSome = true) (hv : s.fibreJudge.verdict = .up) (hh : s.fibreJudge.handed = true) :
    LosesBearer source .fibre .fibreLinkDown s := by
  obtain ⟨-, hjudge, -⟩ := fibreLinkCut_writes s
  refine .of_hardFail (drainStands_fibreLinkCut source hh) ?_ ?_ (exec_fibreLinkDown hr) ?_
  · exact (congrArg (fun j : Judge => j.timer.isSome) hjudge).trans hj
  · exact (congrArg Judge.verdict hjudge).trans hv
  · rw [fibreLinkLost_of_up hu]
    exact .refl _ _

/-- An interval that is unanswered, or without its link or a usable reading at the floor, is BAD (R113, R115). -/
theorem intervalGood_of_missed {j : Judge} (h : (!j.answered || (match b with
      | .fibre => !j.linkHeld
      | .radio => !j.reading.any fun r => decide (j.count ≤ r.interval + 3) && decide (j.settings.floor ≤ r.level))) = true) :
    j.intervalGood b = false := by
  cases b with
  | fibre =>
    show (j.linkHeld && j.answered) = false
    cases ha : j.answered <;> simp_all
  | radio =>
    rw [intervalGood_radio]
    cases ha : j.answered <;> simp_all

theorem intervalEnd_loses (source : Bearer) {moment : Nat} (hr : s.resetHeld = false) (hm : (s.judge b).timer = some moment)
    (hv : (s.judge b).verdict = .up) (hh : (s.judge b).handed = true) (hbad : (s.judge b).intervalGood b = false)
    (hfalls : (s.judge b).settings.fallRun ≤ min ((s.judge b).badRun + 1) 65535) : LosesBearer source b (.intervalEnd b) s := by
  obtain ⟨hjudge, -, -, hselector, hsession, hreceiver, -⟩ := intervalCounted_writes b moment s
  have hcounted : DrainStands source b s (intervalCounted b moment s) :=
    ⟨hselector, hsession, by simp [intervalCounted], fun _ => hreceiver, by rw [hjudge, counted_windowed]; exact hh,
      .of_eq (by simp [intervalCounted])⟩
  have htested := verdictTest_of_up_falls (b := b) (s := intervalCounted b moment s)
    (by rw [hjudge, counted_windowed]; exact hv) (by rw [hjudge, counted_windowed, hbad]; exact hfalls)
  refine ⟨_, _, exec_intervalEnd hr b, hcounted.mapJudge (f := fun k => { k with goodRun := 0, cleanRun := 0 }) fun _ => rfl, ?_⟩
  rw [endInterval_of_running hm, htested]
  dsimp only
  split
  · exact .startInterval _ _ _
  · exact .refl _ _

theorem rewindTimerExpiry_loses {due : Nat} (hr : s.resetHeld = false) (hs : s.selector.status = .draining b)
    (hd : s.receiver.rewindTimer = some due) (hl : s.carry.rewindLimit ≤ s.receiver.attempts)
    (hj : (s.judge b).timer.isSome = true) (hv : (s.judge b).verdict = .up) (hh : (s.judge b).handed = true) :
    LosesBearer b b .rewindTimerExpiry s := by
  obtain ⟨-, -, -, hjudge, hselector, hsession, -⟩ := rewindFailed_writes (s.advanceTo due)
  have hstill : ((rewindFailed (s.advanceTo due)).judge b) = s.judge b := (hjudge b).trans (by cases b <;> rfl)
  have hflag : HandoverStays s (rewindFailed (s.advanceTo due)) :=
    .after (t := report .rewindFailed (stopRewindTimer (s.advanceTo due))) (.of_eq rfl) (.after (.report (by decide) _) (.of_eq rfl))
  have hstands : DrainStands b b s (rewindFailed (s.advanceTo due)) :=
    ⟨hselector, hsession, by simp [rewindFailed, stopRewindTimer], fun hb => absurd hb.symm (other_ne b), by rw [hstill]; exact hh,
      hflag⟩
  refine .of_hardFail hstands (by rw [hstill]; exact hj) (by rw [hstill]; exact hv) (exec_rewindTimerExpiry hr) ?_
  rw [rewindExpires_of_limit hd (b := b) (congrArg SelectorStatus.active hs) hl]
  exact .refl _ _

/-! ## The module (R159, R161, R162, R169) -/

/-- The radio falls with hard-fail evidence, so its judge has told the selector. -/
theorem toldDown_hardFail (h : DrainStands source .radio s y) (hs : s.selector.status = .draining source)
    (hj : y.radioJudge.timer.isSome = true) (hv : y.radioJudge.verdict = .up) : ToldDown .radio (hardFail .radio y) := by
  obtain ⟨x, hx, hstands⟩ := hardFail_falls h hj hv
  rw [hx]
  exact (drainBroken_fall hs hstands).down

/-- A radio that has fallen stays as the selector has taken it when the module is released. -/
theorem FallStands.releaseFrom (c : ReleaseCause) (h : ToldDown .radio y) : FallStands .radio y (releaseFrom c y) := by
  have hsame : Machine.releaseFrom c y = Machine.enterReleasing c y := (h.enterReleasing c).rework
  rw [hsame]
  exact .enterReleasing c y

theorem FallStands.cellLost (h : ToldDown .radio (hardFail .radio s)) : FallStands .radio (hardFail .radio s) (cellLost s) := by
  have hleft : FallStands .radio (hardFail .radio s) (cellLeft s) :=
    (FallStands.ofModule _ _ _).trans (.leaveReady _)
  rw [cellLost_eq, (hleft.down h).rework]
  dsimp only
  split
  · exact hleft.trans (.enterReleasing _ _)
  · exact hleft.trans (.ofModule _ _ _)

theorem detached_loses (hr : s.resetHeld = false) (hs : s.selector.status = .draining source) (hm : s.radio.status = .ready)
    (hj : s.radioJudge.timer.isSome = true) (hv : s.radioJudge.verdict = .up) (hh : s.radioJudge.handed = true) :
    LosesBearer source .radio .detached s := by
  have hstands : DrainStands source .radio s s := ⟨rfl, rfl, rfl, fun _ => rfl, hh, .refl s⟩
  have he : exec .detached s = .next (finish false s (cellLost s)) := by
    simp [exec, execDetached, run, runWith, hr, detachedTaken, hm]
  exact .of_hardFail hstands hj hv he (.cellLost (toldDown_hardFail hstands hs hj hv))

/-- A command's time-out, counted and reported before the evidence (R159). -/
def timeoutCounted (s : State) : State := report .moduleFault ((s.answered.countModule .upTimeouts).countModule .upFaults)

theorem FallStands.commandTimesOut (h : ToldDown .radio (hardFail .radio (timeoutCounted s))) :
    FallStands .radio (hardFail .radio (timeoutCounted s)) (commandTimesOut s) := by
  unfold Machine.commandTimesOut
  dsimp only
  split
  · exact .ofModule _ _ _
  · exact .releaseFrom _ h
  · exact .releaseFrom _ h
  · exact .refl _ _

theorem responseTimeout_loses {o : Outstanding} (hr : s.resetHeld = false) (hs : s.selector.status = .draining source)
    (ho : s.radio.outstanding = some o) (hc : o.command ≠ .attach)
    (hj : s.radioJudge.timer.isSome = true) (hv : s.radioJudge.verdict = .up) (hh : s.radioJudge.handed = true) :
    LosesBearer source .radio .responseTimeout s := by
  have hstill : (timeoutCounted (s.advanceTo o.limit)).radioJudge = s.radioJudge := by simp [timeoutCounted]
  have hstands : DrainStands source .radio s (timeoutCounted (s.advanceTo o.limit)) :=
    ⟨by simp [timeoutCounted], by simp [timeoutCounted], by simp [timeoutCounted], fun _ => by simp [timeoutCounted],
      (congrArg Judge.handed hstill).trans hh, .after (.report (by decide) _) (.of_eq (by simp))⟩
  have he : exec .responseTimeout s = .next (finish false s (commandTimesOut (s.advanceTo o.limit))) := by
    simp [exec, execResponseTimeout, run, runWith, hr, responseLate, ho, hc]
  rw [← hstill] at hj hv
  exact .of_hardFail hstands hj hv he (.commandTimesOut (toldDown_hardFail hstands hs hj hv))

/-- A stall at the stall limit, counted and reported before the evidence (R169). -/
def stallCounted (s : State) : State :=
  report .moduleFault (State.countModule .upFaults { s.countModule .upStalls with
    radio := { s.radio with stallCount := s.radio.stallCount + 1 } })

theorem unitStalls_of_limit (h : s.radio.settings.stallLimit ≤ s.radio.stallCount + 1) :
    unitStalls s = releaseFrom .fault (hardFail .radio (stallCounted s)) := if_neg (Nat.not_lt.2 h)

theorem readyLimitPasses_loses {due : Nat} (hr : s.resetHeld = false) (hs : s.selector.status = .draining source)
    (hm : s.radio.status = .ready) (hd : s.radio.handshake = .watching due)
    (hl : s.radio.settings.stallLimit ≤ s.radio.stallCount + 1)
    (hj : s.radioJudge.timer.isSome = true) (hv : s.radioJudge.verdict = .up) (hh : s.radioJudge.handed = true) :
    LosesBearer source .radio .readyLimitPasses s := by
  have hstill : (stallCounted (s.advanceTo due)).radioJudge = s.radioJudge := by simp [stallCounted]
  have hstands : DrainStands source .radio s (stallCounted (s.advanceTo due)) :=
    ⟨by simp [stallCounted], by simp [stallCounted], by simp [stallCounted], fun _ => by simp [stallCounted],
      (congrArg Judge.handed hstill).trans hh, .after (.report (by decide) _) (.of_eq (by simp))⟩
  have he : exec .readyLimitPasses s =
      .next (finish false s (releaseFrom .fault (hardFail .radio (stallCounted (s.advanceTo due))))) := by
    rw [← unitStalls_of_limit (s := s.advanceTo due) hl]
    simp [exec, execReadyLimitPasses, run, runWith, hr, readyLate, hd, hm]
  rw [← hstill] at hj hv
  exact .of_hardFail hstands hj hv he (.releaseFrom _ (toldDown_hardFail hstands hs hj hv))

end

end Sys2Proof.Machine

open Sys2Proof.Machine in
/-- Settles O21: in each way the bearer falls once, and what follows in the event leaves what the selector made of the fall. -/
theorem drainLosesABearer : Obligations.DrainLosesABearer := by
  intro s c source b moment command j missed hr hs hh hv hj hway
  have hloses : LosesBearer source b c s := by
    obtain ⟨rfl, rfl, hu⟩ | ⟨rfl, rfl, hm⟩ | ⟨rfl, hm, hmissed, hfalls⟩ | ⟨rfl, rfl, hd, hl⟩ | ⟨rfl, rfl, ho, hc⟩
      | ⟨rfl, rfl, hm, hd, hl⟩ := hway
    · exact fibreLinkDown_loses source hr hu hj hv hh
    · exact detached_loses hr hs hm hj hv hh
    · exact intervalEnd_loses source hr hm hv hh (intervalGood_of_missed hmissed) hfalls
    · exact rewindTimerExpiry_loses hr hs hd hl hj hv hh
    · exact responseTimeout_loses hr hs ho hc hj hv hh
    · exact readyLimitPasses_loses hr hs hm hd hl hj hv hh
  obtain ⟨x, v, he, hstands, hfalls⟩ := hloses
  exact ⟨_, he, ((drainBroken_fall hs hstands).after hfalls).finish s⟩
end

section
/-! PROOFS. The end of an event that leaves no bearer active, with nothing but ECHO frames waiting (R55, R56, R83, R136). -/

namespace Sys2Proof.Machine

section
variable {s t u v : State} {b : Bearer}

/-! ## Where no bearer is active -/

/-- The replay sender but for the frames that wait. -/
def Sender.unwaiting (x : Sender) : Sender := { x with waitingFibre := [], waitingRadio := [] }

/-- No bearer is active, and nothing but ECHO frames waits. -/
structure Silent (s : State) : Prop where
  inactive : s.active = none
  echoes : ∀ b, ∀ w ∈ s.waiting b, w.isEcho = true

/-- On no active bearer a frame that starts is on its port, and no tally is settled (R59). -/
theorem startFrame_of_inactive (h : s.active = none) (f : CarryFrame) :
    startFrame b f s = putOnPort b ⟨f, wireOf b f s, false⟩ s := by
  have hport : (putOnPort b ⟨f, wireOf b f s, false⟩ s).active = none := by simpa [State.active] using h
  simp [startFrame, settleTally, hport]

/-- An ECHO makes no probe table entry (R110). -/
theorem startWaiting_of_echo {w : WaitingFrame} (h : s.active = none) (hw : w.isEcho = true) (rest : List WaitingFrame) :
    startWaiting b w rest s = putOnPort b ⟨w.frame b s, wireOf b (w.frame b s) s, false⟩ (s.setWaiting b rest) := by
  have hset : (s.setWaiting b rest).active = none := by simpa [State.active] using h
  have hwire : wireOf b (w.frame b s) (s.setWaiting b rest) = wireOf b (w.frame b s) s := by cases b <;> rfl
  have hstarted := startFrame_of_inactive (b := b) hset (w.frame b s)
  rw [hwire] at hstarted
  cases w with
  | echo tag bearer epoch => exact hstarted
  | _ => cases hw

/-- What a port does at the end of an event on no active bearer: it rests, a stream's next mark starts, or the first ECHO. -/
theorem serve_cases (h : s.active = none) (o : Bool) (b : Bearer) :
    (serve o b s = s ∧ (s.portFree b = false ∨ (streamOn s b = none ∧ s.waiting b = [])))
      ∨ (∃ k, s.portFree b = true ∧ streamOn s b = some k ∧ serve o b s = startMark b k s)
      ∨ ∃ w rest, s.portFree b = true ∧ streamOn s b = none ∧ s.waiting b = w :: rest ∧ serve o b s = startWaiting b w rest s := by
  have hunasked : ¬(s.active = some b ∧ (s.sender.rewindPending = true ∨ s.sender.announcePending = true)) := fun ha => by
    rw [h] at ha
    cases ha.1
  have hended : endPassAt b s = s := by simp [endPassAt, h]
  cases hfree : s.portFree b with
  | false => exact .inl ⟨serve_of_busy hfree, .inl rfl⟩
  | true =>
    have hserve : serve o b s = nextFrame o b s := by simp [serve, hfree, hended]
    cases hstream : streamOn s b with
    | some k => exact .inr (.inl ⟨k, rfl, rfl, hserve.trans (nextFrame_of_stream _ hstream)⟩)
    | none =>
      cases hwaiting : s.waiting b with
      | nil => exact .inl ⟨hserve.trans (nextFrame_of_other_bearer _ hstream hwaiting (by simp [h])), .inr ⟨rfl, rfl⟩⟩
      | cons w rest => exact .inr (.inr ⟨w, rest, rfl, rfl, rfl, hserve.trans (nextFrame_of_waiting _ hstream hunasked hwaiting)⟩)

/-! ## What every port keeps -/

/-- The end of an event keeps the sender's parts but the waiting frames, the pause reasons and the judges. -/
structure SilentKept (s t : State) : Prop where
  silent : Silent t
  sender : t.sender.unwaiting = s.sender.unwaiting
  pause : t.pause = s.pause
  judge : ∀ b, t.judge b = s.judge b

theorem SilentKept.refl (h : Silent s) : SilentKept s s := ⟨h, rfl, rfl, fun _ => rfl⟩

theorem SilentKept.trans (h : SilentKept s t) (h' : SilentKept t u) : SilentKept s u :=
  ⟨h'.silent, h'.sender.trans h.sender, h'.pause.trans h.pause, fun b => (h'.judge b).trans (h.judge b)⟩

theorem SilentKept.putOnPort (h : Silent s) (b : Bearer) (l : Leaving) : SilentKept s (putOnPort b l s) := by
  obtain ⟨hinactive, hechoes⟩ := h
  refine ⟨⟨by simpa [State.active] using hinactive, fun c => ?_⟩, ?_, ?_, fun c => ?_⟩
  · have hwaits : (Machine.putOnPort b l s).waiting c = s.waiting c := by cases b <;> cases c <;> rfl
    rw [hwaits]
    exact hechoes c
  · cases b <;> rfl
  · cases b <;> rfl
  · cases b <;> cases c <;> rfl

theorem SilentKept.setWaiting (h : Silent s) {w : WaitingFrame} {rest : List WaitingFrame} (hw : s.waiting b = w :: rest) :
    SilentKept s (s.setWaiting b rest) := by
  obtain ⟨hinactive, hechoes⟩ := h
  refine ⟨⟨by simpa [State.active] using hinactive, fun c v hv => ?_⟩, ?_, ?_, fun c => judge_setWaiting b c rest s⟩
  · refine hechoes c v ?_
    obtain rfl | rfl := eq_or_eq_other b c
    · rw [hw]
      exact List.mem_cons_of_mem w (by rwa [waiting_setWaiting] at hv)
    · have hother : (s.setWaiting b rest).waiting b.other = s.waiting b.other := by cases b <;> rfl
      rwa [hother] at hv
  · cases b <;> rfl
  · cases b <;> rfl

theorem SilentKept.serve (h : Silent s) (o : Bool) (b : Bearer) : SilentKept s (serve o b s) := by
  obtain ⟨he, -⟩ | ⟨k, -, -, he⟩ | ⟨w, rest, -, -, hw, he⟩ := serve_cases h.inactive o b <;> rw [he]
  · exact .refl h
  · rw [startMark, startFrame_of_inactive h.inactive]
    exact .putOnPort h b _
  · rw [startWaiting_of_echo h.inactive (h.echoes b w (by simp [hw]))]
    have hset := SilentKept.setWaiting h hw
    exact hset.trans (.putOnPort hset.silent b _)

theorem SilentKept.closeEvent (h : SilentKept s t) : SilentKept s (closeEvent t) := by
  obtain ⟨⟨hinactive, hechoes⟩, hsender, hpause, hjudge⟩ := h
  have hwaits : ∀ b, (Machine.closeEvent t).waiting b = t.waiting b := fun b => by cases b <;> rfl
  have hjudges : ∀ b, (Machine.closeEvent t).judge b = t.judge b := fun b => by cases b <;> rfl
  exact ⟨⟨hinactive, fun b => by rw [hwaits b]; exact hechoes b⟩, hsender, hpause, fun b => (hjudges b).trans (hjudge b)⟩

theorem SilentKept.finish (h : Silent s) (joined : Bool) (before : State) : SilentKept s (finish joined before s) := by
  have hfibre := SilentKept.serve h (opportunityAfter joined before s) .fibre
  exact (hfibre.trans (.serve hfibre.silent (opportunityAfter joined before s) .radio)).closeEvent

/-! ## What each port does -/

/-- Two states whose port of a bearer is served alike (R55). -/
structure PortAlike (b : Bearer) (s t : State) : Prop where
  fibre : b = .fibre → t.fibre = s.fibre
  radio : b = .radio → t.radio = s.radio
  waiting : t.waiting b = s.waiting b
  stream : t.sender.stream = s.sender.stream
  settings : t.radio.settings = s.radio.settings
  carry : t.carry = s.carry
  session : t.session = s.session
  receiver : t.receiver = s.receiver

/-- What the end of an event does at a port on no active bearer: it rests, a mark leaves before the waiting frames, or the first
ECHO leaves. -/
structure PortEnds (b : Bearer) (s t : State) : Prop where
  rests : s.portFree b = false ∨ (streamOn s b = none ∧ s.waiting b = []) →
    t.leaving b = s.leaving b ∧ t.waiting b = s.waiting b ∧ (b = .radio → t.radio = s.radio)
  marks : ∀ k, streamOn s b = some k → t.waiting b = s.waiting b
  starts : ∀ w rest, s.portFree b = true → streamOn s b = none → s.waiting b = w :: rest →
    t.waiting b = rest ∧ FrameStarts b (w.frame b s) s t

theorem PortAlike.leaving (h : PortAlike b s t) : t.leaving b = s.leaving b := by
  cases b with
  | fibre => exact congrArg FibrePort.leaving (h.fibre rfl)
  | radio => exact congrArg Radio.leaving (h.radio rfl)

theorem PortAlike.portFree (h : PortAlike b s t) : t.portFree b = s.portFree b := by
  cases b with
  | fibre => simp [State.portFree, h.fibre rfl]
  | radio => simp [State.portFree, h.radio rfl]

theorem PortAlike.streamOn (h : PortAlike b s t) : streamOn t b = streamOn s b := by rw [Machine.streamOn, h.stream]; rfl

theorem PortAlike.frame (h : PortAlike b s t) (w : WaitingFrame) : w.frame b t = w.frame b s := by
  cases w <;> simp [WaitingFrame.frame, plainFrame, h.session, h.receiver]

/-- The other port is served alike before and after this one. -/
theorem PortAlike.serve (h : Silent s) (o : Bool) (b : Bearer) : PortAlike b.other s (serve o b s) := by
  have hkept := SilentKept.serve h o b
  have hwaiting : (Machine.serve o b s).waiting b.other = s.waiting b.other := by
    obtain ⟨he, -⟩ | ⟨k, -, -, he⟩ | ⟨w, rest, -, -, hw, he⟩ := serve_cases h.inactive o b <;> rw [he]
    · rw [startMark, startFrame_of_inactive h.inactive]
      cases b <;> rfl
    · rw [startWaiting_of_echo h.inactive (h.echoes b w (by simp [hw]))]
      cases b <;> rfl
  refine ⟨fun hb => ?_, fun hb => ?_, hwaiting, (congrArg Sender.stream hkept.sender :), by simp, by simp, by simp, by simp⟩
  · obtain rfl : b = .radio := by cases b <;> simp_all [Bearer.other]
    exact (FibrePortRests.serve o s).port
  · obtain rfl : b = .fibre := by cases b <;> simp_all [Bearer.other]
    exact (ModulePortRests.serve o s).radio

theorem PortAlike.closeEvent (b : Bearer) (s : State) : PortAlike b s (closeEvent s) :=
  ⟨fun _ => rfl, fun _ => rfl, by cases b <;> rfl, rfl, rfl, rfl, rfl, rfl⟩

theorem PortEnds.serve (h : Silent s) (o : Bool) (b : Bearer) : PortEnds b s (serve o b s) := by
  obtain ⟨he, hrests⟩ | ⟨k, hfree, hstream, he⟩ | ⟨w, rest, hfree, hstream, hw, he⟩ := serve_cases h.inactive o b <;> rw [he]
  · refine ⟨fun _ => ⟨rfl, rfl, fun _ => rfl⟩, fun _ _ => rfl, fun w rest hfree hnone hw => ?_⟩
    obtain hbusy | ⟨-, hnil⟩ := hrests
    · rw [hbusy] at hfree
      cases hfree
    · rw [hnil] at hw
      cases hw
  · have hwaiting : (startMark b k s).waiting b = s.waiting b := by
      rw [startMark, startFrame_of_inactive h.inactive]
      cases b <;> rfl
    exact ⟨fun hr => by simp [hfree, hstream] at hr, fun _ _ => hwaiting, fun _ _ _ hnone _ => by simp [hstream] at hnone⟩
  · refine ⟨fun hr => by simp [hfree, hstream, hw] at hr, fun _ hk => by simp [hstream] at hk, fun v tail _ _ hv => ?_⟩
    obtain ⟨rfl, rfl⟩ := List.cons.inj (hw.symm.trans hv)
    obtain ⟨hstarts, hwaiting⟩ := frameStarts_startWaiting (s := s) (b := b) w rest
    exact ⟨by rwa [if_neg (by simp [h.inactive])] at hwaiting, hstarts⟩

theorem PortEnds.before (h : PortEnds b t u) (ha : PortAlike b s t) (hs : s.active = none) (ht : t.active = none) :
    PortEnds b s u := by
  obtain ⟨hrests, hmarks, hstarts⟩ := h
  rw [ha.portFree, ha.streamOn, ha.waiting, ha.leaving] at hrests
  rw [ha.streamOn, ha.waiting] at hmarks
  rw [ha.portFree, ha.streamOn, ha.waiting] at hstarts
  refine ⟨fun hr => ?_, hmarks, fun w rest hfree hnone hw => ?_⟩
  · obtain ⟨hleaving, hwaiting, hradio⟩ := hrests hr
    exact ⟨hleaving, hwaiting, fun hb => (hradio hb).trans (ha.radio hb)⟩
  · obtain ⟨hwaiting, hframe⟩ := hstarts w rest hfree hnone hw
    rw [ha.frame] at hframe
    exact ⟨hwaiting, hframe.congr ha.carry ha.settings (ht.trans hs.symm)⟩

theorem PortEnds.after (h : PortEnds b s t) (ha : PortAlike b t u) (hs : s.active = none) : PortEnds b s u := by
  obtain ⟨hrests, hmarks, hstarts⟩ := h
  refine ⟨fun hr => ?_, fun k hk => ha.waiting.trans (hmarks k hk), fun w rest hfree hnone hw => ?_⟩
  · obtain ⟨hleaving, hwaiting, hradio⟩ := hrests hr
    exact ⟨ha.leaving.trans hleaving, ha.waiting.trans hwaiting, fun hb => (ha.radio hb).trans (hradio hb)⟩
  · obtain ⟨hwaiting, hleaving, hport, -⟩ := hstarts w rest hfree hnone hw
    refine ⟨ha.waiting.trans hwaiting, ha.leaving.trans hleaving, fun hb => ?_, fun hactive => by simp [hs] at hactive⟩
    rw [ha.radio hb]
    exact hport hb

/-- The fibre is served before the radio, and neither keeps the other back. -/
theorem PortEnds.finish (h : Silent s) (joined : Bool) (before : State) (b : Bearer) : PortEnds b s (finish joined before s) := by
  have hfibre := SilentKept.serve h (opportunityAfter joined before s) .fibre
  have hsilent := hfibre.silent
  refine .after ?_ (.closeEvent b _) h.inactive
  cases b with
  | fibre => exact (PortEnds.serve h _ .fibre).after (.serve hsilent _ .radio) h.inactive
  | radio => exact (PortEnds.serve hsilent _ .radio).before (.serve h _ .fibre) h.inactive hsilent.inactive

end

end Sys2Proof.Machine
end

section
/-! PROOFS. HALT: what ends, what stays, and what the ports still send (R55, R63, R85, R108, R126, R139, R164). -/

namespace Sys2Proof.Machine

section
variable {s t u : State} {cut : State → State} {b : Bearer}

/-! ## A wanted level that falls to NONE (R155, R164) -/

/-- The controller's action on the level NONE: nothing, a linger timer that starts, or a release where the linger is 0 s. -/
theorem actOnLevel_of_none (h : s.radio.wantedHeld = .none) :
    (∃ l, actOnLevel s = { s with radio := { s.radio with linger := l } })
      ∨ (s.radio.settings.linger = 0 ∧ s.radio.status = .ready ∧ actOnLevel s = enterReleasing .linger s) := by
  by_cases hstarts : (s.radio.status = .ready ∧ s.radio.outstanding = none) ∧ s.radio.wantedHeld = .none ∧ s.radio.linger = none
    ∧ s.radio.releaseDue = false
  · obtain ⟨⟨hready, hnone⟩, -, hlinger, hdue⟩ := hstarts
    rw [actOnLevel_of_unwanted hready hnone h hlinger hdue]
    by_cases hzero : s.radio.settings.linger = 0
    · exact .inr ⟨hzero, hready, startLinger_of_zero hzero⟩
    · exact .inl ⟨_, startLinger_of_some hzero⟩
  · exact .inl ⟨s.radio.linger, actOnLevel_of_rest (by simp [h]) (by simp [h]) hstarts⟩

/-- What a level that falls to NONE leaves: but for the module, and for the module port where the linger is 0 s, nothing changes. -/
structure LevelDropped (t u : State) : Prop where
  judge : ∃ h, u.radioJudge = { t.radioJudge with handed := h } ∨ u.radioJudge = { t.radioJudge.cleared with handed := h }
  waiting : u.waiting .fibre = t.waiting .fibre ∧ (u.waiting .radio = t.waiting .radio ∨ u.waiting .radio = [])
  stream : (∀ m ∈ t.sender.stream, m.bearer = .fibre) → u.sender.stream = t.sender.stream
  streamFibre : streamOn u .fibre = streamOn t .fibre
  lingers : t.radio.settings.linger ≠ 0 →
    u.sender = t.sender ∧ ∃ w l, u.radio = { t.radio with wantedHeld := w, linger := l }

/-- The release closes the module port alone. -/
theorem levelDropped_enterReleasing (hz : t.radio.settings.linger = 0) (hs : t.radio.status = .ready) :
    LevelDropped t (enterReleasing .linger t) := by
  obtain ⟨-, -, hjudge, hwaiting⟩ := enterReleasing_of_ready .linger hs
  have hsender : (enterReleasing .linger t).sender = (closePort .radio t).sender := by
    simp [enterReleasing, hs, sendCommand, leaveReady]
  have hstream : (closePort .radio t).sender.stream
      = if ∃ m ∈ t.sender.stream, m.bearer = .radio then none else t.sender.stream := by
    unfold closePort endStreamOn
    cases hm : (t.setWaiting .radio []).sender.stream with
    | none => simp_all [State.setWaiting]
    | some m =>
      have hm' : t.sender.stream = some m := hm
      dsimp only
      by_cases hb : m.bearer = .radio <;> simp [hb, hm']
  refine ⟨⟨t.radioJudge.cleared.handed, .inr hjudge⟩, ⟨(enterReleasing_ports .linger t).2, .inr hwaiting⟩, fun hf => ?_, ?_,
    fun hl => absurd hz hl⟩
  · rw [hsender, hstream, if_neg]
    rintro ⟨m, hm, hb⟩
    rw [hf m hm] at hb
    cases hb
  · rw [streamOn, streamOn, hsender, hstream]
    by_cases hm : ∃ m ∈ t.sender.stream, m.bearer = .radio
    · rw [if_pos hm]
      obtain ⟨m, hm, hb⟩ := hm
      simp [Option.mem_def.1 hm, hb]
    · rw [if_neg hm]

theorem levelDropped_handWanted (h : wantedLevel t = .none) : LevelDropped t (handWanted t) := by
  by_cases hmet : wantedLevel t = t.selector.wanted
  · rw [handWanted_of_met hmet]
    exact ⟨⟨t.radioJudge.handed, .inl rfl⟩, ⟨rfl, .inl rfl⟩, fun _ => rfl, rfl, fun _ => ⟨rfl, _, _, rfl⟩⟩
  · rw [handWanted_of_changed hmet, h]
    obtain ⟨l, he⟩ | ⟨hz, hs, he⟩ := actOnLevel_of_none (s := t.handed .none) rfl <;> rw [he]
    · exact ⟨⟨_, .inl rfl⟩, ⟨rfl, .inl rfl⟩, fun _ => rfl, rfl, fun _ => ⟨rfl, _, _, rfl⟩⟩
    · obtain ⟨-, hwaiting, hstream, hfibre, -⟩ := levelDropped_enterReleasing (t := t.handed .none) hz hs
      obtain ⟨-, -, hjudge, -⟩ := enterReleasing_of_ready (s := t.handed .none) .linger hs
      set released := enterReleasing .linger (t.handed .none)
      have htold := congrArg (fun j : Judge => { j with handed := released.eligible .radio }) hjudge
      exact ⟨⟨released.eligible .radio, .inr htold⟩, hwaiting, hstream, hfibre, fun hl => absurd hz hl⟩

/-! ## The state of a HALT before its event ends -/

/-- The state of a HALT before the level falls to NONE. -/
def halted (cut : State → State) (s : State) : State := judgesEnded (haltedCarrying cut s)

theorem halt_eq (hs : s.selector.status ≠ .stopped) (hcut : HaltCut cut) : halt cut s = handWanted (halted cut s) := by
  obtain ⟨hstopped, -⟩ := haltedCarrying_keeps hcut s
  rw [halted, ← endJudging_both hstopped, halt, if_neg hs]
  rfl

/-- An ECHO is no TALLY. -/
theorem filter_isEcho (q : List WaitingFrame) :
    (q.filter WaitingFrame.isEcho).filter (fun w => !w.isTally) = q.filter WaitingFrame.isEcho := by
  rw [List.filter_filter]
  exact List.filter_congr fun w _ => by cases w <;> rfl

/-- The replay sender after a HALT, but for the stream in progress (R15, R63, R85, R101). -/
def Sender.halted (x : Sender) : Sender :=
  { x with
    tallyOwed := false
    tallyTimer := none
    waitingFibre := x.waitingFibre.filter WaitingFrame.isEcho
    waitingRadio := x.waitingRadio.filter WaitingFrame.isEcho
    rewindPending := false
    announcePending := false
    pass := .none
    cursor := none
    passStopping := false
    passOwed := false }

/-- A bearer's judge after a HALT: reset, its decay clock stopped, and nothing told (R108, R126). -/
def Judge.halted (j : Judge) : Judge := { ({ j with decay := none } : Judge).cleared with handed := false }

theorem haltCarrying_sender (s : State) : (haltCarrying s).sender = s.sender.halted := by
  unfold Sender.halted
  rw [← filter_isEcho s.sender.waitingFibre, ← filter_isEcho s.sender.waitingRadio]
  rfl

/-- HALT's part at the ports leaves what is not theirs, and reads nothing that its part at the selector writes. -/
theorem haltCut_writes (hcut : HaltCut cut) (s : State) :
    (cut (haltSelector s)).fibre = (cut s).fibre ∧ (cut (haltSelector s)).radio = (cut s).radio
      ∧ (cut (haltSelector s)).sender = { s.sender with stream := (cut s).sender.stream }
      ∧ (cut (haltSelector s)).session = s.session ∧ (cut (haltSelector s)).receiver = s.receiver
      ∧ (cut (haltSelector s)).pause = (haltSelector s).pause ∧ (cut (haltSelector s)).selector = (haltSelector s).selector
      ∧ (cut (haltSelector s)).fibreJudge = s.fibreJudge ∧ (cut (haltSelector s)).radioJudge = s.radioJudge
      ∧ (cut (haltSelector s)).lanes = s.lanes ∧ (cut (haltSelector s)).home = s.home
      ∧ (cut (haltSelector s)).clock = s.clock ∧ (cut (haltSelector s)).carry = s.carry := by
  obtain rfl | rfl := hcut <;> simp [cutPorts]

/-- The carrying blocks' part of HALT, and the decay clocks that stop (R15, R94, R126). -/
theorem stopDecay_haltCarrying (s : State) :
    (stopDecay (haltCarrying s)).sender = s.sender.halted ∧ (stopDecay (haltCarrying s)).fibre = s.fibre
      ∧ (stopDecay (haltCarrying s)).radio = s.radio ∧ (stopDecay (haltCarrying s)).carry = s.carry
      ∧ (stopDecay (haltCarrying s)).session = { s.session with retry := none }
      ∧ (stopDecay (haltCarrying s)).receiver = { s.receiver with rewindTimer := none }
      ∧ (stopDecay (haltCarrying s)).selector = s.selector
      ∧ (stopDecay (haltCarrying s)).pause.selector = s.pause.selector ∧ (stopDecay (haltCarrying s)).pause.pass = false
      ∧ (stopDecay (haltCarrying s)).lanes = s.lanes ∧ (stopDecay (haltCarrying s)).home = s.home
      ∧ (stopDecay (haltCarrying s)).clock = s.clock
      ∧ (stopDecay (haltCarrying s)).fibreJudge = { s.fibreJudge with decay := none }
      ∧ (stopDecay (haltCarrying s)).radioJudge = { s.radioJudge with decay := none } := by
  refine ⟨haltCarrying_sender s, ?_⟩
  simp [haltCarrying, stopDecay, stopRewindTimer, abandonPass, clearTally, State.keepWaiting]

/-- The two judges' ends leave the other blocks. -/
theorem judgesEnded_blocks (s : State) :
    (judgesEnded s).fibre = s.fibre ∧ (judgesEnded s).carry = s.carry ∧ (judgesEnded s).lanes = s.lanes
      ∧ (judgesEnded s).home = s.home ∧ (judgesEnded s).clock = s.clock := by simp [judgesEnded, noted]

theorem halted_ports (hcut : HaltCut cut) (s : State) :
    (halted cut s).sender = { s.sender with stream := (cut s).sender.stream }.halted ∧ (halted cut s).fibre = (cut s).fibre
      ∧ (halted cut s).radio = (cut s).radio ∧ (halted cut s).carry = s.carry := by
  obtain ⟨hfibre, hradio, hsender, -, -, -, -, -, -, -, -, -, hcarry⟩ := haltCut_writes hcut s
  obtain ⟨csender, cfibre, cradio, ccarry, -⟩ := stopDecay_haltCarrying (cut (haltSelector s))
  obtain ⟨-, -, jsender, -, -, jradio⟩ := judgesEnded_keeps (haltedCarrying cut s)
  obtain ⟨jfibre, jcarry, -⟩ := judgesEnded_blocks (haltedCarrying cut s)
  rw [halted, jsender, jfibre, jradio, jcarry, haltedCarrying, csender, cfibre, cradio, ccarry, hfibre, hradio, hsender, hcarry]
  exact ⟨rfl, rfl, rfl, rfl⟩

/-- The other blocks after a HALT (R15, R94, R139). -/
theorem halted_writes (hcut : HaltCut cut) (s : State) :
    (halted cut s).session = { s.session with retry := none } ∧ (halted cut s).receiver = { s.receiver with rewindTimer := none }
      ∧ (halted cut s).selector = (haltSelector s).selector ∧ (halted cut s).pause.selector = true ∧ (halted cut s).pause.pass = false
      ∧ (halted cut s).lanes = s.lanes ∧ (halted cut s).home = s.home ∧ (halted cut s).clock = s.clock := by
  obtain ⟨-, -, -, hsession, hreceiver, hpause, hselector, -, -, hlanes, hhome, hclock, -⟩ := haltCut_writes hcut s
  obtain ⟨-, -, -, -, csession, creceiver, cselector, cpause, cpass, clanes, chome, cclock, -⟩ :=
    stopDecay_haltCarrying (cut (haltSelector s))
  obtain ⟨jpause, jsession, -, jreceiver, jselector, -⟩ := judgesEnded_keeps (haltedCarrying cut s)
  obtain ⟨-, -, jlanes, jhome, jclock⟩ := judgesEnded_blocks (haltedCarrying cut s)
  rw [halted, jpause, jsession, jreceiver, jselector, jlanes, jhome, jclock, haltedCarrying, csession, creceiver, cselector, cpause,
    cpass, clanes, chome, cclock, hsession, hreceiver, hpause, hselector, hlanes, hhome, hclock]
  exact ⟨rfl, rfl, rfl, rfl, rfl, rfl, rfl, rfl⟩

theorem judge_haltedCarrying (hcut : HaltCut cut) (s : State) (b : Bearer) :
    (haltedCarrying cut s).judge b = { s.judge b with decay := none } := by
  obtain ⟨-, -, -, -, -, -, -, hfibre, hradio, -⟩ := haltCut_writes hcut s
  obtain ⟨-, -, -, -, -, -, -, -, -, -, -, -, cfibre, cradio⟩ := stopDecay_haltCarrying (cut (haltSelector s))
  rw [hfibre] at cfibre
  rw [hradio] at cradio
  cases b with
  | fibre => exact cfibre
  | radio => exact cradio

theorem halted_judge (hcut : HaltCut cut) (s : State) (b : Bearer) : (halted cut s).judge b = (s.judge b).halted := by
  obtain ⟨hf, hr⟩ := judgesEnded_judges (haltedCarrying cut s)
  have hstopped := judge_haltedCarrying hcut s b
  cases b with
  | fibre => exact hf.trans (congrArg (fun j : Judge => { j.cleared with handed := false }) hstopped)
  | radio => exact hr.trans (congrArg (fun j : Judge => { j.cleared with handed := false }) hstopped)

/-- A judge that was UP reports its fall (R108, R120). -/
theorem flag_halted (hcut : HaltCut cut) (hv : (s.judge b).verdict = .up) :
    (halted cut s).events.flags.getLsbD (downFlag b).number = true := by
  set y := haltedCarrying cut s with hy
  have hreset : ∀ x : State, (x.judge b).verdict = .up → (resetJudge b x).events.flags.getLsbD (downFlag b).number = true :=
    fun x hx => by
      rw [resetJudge, hx]
      exact flag_report (downFlag b) _
  have hup : (y.judge b).verdict = .up := (congrArg Judge.verdict (judge_haltedCarrying hcut s b)).trans hv
  have hnoted : ∀ (c : Bearer) (x : State), FlagsStand x (noted c x) := fun c x => .of_eq (by simp [noted])
  cases b with
  | fibre => exact ((hnoted .fibre _).trans (.trans (.resetJudge .radio _) (hnoted .radio _))) _ (hreset y hup)
  | radio =>
    have hstill : ((noted .fibre (resetJudge .fibre y)).judge .radio).verdict = .up := by
      simpa [State.judge, noted] using hup
    exact hnoted .radio _ _ (hreset _ hstill)

end

end Sys2Proof.Machine
end

section
/-! PROOFS. HALT at the end of its event: what each port still sends (R55, R139, R171; log entries 24 and 27). -/

namespace Sys2Proof.Machine

section
variable {s t u : State} {cut : State → State} {b : Bearer}

/-! ## A HALT whose wanted level has fallen to NONE -/

theorem haltSelector_selector (s : State) : (haltSelector s).selector =
    { status := .stopped, pin := s.selector.pin, drainTimer := none, holdTimer := none, wanted := s.selector.wanted
      record := if s.draining then s.selector.record.map (fun r => { r with outcome := some .halted })
        else s.selector.record } := by
  cases hd : s.draining <;> simp [haltSelector, hd, completeRecord]

theorem levelDropped_halt (hs : s.selector.status ≠ .stopped) (hcut : HaltCut cut) :
    LevelDropped (halted cut s) (halt cut s) := by
  obtain ⟨-, -, hselector, -⟩ := halted_writes hcut s
  rw [halt_eq hs hcut]
  exact levelDropped_handWanted (by rw [wantedLevel, hselector, haltSelector_selector])

theorem selector_halt (hs : s.selector.status ≠ .stopped) (hcut : HaltCut cut) : (halt cut s).selector =
    { status := .stopped, pin := s.selector.pin, drainTimer := none, holdTimer := none, wanted := .none
      record := if s.draining then s.selector.record.map (fun r => { r with outcome := some .halted })
        else s.selector.record } := by
  obtain ⟨-, -, hselector, -⟩ := halted_writes hcut s
  have hlevel : wantedLevel (halted cut s) = .none := by rw [wantedLevel, hselector, haltSelector_selector]
  rw [halt_eq hs hcut, selector_handWanted, hlevel, hselector, haltSelector_selector]

theorem judge_halt (hs : s.selector.status ≠ .stopped) (hcut : HaltCut cut) (b : Bearer) :
    ∃ h, (halt cut s).judge b = { (s.judge b).halted with handed := h } := by
  have hjudge := halted_judge hcut s
  cases b with
  | fibre =>
    have hstill : (halt cut s).judge .fibre = (halted cut s).judge .fibre := by
      rw [halt_eq hs hcut]
      exact handWanted_fibreJudge _
    exact ⟨false, hstill.trans (hjudge .fibre)⟩
  | radio =>
    obtain ⟨h, he⟩ := (levelDropped_halt hs hcut).judge
    have hj : (halted cut s).radioJudge = s.radioJudge.halted := hjudge .radio
    rw [hj] at he
    obtain he | he := he <;> exact ⟨h, he⟩

theorem flag_halt (hs : s.selector.status ≠ .stopped) (hcut : HaltCut cut) (hv : (s.judge b).verdict = .up) :
    (halt cut s).events.flags.getLsbD (downFlag b).number = true := by
  rw [halt_eq hs hcut]
  exact FlagsStand.handWanted _ _ (flag_halted hcut hv)

/-- But for the stream and the waiting frames, the sender after a HALT. -/
theorem sender_halt (hs : s.selector.status ≠ .stopped) (hcut : HaltCut cut) :
    (halt cut s).sender.n = s.sender.n ∧ (halt cut s).sender.store = s.sender.store ∧ (halt cut s).sender.pass = .none
      ∧ (halt cut s).sender.cursor = none ∧ (halt cut s).sender.rewindPending = false
      ∧ (halt cut s).sender.announcePending = false ∧ (halt cut s).sender.passOwed = false
      ∧ (halt cut s).sender.tallyOwed = false ∧ (halt cut s).sender.tallyTimer = none := by
  obtain ⟨hsender, -⟩ := halted_ports hcut s
  simp [halt_eq hs hcut, hsender, Sender.halted]

theorem waiting_halted (hcut : HaltCut cut) (s : State) (b : Bearer) :
    (halted cut s).waiting b = (s.waiting b).filter WaitingFrame.isEcho := by
  obtain ⟨hsender, -⟩ := halted_ports hcut s
  cases b <;> simp [State.waiting, hsender, Sender.halted]

theorem settings_halted (hcut : HaltCut cut) (s : State) : (halted cut s).radio.settings = s.radio.settings := by
  obtain ⟨-, -, hmodule, -⟩ := halted_ports hcut s
  rw [hmodule]
  obtain rfl | rfl := hcut <;> rfl

theorem waiting_halt (hs : s.selector.status ≠ .stopped) (hcut : HaltCut cut) (b : Bearer) :
    ((halt cut s).waiting b = (s.waiting b).filter WaitingFrame.isEcho ∨ (halt cut s).waiting b = [])
      ∧ (b = .fibre ∨ s.radio.settings.linger ≠ 0 → (halt cut s).waiting b = (s.waiting b).filter WaitingFrame.isEcho) := by
  obtain ⟨-, ⟨hfibre, hradio⟩, -, -, hlingers⟩ := levelDropped_halt hs hcut
  rw [waiting_halted hcut] at hfibre hradio
  cases b with
  | fibre => exact ⟨.inl hfibre, fun _ => hfibre⟩
  | radio =>
    refine ⟨hradio, fun hl => ?_⟩
    obtain ⟨hsender, -⟩ := hlingers (by rw [settings_halted hcut]; exact hl.resolve_left (by simp))
    rw [← waiting_halted hcut]
    exact congrArg Sender.waitingRadio hsender

/-- A HALT leaves no bearer active, and nothing but ECHO frames waiting (R136, R139). -/
theorem silent_halt (hs : s.selector.status ≠ .stopped) (hcut : HaltCut cut) : Silent (halt cut s) := by
  refine ⟨?_, fun b w hw => ?_⟩
  · rw [State.active, selector_halt hs hcut]
    rfl
  · obtain hechoes | hnil := (waiting_halt hs hcut b).1
    · rw [hechoes] at hw
      exact (List.mem_filter.1 hw).2
    · simp [hnil] at hw

/-! ## The ports of a HALT -/

/-- The frame that is leaving a port leaves it still, unless the mode cuts it. -/
theorem leaving_halt (hs : s.selector.status ≠ .stopped) (hcut : HaltCut cut) (b : Bearer) :
    (halt cut s).leaving b = (cut s).leaving b := by
  obtain ⟨-, hfibre, hradio, -⟩ := halted_ports hcut s
  cases b <;> simp [State.leaving, halt_eq hs hcut, hfibre, hradio]

/-- With a linger above 0 s the module goes on: what changes is the level it holds and its linger timer. -/
theorem radio_halt (hs : s.selector.status ≠ .stopped) (hcut : HaltCut cut) (hl : s.radio.settings.linger ≠ 0) :
    (halt cut s).sender = (halted cut s).sender
      ∧ ∃ w l, (halt cut s).radio = { (cut s).radio with wantedHeld := w, linger := l } := by
  obtain ⟨-, -, hradio, -⟩ := halted_ports hcut s
  rw [← hradio]
  exact (levelDropped_halt hs hcut).lingers (by rwa [settings_halted hcut])

theorem stream_halted (hcut : HaltCut cut) (s : State) : (halted cut s).sender.stream = (cut s).sender.stream := by
  obtain ⟨hsender, -⟩ := halted_ports hcut s
  rw [hsender]
  rfl

theorem stream_halt (hs : s.selector.status ≠ .stopped) (hcut : HaltCut cut)
    (hl : s.radio.settings.linger ≠ 0 ∨ ∀ m ∈ (cut s).sender.stream, m.bearer = .fibre) :
    (halt cut s).sender.stream = (cut s).sender.stream := by
  rw [← stream_halted hcut] at hl ⊢
  obtain hl | hl := hl
  · exact congrArg Sender.stream (radio_halt hs hcut hl).1
  · exact (levelDropped_halt hs hcut).stream hl

/-- A port is as free as the mode leaves it, with the stream that is in progress there. -/
theorem portFree_halt (hs : s.selector.status ≠ .stopped) (hcut : HaltCut cut) (hb : b = .fibre ∨ s.radio.settings.linger ≠ 0) :
    (halt cut s).portFree b = (cut s).portFree b ∧ streamOn (halt cut s) b = streamOn (cut s) b := by
  have hstreams : ∀ c, streamOn (halted cut s) c = streamOn (cut s) c := fun c => by
    rw [streamOn, stream_halted hcut]
    rfl
  cases b with
  | fibre =>
    obtain ⟨-, hfibre, -⟩ := halted_ports hcut s
    exact ⟨by simp [State.portFree, halt_eq hs hcut, hfibre], ((levelDropped_halt hs hcut).streamFibre).trans (hstreams .fibre)⟩
  | radio =>
    obtain ⟨hsender, w, l, hradio⟩ := radio_halt hs hcut (hb.resolve_left (by simp))
    refine ⟨by simp [State.portFree, hradio], ?_⟩
    rw [← hstreams, streamOn, hsender]
    rfl

/-! ## The end of the event -/

/-- An ECHO that starts carries the PROBE's tag, epoch and bearer field (log entry 24). -/
theorem PortEnds.echo_starts (h : PortEnds b u t) {p : Byte} {r : BitVec 2} {e : BitVec 16} {rest : List WaitingFrame}
    (hfree : u.portFree b = true) (hstream : streamOn u b = none) (hw : u.waiting b = .echo p r e :: rest)
    (hc : u.carry = s.carry) (hm : u.radio.settings = s.radio.settings) (he : u.receiver.e = s.receiver.e)
    (ht : t.sender.tallyOwed = false ∧ t.sender.tallyTimer = none) :
    t.waiting b = rest ∧ FrameStarts b ⟨1, 8, 0, false, false, false, r, p, e, 0, s.receiver.e, 0, []⟩ s t := by
  obtain ⟨hwaiting, hleaving, hport, -⟩ := h.starts _ rest hfree hstream hw
  have hframe : (WaitingFrame.echo p r e).frame b u = ⟨1, 8, 0, false, false, false, r, p, e, 0, s.receiver.e, 0, []⟩ := by
    rw [← he]
    rfl
  have hwire : wireOf b ((WaitingFrame.echo p r e).frame b u) u = wireOf b ((WaitingFrame.echo p r e).frame b u) s := by
    cases b <;> simp [wireOf, hc]
  rw [hwire] at hleaving
  rw [hframe] at hleaving hport
  rw [hm] at hport
  exact ⟨hwaiting, hleaving, hport, fun _ => ht⟩

end

end Sys2Proof.Machine
end

section
/-! PROOFS. HALT as a command: its refusals, and what its event leaves (R139). -/

namespace Sys2Proof.Machine

section
variable {s : State} {cut : State → State} {b : Bearer} {tag mode : Byte} {c : Instr}

/-! ## What a port does at the end of a HALT -/

/-- Behind a port that is not free, or a stream, the ECHO frames wait on. -/
theorem halt_waits (hs : s.selector.status ≠ .stopped) (hcut : HaltCut cut) (before : State)
    (hb : b = .fibre ∨ s.radio.settings.linger ≠ 0)
    (h : (cut s).portFree b = false ∨ ∃ m ∈ (cut s).sender.stream, m.bearer = b ∧ m.stopping = false) :
    (finish false before (halt cut s)).waiting b = (s.waiting b).filter WaitingFrame.isEcho := by
  obtain ⟨hrests, hmarks, -⟩ := PortEnds.finish (silent_halt hs hcut) false before b
  obtain ⟨hfree, hstream⟩ := portFree_halt hs hcut hb
  rw [← (waiting_halt hs hcut b).2 hb]
  obtain hbusy | hruns := h
  · exact (hrests (.inl (hfree.trans hbusy))).2.1
  · obtain ⟨k, hk⟩ : ∃ k, streamOn (halt cut s) b = some k := by
      rw [hstream, ← Option.ne_none_iff_exists']
      exact fun hnone => streamOn_eq_none_iff.1 hnone hruns
    exact hmarks k hk

/-- A port that no frame of a HALT is for stays as the mode leaves it. -/
theorem halt_idles (hs : s.selector.status ≠ .stopped) (hcut : HaltCut cut) (before : State)
    (hstream : streamOn (halt cut s) b = none) (hnone : (s.waiting b).filter WaitingFrame.isEcho = []) :
    (finish false before (halt cut s)).waiting b = [] ∧ (finish false before (halt cut s)).leaving b = (cut s).leaving b := by
  obtain ⟨hrests, -⟩ := PortEnds.finish (silent_halt hs hcut) false before b
  have hempty : (halt cut s).waiting b = [] := by
    obtain hechoes | hnil := (waiting_halt hs hcut b).1
    · exact hechoes.trans hnone
    · exact hnil
  obtain ⟨hleaving, hwaiting, -⟩ := hrests (.inr ⟨hstream, hempty⟩)
  exact ⟨hwaiting.trans hempty, hleaving.trans (leaving_halt hs hcut b)⟩

/-- A port that is not free keeps the frame that is leaving it. -/
theorem halt_busy (hs : s.selector.status ≠ .stopped) (hcut : HaltCut cut) (before : State)
    (h : ((cut s).leaving b).isSome = true) : (finish false before (halt cut s)).leaving b = (cut s).leaving b := by
  obtain ⟨hrests, -⟩ := PortEnds.finish (silent_halt hs hcut) false before b
  have hbusy : (halt cut s).portFree b = false := portFree_eq_false_of_leaving (by rwa [leaving_halt hs hcut])
  exact (hrests (.inl hbusy)).1.trans (leaving_halt hs hcut b)

/-- The event's end leaves the sender after a HALT, but for the frames that wait. -/
theorem sender_finish_halt (hs : s.selector.status ≠ .stopped) (hcut : HaltCut cut) (before : State) :
    (finish false before (halt cut s)).sender.unwaiting = (halt cut s).sender.unwaiting :=
  (SilentKept.finish (silent_halt hs hcut) false before).sender

/-- The first ECHO leaves a free port (R55). -/
theorem halt_echoes (hs : s.selector.status ≠ .stopped) (hcut : HaltCut cut) (before : State)
    (hb : b = .fibre ∨ s.radio.settings.linger ≠ 0) (hfree : (cut s).portFree b = true)
    (hstream : ∀ m ∈ (cut s).sender.stream, m.bearer ≠ b) {p : Byte} {r : BitVec 2} {e : BitVec 16} {rest : List WaitingFrame}
    (hecho : (s.waiting b).filter WaitingFrame.isEcho = .echo p r e :: rest) :
    (finish false before (halt cut s)).waiting b = rest
      ∧ FrameStarts b ⟨1, 8, 0, false, false, false, r, p, e, 0, s.receiver.e, 0, []⟩ s (finish false before (halt cut s)) := by
  obtain ⟨hfrees, hstreams⟩ := portFree_halt hs hcut hb
  have hidle : streamOn (halt cut s) b = none :=
    hstreams.trans (streamOn_eq_none_iff.2 fun ⟨m, hm, hbearer, _⟩ => hstream m hm hbearer)
  have hsender := sender_finish_halt hs hcut before
  obtain ⟨-, -, -, -, -, -, -, howed, htimer⟩ := sender_halt hs hcut
  obtain ⟨-, -, -, hcarry⟩ := halted_ports hcut s
  obtain ⟨-, hreceiver, -⟩ := halted_writes hcut s
  refine (PortEnds.finish (silent_halt hs hcut) false before b).echo_starts (hfrees.trans hfree) hidle
    (((waiting_halt hs hcut b).2 hb).trans hecho) ?_ ?_ ?_ ⟨?_, ?_⟩
  · simp [halt_eq hs hcut, hcarry]
  · simp [halt_eq hs hcut, settings_halted hcut]
  · simp [halt_eq hs hcut, hreceiver]
  · exact (congrArg Sender.tallyOwed hsender).trans howed
  · exact (congrArg Sender.tallyTimer hsender).trans htimer

/-- A module port that nothing starts on keeps its handshake, with a linger above 0 s (R171). -/
theorem halt_handshake (hs : s.selector.status ≠ .stopped) (hcut : HaltCut cut) (before : State)
    (hl : s.radio.settings.linger ≠ 0)
    (h : s.radio.handshake ≠ .free ∨ ((s.waiting .radio).filter WaitingFrame.isEcho = []
      ∧ ∀ m ∈ (cut s).sender.stream, m.bearer = .fibre)) :
    (finish false before (halt cut s)).radio.handshake = s.radio.handshake
      ∧ (finish false before (halt cut s)).radio.held = s.radio.held
      ∧ (finish false before (halt cut s)).radio.stallCount = s.radio.stallCount := by
  obtain ⟨hrests, -⟩ := PortEnds.finish (silent_halt hs hcut) false before .radio
  obtain ⟨hfree, hstream⟩ := portFree_halt (b := .radio) hs hcut (.inr hl)
  obtain ⟨-, w, l, hradio⟩ := radio_halt hs hcut hl
  have hkept : (cut s).radio.handshake = s.radio.handshake ∧ (cut s).radio.held = s.radio.held
      ∧ (cut s).radio.stallCount = s.radio.stallCount := by obtain rfl | rfl := hcut <;> exact ⟨rfl, rfl, rfl⟩
  have hstays : (finish false before (halt cut s)).radio = (halt cut s).radio := by
    refine (hrests ?_).2.2 rfl
    obtain hbusy | ⟨hnone, hfibre⟩ := h
    · exact .inl (hfree.trans (by simp [State.portFree, hkept.1, hbusy]))
    · refine .inr ⟨hstream.trans (streamOn_eq_none_iff.2 fun ⟨m, hm, hb, _⟩ => ?_),
        ((waiting_halt hs hcut .radio).2 (.inr hl)).trans hnone⟩
      rw [hfibre m hm] at hb
      cases hb
  rw [hstays, hradio]
  exact hkept

/-- Both judges at the end of a HALT's event. -/
theorem halt_judges (hs : s.selector.status ≠ .stopped) (hcut : HaltCut cut) (before : State) (b : Bearer) :
    ((finish false before (halt cut s)).judge b).timer = none ∧ ((finish false before (halt cut s)).judge b).verdict = .down
      ∧ ((finish false before (halt cut s)).judge b).decay = none ∧ ((finish false before (halt cut s)).judge b).table = []
      ∧ ((finish false before (halt cut s)).judge b).srtt = none
      ∧ ((finish false before (halt cut s)).judge b).penalty = (s.judge b).penalty
      ∧ ((finish false before (halt cut s)).judge b).suppressed = (s.judge b).suppressed := by
  obtain ⟨k, hk⟩ := judge_halt hs hcut b
  rw [(SilentKept.finish (silent_halt hs hcut) false before).judge b, hk]
  exact ⟨rfl, rfl, rfl, rfl, rfl, rfl, rfl⟩

/-- The carrying blocks at the end of a HALT's event. -/
theorem halt_blocks (hs : s.selector.status ≠ .stopped) (hcut : HaltCut cut) (before : State) :
    (finish false before (halt cut s)).session = { s.session with retry := none }
      ∧ (finish false before (halt cut s)).receiver = { s.receiver with rewindTimer := none }
      ∧ (finish false before (halt cut s)).pause.selector = true ∧ (finish false before (halt cut s)).pause.pass = false
      ∧ (finish false before (halt cut s)).lanes = s.lanes ∧ (finish false before (halt cut s)).home = s.home
      ∧ (finish false before (halt cut s)).clock = s.clock := by
  obtain ⟨hsession, hreceiver, -, hpause, hpass, hlanes, hhome, hclock⟩ := halted_writes hcut s
  have hsilent := silent_halt hs hcut
  have hpauses := (SilentKept.finish hsilent false before).pause
  have hqueues := (DataHeld.finish (.inl hsilent.inactive) false before).lanes
  rw [hpauses, hqueues, halt_eq hs hcut]
  simp [hsession, hreceiver, hpause, hpass, hlanes, hhome, hclock]

/-- The sender at the end of a HALT's event, but for the stream and the waiting frames. -/
theorem halt_sender (hs : s.selector.status ≠ .stopped) (hcut : HaltCut cut) (before : State) :
    (finish false before (halt cut s)).sender.n = s.sender.n ∧ (finish false before (halt cut s)).sender.store = s.sender.store
      ∧ (finish false before (halt cut s)).sender.pass = .none ∧ (finish false before (halt cut s)).sender.cursor = none
      ∧ (finish false before (halt cut s)).sender.rewindPending = false
      ∧ (finish false before (halt cut s)).sender.announcePending = false
      ∧ (finish false before (halt cut s)).sender.passOwed = false ∧ (finish false before (halt cut s)).sender.tallyOwed = false
      ∧ (finish false before (halt cut s)).sender.tallyTimer = none := by
  have hsender := sender_finish_halt hs hcut before
  obtain ⟨hn, hstore, hpass, hcursor, hrewind, hannounce, howed, htally, htimer⟩ := sender_halt hs hcut
  exact ⟨(congrArg Sender.n hsender).trans hn, (congrArg Sender.store hsender).trans hstore,
    (congrArg Sender.pass hsender).trans hpass, (congrArg Sender.cursor hsender).trans hcursor,
    (congrArg Sender.rewindPending hsender).trans hrewind, (congrArg Sender.announcePending hsender).trans hannounce,
    (congrArg Sender.passOwed hsender).trans howed, (congrArg Sender.tallyOwed hsender).trans htally,
    (congrArg Sender.tallyTimer hsender).trans htimer⟩

theorem halt_stream (hs : s.selector.status ≠ .stopped) (hcut : HaltCut cut) (before : State)
    (hl : s.radio.settings.linger ≠ 0 ∨ ∀ m ∈ (cut s).sender.stream, m.bearer = .fibre) :
    (finish false before (halt cut s)).sender.stream = (cut s).sender.stream :=
  (congrArg Sender.stream (sender_finish_halt hs hcut before)).trans (stream_halt hs hcut hl)

/-! ## The command (R139) -/

/-- What a mode of HALT does at the ports. -/
def haltCut (mode : Byte) : State → State := if mode = 0 then cutPorts else id

theorem haltCut_is (mode : Byte) : HaltCut (haltCut mode) := by
  unfold haltCut
  split
  · exact .inl rfl
  · exact .inr rfl

/-- The two rows of HALT, each for a body of its own or another mode (log entry 27). -/
theorem exec_halt {a : Answer} (h : Takes s 0x0E tag [mode])
    (hc : (c = .haltImmediate ∧ mode ≠ 1) ∨ (c = .haltAtBoundary ∧ mode ≠ 0)) (ha : answerHalt [mode] s = a) :
    exec c s = .next (finish a.opportunity s (a.effect (s.replied 0x0E tag a.body))) := by
  obtain ⟨rfl, hm⟩ | ⟨rfl, hm⟩ := hc
  · exact runActing_of_takes h rfl (by simpa using hm) ha
  · exact runActing_of_takes h rfl (by simpa using hm) ha

theorem answerHalt_of_large (h : 2 ≤ mode.toNat) : answerHalt [mode] s = .refuse .badValue := by
  have h0 : mode ≠ 0 := by rintro rfl; simp at h
  have h1 : mode ≠ 1 := by rintro rfl; simp at h
  have hbyte : byteAt [mode] 0 = mode := rfl
  rw [answerHalt, hbyte, if_neg h0, if_neg h1]

theorem answerHalt_of_mode (h : mode.toNat ≤ 1) : answerHalt [mode] s = .apply (halt (haltCut mode)) := by
  have hbyte : byteAt [mode] 0 = mode := rfl
  rw [answerHalt, hbyte, haltCut]
  by_cases h0 : mode = 0
  · rw [if_pos h0, if_pos h0]
  · have h1 : mode = 1 := by bv_omega
    rw [if_neg h0, if_neg h0, if_pos h1]

theorem exec_halt_of_mode (h : Takes s 0x0E tag [mode])
    (hc : (c = .haltImmediate ∧ mode ≠ 1) ∨ (c = .haltAtBoundary ∧ mode ≠ 0)) (hm : mode.toNat ≤ 1) :
    exec c s = .next (finish false s (halt (haltCut mode) (s.replied 0x0E tag [0]))) := by
  rw [exec_halt h hc (answerHalt_of_mode hm)]
  rfl

theorem exec_halt_of_large (h : Takes s 0x0E tag [mode])
    (hc : (c = .haltImmediate ∧ mode ≠ 1) ∨ (c = .haltAtBoundary ∧ mode ≠ 0)) (hm : 2 ≤ mode.toNat) :
    exec c s = .next (finish false s (s.replied 0x0E tag [2])) := by
  rw [exec_halt h hc (answerHalt_of_large hm)]
  rfl

theorem halt_of_stopped (hs : s.selector.status = .stopped) : halt cut s = s := if_pos hs

theorem stream_haltCut (mode : Byte) (s : State) :
    (haltCut mode s).sender.stream = if mode = 0 then none else s.sender.stream := by
  unfold haltCut
  split <;> rfl

theorem filter_isEcho_of_any {q : List WaitingFrame} (h : q.any WaitingFrame.isEcho = false) : q.filter WaitingFrame.isEcho = [] := by
  simpa using h

/-- IMMEDIATE leaves nothing on a port that no ECHO waits for (R63, R85). -/
theorem haltImmediate_leaves (hs : s.selector.status ≠ .stopped) (before : State) :
    (finish false before (halt (haltCut 0) s)).sender.stream = none
      ∧ ∀ b, (s.waiting b).any WaitingFrame.isEcho = false → (finish false before (halt (haltCut 0) s)).leaving b = none := by
  have hcut := haltCut_is 0
  have hnone : (haltCut 0 s).sender.stream = none := rfl
  have hfibre : ∀ m ∈ (haltCut 0 s).sender.stream, m.bearer = .fibre := fun m hm => by
    rw [hnone] at hm
    cases hm
  have hstream := stream_halt hs hcut (.inr hfibre)
  refine ⟨(halt_stream hs hcut before (.inr hfibre)).trans hnone, fun b he => ?_⟩
  obtain ⟨-, hleaving⟩ := halt_idles hs hcut before (streamOn_of_none (hstream.trans hnone) b) (filter_isEcho_of_any he)
  exact hleaving.trans (by cases b <;> rfl)

/-- AT_BOUNDARY lets the stream, and a frame that is leaving, complete (R63, R85). -/
theorem haltAtBoundary_leaves (hs : s.selector.status ≠ .stopped) (before : State) :
    (s.radio.settings.linger ≠ 0 ∨ (∀ m ∈ s.sender.stream, m.bearer = .fibre) →
        (finish false before (halt (haltCut 1) s)).sender.stream = s.sender.stream)
      ∧ ∀ b, (s.leaving b).isSome = true → (finish false before (halt (haltCut 1) s)).leaving b = s.leaving b :=
  ⟨halt_stream hs (haltCut_is 1) before, fun _ => halt_busy hs (haltCut_is 1) before⟩

/-- A free port that no stream holds takes the first ECHO, or nothing (R55). -/
theorem halt_idle_free (hs : s.selector.status ≠ .stopped) (hcut : HaltCut cut) (before : State)
    (hb : b = .fibre ∨ s.radio.settings.linger ≠ 0) (hfree : (cut s).portFree b = true)
    (hstream : ∀ m ∈ (cut s).sender.stream, m.bearer ≠ b) (hnone : (s.waiting b).filter WaitingFrame.isEcho = []) :
    (finish false before (halt cut s)).waiting b = [] ∧ (finish false before (halt cut s)).leaving b = none := by
  obtain ⟨-, hstreams⟩ := portFree_halt hs hcut hb
  have hidle := hstreams.trans (streamOn_eq_none_iff.2 fun ⟨m, hm, hbearer, _⟩ => hstream m hm hbearer)
  obtain ⟨hwaiting, hleaving⟩ := halt_idles hs hcut before hidle hnone
  have hempty : (cut s).leaving b = none := by
    by_contra hsome
    rw [portFree_eq_false_of_leaving (Option.isSome_iff_ne_none.2 hsome)] at hfree
    cases hfree
  exact ⟨hwaiting, hleaving.trans hempty⟩

/-- What a mode of HALT does at the ports is the same before and after the reply. -/
theorem haltCut_replied (s : State) (tag mode : Byte) (b : Bearer) :
    (haltCut mode (s.replied 0x0E tag [0])).portFree b = (haltCut mode s).portFree b
      ∧ (haltCut mode (s.replied 0x0E tag [0])).leaving b = (haltCut mode s).leaving b
      ∧ (haltCut mode (s.replied 0x0E tag [0])).sender = (haltCut mode s).sender := by
  unfold haltCut
  split <;> cases b <;> exact ⟨rfl, rfl, rfl⟩

end

end Sys2Proof.Machine

open Sys2Proof.Machine in
/-- Settles O17: with no bearer active the event's end can only go on with a stream or take the first ECHO on each port. -/
theorem haltStopsCarrying : Obligations.HaltStopsCarrying := by
  intro s tag mode c cut h hc
  have hcuts : cut = haltCut mode s := by
    simp only [cut, haltCut]
    split <;> rfl
  refine ⟨exec_halt_of_large h hc, fun hm hs => ?_, fun hm hs => ⟨_, exec_halt_of_mode h hc hm, ?_⟩⟩
  · rw [exec_halt_of_mode h hc hm]
    exact congrArg (fun t => Host.Outcome.next (finish false s t)) (halt_of_stopped (s := s.replied 0x0E tag [0]) hs)
  have hcut := haltCut_is mode
  have hys : (s.replied 0x0E tag [0]).selector.status ≠ .stopped := hs
  have hports := haltCut_replied s tag mode
  have hstream := stream_haltCut mode (s.replied 0x0E tag [0])
  obtain ⟨hsession, hreceiver, hpause, hpass, hlanes, hhome, hclock⟩ := halt_blocks hys hcut s
  obtain ⟨hn, hstore, hnopass, hcursor, hrewind, hannounce, howed, htally, htimer⟩ := halt_sender hys hcut s
  obtain ⟨ftimer, fverdict, fdecay, ftable, fsrtt, fpenalty, fsuppressed⟩ := halt_judges hys hcut s .fibre
  obtain ⟨rtimer, rverdict, rdecay, rtable, rsrtt, rpenalty, rsuppressed⟩ := halt_judges hys hcut s .radio
  have hselector := selector_halt hys hcut
  refine ⟨Eq.trans (by simp) hselector, hpause, hpass, ftimer, fverdict, fdecay, ftable, fsrtt, fpenalty, fsuppressed, rtimer,
    rverdict, rdecay, rtable, rsrtt, rpenalty, rsuppressed, fun hv => ?_, fun hv => ?_, hsession, hreceiver, hn, hstore, hnopass,
    hcursor, hrewind, hannounce, howed, htally, htimer, hlanes, hhome, hclock, fun hl hfree => ?_,
    fun b hb => ⟨fun hbusy => ?_, fun hfree hnone => ?_⟩, fun h0 => ?_, fun h1 => ?_⟩
  · exact FlagsStand.finish false s _ _ (flag_halt (b := .fibre) hys hcut hv)
  · exact FlagsStand.finish false s _ _ (flag_halt (b := .radio) hys hcut hv)
  · refine halt_handshake hys hcut s hl (hfree.imp_right fun ⟨hnone, hfibre⟩ => ⟨filter_isEcho_of_any hnone, fun m hm => ?_⟩)
    rw [hstream] at hm
    split at hm
    · cases hm
    · next h0 => exact hfibre.resolve_left h0 m hm
  · obtain ⟨hsame, -, hsender⟩ := hports b
    rw [hcuts, ← hsame, ← hsender] at hbusy
    exact halt_waits hys hcut s hb hbusy
  · obtain ⟨hsame, -, hsender⟩ := hports b
    rw [hcuts, ← hsame] at hfree
    rw [hcuts, ← hsender] at hnone
    cases hq : (s.waiting b).filter WaitingFrame.isEcho with
    | nil => exact halt_idle_free hys hcut s hb hfree hnone hq
    | cons w rest =>
      have hecho : w.isEcho = true := (List.mem_filter.1 (hq ▸ List.mem_cons_self)).2
      cases w with
      | echo p r e =>
        obtain ⟨hwaiting, hframe⟩ := halt_echoes hys hcut s hb hfree hnone hq
        exact ⟨hwaiting, hframe.congr rfl rfl rfl⟩
      | _ => cases hecho
  · subst h0
    obtain ⟨hends, hleaves⟩ := haltImmediate_leaves hys s
    exact ⟨hends, hleaves .fibre, hleaves .radio⟩
  · subst h1
    obtain ⟨hgoes, hleaves⟩ := haltAtBoundary_leaves hys s
    exact ⟨hgoes, hleaves .fibre, hleaves .radio⟩
end
